-- ==== Sys2Proof/Word.lean ====
section
/-! DEFINITION. The word types of the part's lines: 16-bit link words (R175) and 8-bit station line characters (R196). -/

namespace Sys2Proof

/-- One word of the line link (chapter 9). -/
abbrev Word := BitVec 16

/-- One character of a station line (section 9.8). -/
abbrev Byte := BitVec 8

end Sys2Proof
end

