-- ==== Sys2Proof/Syntax.lean ====
section
/-! DEFINITION. The commands of the part, one constructor for each row of spec/opcode_table.json, and the types of their
operands. An operand holds what the spec gives the event as its content (section 3.1, R175, R196). -/

namespace Sys2Proof

/-- A ticket: order number and copy number (R178: 24 bits and 8 bits). -/
structure Ticket where
  order : BitVec 24
  copy : BitVec 8
deriving DecidableEq, Repr, Inhabited

/-- A title key, 20 bits (R178). -/
abbrev TitleKey := BitVec 20

/-- What a reader of a station reports: UNREADABLE, or the mark it read (section 3.1). -/
inductive Reading (α : Type) where
  | unreadable
  | named (value : α)
deriving DecidableEq, Repr, Inhabited

/-- The six machine stations. -/
inductive Station where
  | s1 | s2 | s3 | s4 | s5 | s6
deriving DecidableEq, Repr, Inhabited

/-- The two case holding lanes. -/
inductive LaneId where
  | a | b
deriving DecidableEq, Repr, Inhabited

/-- A word as it arrives on the line link, with or without frame sync (R175). -/
structure LinkWord where
  sync : Bool
  word : Word
deriving DecidableEq, Repr, Inhabited

/-- Where a frame that answers a request was kept: the refusal place or an answer place (R179, R181). -/
inductive AnswerPlace where
  | refusal | answer
deriving DecidableEq, Repr, Inhabited

/-- The commands. The rows that execute a request have no operand: the Request Handler takes the request at the head of the
request queue (R180), which State holds. -/
inductive Instr where
  /-- R198 -/
  | deviceReset
  /-- R201 -/
  | driveStopAfterReset
  /-- R200 -/
  | portQuietTime (station : Station)
  /-- R49 -/
  | messageCharacterTimeout (station : Station)
  /-- R49: the characters of the message, kind first and sum last -/
  | damagedMessage (station : Station) (bytes : List Byte)
  /-- R175, R177: the words that arrive, the last of them completing the frame -/
  | requestFrame (words : List LinkWord)
  /-- R176: the words that arrive, then the word with frame sync that cuts the frame short -/
  | frameCutShort (words : List LinkWord) (header : Word)
  /-- R181 -/
  | answerSent (place : AnswerPlace)
  /-- R185 -/
  | noticeSent
  /-- R14, R15 -/
  | admitBook
  /-- R16 -/
  | withdrawBook
  /-- R18, R19 -/
  | attachParameters
  /-- R20 -/
  | queryBook
  /-- R21, R22 -/
  | forceRetire
  /-- R39 to R44 -/
  | loadTitle
  /-- R45, R46 -/
  | dropTitle
  /-- R47 -/
  | queryTitle
  /-- R48 -/
  | readTitleSlot
  /-- R188 -/
  | setParameter
  /-- R125, R126 -/
  | setFloor
  /-- R140 -/
  | loadJackets
  /-- R150 -/
  | releaseJacketer
  /-- R187 -/
  | status
  /-- R162 -/
  | run
  /-- R164 -/
  | stopSoft
  /-- R166 -/
  | stopNow
  /-- R168 -/
  | runOut
  /-- R171 -/
  | release
  /-- R173 -/
  | clearLine
  /-- R56: the thickness as the body's one byte -/
  | blockReadS1 (ticket : Reading Ticket) (thickness : Byte)
  /-- R65 -/
  | blockReadS3 (ticket : Reading Ticket)
  /-- R74 -/
  | caseRead (key : Reading TitleKey)
  /-- R85: the lane byte as received (R196) -/
  | purgeDone (lane : Byte)
  /-- R87 -/
  | purgeTimeout (lane : LaneId)
  /-- R91 -/
  | marriageWaitExpiry
  /-- R93, R94 -/
  | married (ticket : Reading Ticket)
  /-- R100: a signed number of two bytes (R196) -/
  | temperature (value : Word)
  /-- R109 -/
  | indexReady
  /-- R111 -/
  | indexDone (clampTime : Word) (cycleTime : Word)
  /-- R119 -/
  | idleTimerExpiry
  /-- R64, R65 -/
  | exitRead (ticket : Reading Ticket)
  /-- R64, R65 -/
  | bookArrived (ticket : Reading Ticket)
  /-- R145 to R148 -/
  | jacketRead (key : Reading TitleKey)
  /-- R149 -/
  | applied (ticket : Reading Ticket)
  /-- R154 -/
  | bookRead (ticket : Reading Ticket)
  /-- R67 -/
  | passed (ticket : Reading Ticket)
  /-- R124 -/
  | floor (station : Station) (value : Word)
  /-- R161 -/
  | lineCommandNamingNoCommand
deriving DecidableEq, Repr

end Sys2Proof
end

