-- ==== Sys2Proof/Config.lean ====
section
/-! DEFINITION. The fixed sizes and times of the part, each with the rule that gives it, and the two free values of the model. -/

namespace Sys2Proof.Config

/-- R1 -/
def liveRecords : Nat := 64
/-- Section 9.2: requests queued and answer places. -/
def answerPlaces : Nat := 8
/-- R183 -/
def noticePlaces : Nat := 32
/-- R33 -/
def pendingKeys : Nat := 8
/-- Section 3.2 -/
def infeedPlaces : Nat := 3
/-- Section 3.2 -/
def jacketPlaces : Nat := 3
/-- Section 3.2 -/
def deliveryPlaces : Nat := 2
/-- Section 4.1 -/
def laneCases : Nat := 10
/-- R139 -/
def jacketKeys : Nat := 32
/-- R151: the mismatch count at which the jacketer enters BYPASS -/
def bypassCount : Nat := 3
/-- R175: the largest word count of a request frame -/
def requestWords : Nat := 40
/-- R84, in ms -/
def purgeTime : Nat := 20000
/-- R200, in ms -/
def quietTime : Nat := 20
/-- R201, in ms -/
def driveStopTime : Nat := 20
/-- The upper end of every 16-bit count that saturates (R3, R12, R49, R179). -/
def saturation : Nat := 65535

/-- R181: the idle word, of frame type 00h (section 9.7). -/
def idleWord : Word := 0

/-- DESIGN CHOICE (log 12), safe: the lane that row 4 of R80 takes when BOTH lanes are PURGING of kind EXCHANGE with carried
key none. The spec does not say which, so the value is free: nothing constrains it. -/
opaque exchangeLane : Nat → LaneId

/-- DESIGN CHOICE (log 23), safe: the key as which the three bytes of a title key in a station message are taken when the number
they carry is above 1 048 575, the largest key. The spec does not say, so the value is free: nothing constrains it. -/
opaque overrangeKey : BitVec 24 → TitleKey

end Sys2Proof.Config
end

