-- ==== Sys2Proof/Decode.lean ====
section
/-! DEFINITION. Decoding. The table gives no row a word, so `decodeTableWord` spells no command; the check that a Station Line
Port makes on the characters of a station message (R49, R196), and the command that a good message's characters spell, stand here
too. -/

namespace Sys2Proof

/-- The command that a word of the opcode table's bits spells: none, since no row of spec/opcode_table.json has bits. -/
def decodeTableWord (_nbits _w : Nat) : Option Instr := none

/-- The body length of a message kind that a station sends, or none for a kind it does not send (R196). -/
def messageLength : Station → Nat → Option Nat
  | .s1, 0x11 => some 5
  | .s2, 0x12 => some 3
  | .s2, 0x13 => some 1
  | .s3, 0x11 => some 4
  | .s3, 0x14 => some 4
  | .s4, 0x15 => some 4
  | .s4, 0x16 => some 0
  | .s4, 0x17 => some 4
  | .s4, 0x18 => some 2
  | .s5, 0x19 => some 4
  | .s5, 0x1A => some 3
  | .s5, 0x1B => some 4
  | .s6, 0x1C => some 4
  | .s6, 0x1E => some 4
  | .s1, 0x1D => some 2
  | .s2, 0x1D => some 2
  | .s3, 0x1D => some 2
  | .s5, 0x1D => some 2
  | .s6, 0x1D => some 2
  | _, _ => none

/-- The sum of all the characters of a message, which the sum character makes a multiple of 256 (section 9.8). -/
def messageSum (bytes : List Byte) : Nat := (bytes.map BitVec.toNat).sum

/-- The check of R49 on a whole message: the sum, then the kind, then the length. -/
def messageOk (st : Station) (bytes : List Byte) : Bool :=
  match bytes with
  | kind :: len :: rest =>
    messageSum bytes % 256 == 0 && messageLength st kind.toNat == some len.toNat && rest.length == len.toNat + 1
  | _ => false

/-! ### What a good message says (R196) -/

/-- The quantity that some bytes carry, most significant first (section 9.8). -/
def bytesNumber (bytes : List Byte) : Nat := bytes.foldl (fun n b => 256 * n + b.toNat) 0

/-- A quantity of two bytes, most significant first, as its 16 bits. -/
def wordOf (hi lo : Byte) : Word := hi ++ lo

/-- R196: a ticket takes 4 bytes, the order number in 3 and the copy number in 1; order 0 with copy 0 reads as UNREADABLE. -/
def ticketReading (o2 o1 o0 copy : Byte) : Reading Ticket :=
  if bytesNumber [o2, o1, o0] = 0 ∧ copy = 0 then .unreadable else .named ⟨o2 ++ o1 ++ o0, copy⟩

/-- The key that 3 bytes carry; above the largest key the spec gives no meaning, and a free value stands for it (log 23). -/
def messageKey (k2 k1 k0 : Byte) : TitleKey :=
  if bytesNumber [k2, k1, k0] < 2 ^ 20 then BitVec.ofNat 20 (bytesNumber [k2, k1, k0])
  else Config.overrangeKey (k2 ++ k1 ++ k0)

/-- R196: a title key takes 3 bytes, and key 0 reads as UNREADABLE. -/
def keyReading (k2 k1 k0 : Byte) : Reading TitleKey :=
  if messageKey k2 k1 k0 = 0 then .unreadable else .named (messageKey k2 k1 k0)

/-- A body that is a ticket. -/
def ticketBody (f : Reading Ticket → Instr) : List Byte → Option Instr
  | [a, b, c, d] => some (f (ticketReading a b c d))
  | _ => none

/-- A body that is a ticket and one byte more. -/
def ticketByteBody (f : Reading Ticket → Byte → Instr) : List Byte → Option Instr
  | [a, b, c, d, m] => some (f (ticketReading a b c d) m)
  | _ => none

/-- A body that is a title key. -/
def keyBody (f : Reading TitleKey → Instr) : List Byte → Option Instr
  | [a, b, c] => some (f (keyReading a b c))
  | _ => none

/-- A body of one byte. -/
def byteBody (f : Byte → Instr) : List Byte → Option Instr
  | [a] => some (f a)
  | _ => none

/-- A body of one quantity of two bytes. -/
def wordBody (f : Word → Instr) : List Byte → Option Instr
  | [a, b] => some (f (wordOf a b))
  | _ => none

/-- A body of two quantities of two bytes. -/
def wordsBody (f : Word → Word → Instr) : List Byte → Option Instr
  | [a, b, c, d] => some (f (wordOf a b) (wordOf c d))
  | _ => none

/-- A body of no byte. -/
def emptyBody (c : Instr) : List Byte → Option Instr
  | [] => some c
  | _ => none

/-- R196: the command that the kind and the body of a message of a station spell, none for any other kind or length. -/
def bodyCommand (st : Station) (kind : Nat) : List Byte → Option Instr :=
  match st, kind with
  | .s1, 0x11 => ticketByteBody .blockReadS1
  | .s2, 0x12 => keyBody .caseRead
  | .s2, 0x13 => byteBody .purgeDone
  | .s3, 0x11 => ticketBody .blockReadS3
  | .s3, 0x14 => ticketBody .married
  | .s4, 0x15 => ticketBody .exitRead
  | .s4, 0x16 => emptyBody .indexReady
  | .s4, 0x17 => wordsBody .indexDone
  | .s4, 0x18 => wordBody .temperature
  | .s5, 0x19 => ticketBody .bookArrived
  | .s5, 0x1A => keyBody .jacketRead
  | .s5, 0x1B => ticketBody .applied
  | .s6, 0x1C => ticketBody .passed
  | .s6, 0x1E => ticketBody .bookRead
  | .s1, 0x1D => wordBody (.floor .s1)
  | .s2, 0x1D => wordBody (.floor .s2)
  | .s3, 0x1D => wordBody (.floor .s3)
  | .s5, 0x1D => wordBody (.floor .s5)
  | .s6, 0x1D => wordBody (.floor .s6)
  | _, _ => fun _ => none

/-- R49, R196: the command that the characters of a whole message of a station bring: the one its body spells when it passes the
port's check, and DAMAGED_MESSAGE when it does not. -/
def messageCommand (st : Station) (bytes : List Byte) : Instr :=
  match bytes with
  | kind :: _ :: rest =>
    if messageOk st bytes then (bodyCommand st kind.toNat rest.dropLast).getD (.damagedMessage st bytes)
    else .damagedMessage st bytes
  | _ => .damagedMessage st bytes

end Sys2Proof
end

