-- ==== Sys2Proof/WellFormed.lean ====
section
/-! DEFINITION. Which commands are events the spec describes, as checks on a command's operands alone. `exec` is total: it gives
an ill-formed command a meaning too, and no statement needs a command to be well formed unless it says so. -/

namespace Sys2Proof

/-- R196: a ticket of order 0 and copy 0 reads as UNREADABLE, so no reading names it. -/
def Reading.ticketOk : Reading Ticket → Bool
  | .unreadable => true
  | .named t => !(t.order == 0 && t.copy == 0)

/-- R196: a key of 0 reads as UNREADABLE, so no reading names it. -/
def Reading.keyOk : Reading TitleKey → Bool
  | .unreadable => true
  | .named k => !(k == 0)

/-- R175: a frame's words begin with or without frame sync, and no later word carries it. -/
def frameWordsOk (words : List LinkWord) : Bool := !words.isEmpty && words.tail.all fun w => !w.sync

/-- The well-formed commands. -/
def Instr.wellFormed : Instr → Bool
  | .damagedMessage st bytes => !messageOk st bytes
  | .requestFrame words => frameWordsOk words
  | .frameCutShort words _ => words.tail.all fun w => !w.sync
  | .blockReadS1 t _ | .blockReadS3 t | .exitRead t | .bookArrived t | .bookRead t => t.ticketOk
  | .married t | .applied t | .passed t => t.ticketOk
  | .caseRead k | .jacketRead k => k.keyOk
  | .floor st _ => st != .s4
  | .deviceReset | .driveStopAfterReset | .portQuietTime _ | .messageCharacterTimeout _ => true
  | .answerSent _ | .noticeSent => true
  | .admitBook | .withdrawBook | .attachParameters | .queryBook | .forceRetire => true
  | .loadTitle | .dropTitle | .queryTitle | .readTitleSlot | .setParameter | .setFloor => true
  | .loadJackets | .releaseJacketer | .status => true
  | .run | .stopSoft | .stopNow | .runOut | .release | .clearLine | .lineCommandNamingNoCommand => true
  | .purgeDone _ | .purgeTimeout _ | .marriageWaitExpiry => true
  | .temperature _ | .indexReady | .indexDone _ _ | .idleTimerExpiry => true

end Sys2Proof
end

