-- ==== Sys2Proof/Machine/State.lean ====
section
/-! DEFINITION. The state of the part as plain data, and its value after device reset. Each field names the rule of spec/ that
gives it; INVENTORY.md lists them all. -/

namespace Sys2Proof.Machine

/-! ### Book records (chapter 1) -/

/-- Where a record's title parameters come from (section 1.1). -/
inductive Source where
  | table | oneOff
deriving DecidableEq, Repr, Inhabited

/-- The stages (R6). -/
inductive Stage where
  | admitted | gated | infeed | head | entry | press | jacket | delivery | retiring
deriving DecidableEq, Repr, Inhabited

/-- The flags (R4). -/
inductive Flag where
  | unverified | shortDwell | noJacket | interrupted
deriving DecidableEq, Repr, Inhabited

/-- The divert reasons (R10): the four flags and the three eject reasons. -/
inductive Reason where
  | flag (f : Flag)
  | wrongBlock | noTitle | noCase
deriving DecidableEq, Repr, Inhabited

/-- The outcomes (R9). -/
inductive BookOutcome where
  | delivered | diverted | withdrawn | cleared | forced
deriving DecidableEq, Repr, Inhabited

/-- A title parameter set: of a title entry, or private to one record (sections 1.1, 2.1). -/
structure TitleParams where
  s : Nat
  h : Nat
  w : Nat
  pc : Nat
  mc : Nat
  override : Option Nat
deriving DecidableEq, Repr, Inhabited

/-- A book record (section 1.1). -/
structure BookRecord where
  ticket : Ticket
  key : TitleKey
  source : Source
  oneOff : Option TitleParams := none
  resolved : Bool
  override : Option Nat := none
  stage : Stage := .admitted
  thickness : Option Nat := none
  lane : Option LaneId := none
  dwell : Option Nat := none
  force : Option Nat := none
  eff : Option Nat := none
  position : Option Nat := none
  flags : List Flag := []
  outcome : Option BookOutcome := none
  reasons : List Reason := []
deriving DecidableEq, Repr, Inhabited

/-! ### The Title Table (chapter 2) -/

/-- The two ways of a set. -/
inductive Way where
  | w0 | w1
deriving DecidableEq, Repr, Inhabited

/-- A title entry (section 2.1). -/
structure TitleEntry where
  valid : Bool
  key : TitleKey
  params : TitleParams
  bound : Nat
  diverted : Nat
  dirty : Bool
  pin : Nat
deriving DecidableEq, Repr, Inhabited

/-- A set: its two ways and the way its LRU mark names (R28). -/
structure TitleSet where
  way0 : TitleEntry
  way1 : TitleEntry
  lru : Way
deriving DecidableEq, Repr, Inhabited

/-- An entry of the Pending Title List (R33). -/
structure PendingTitle where
  key : TitleKey
  count : Nat
deriving DecidableEq, Repr, Inhabited

/-! ### Tracks and readers (chapter 3) -/

/-- An entry of the infeed track with its wrong-block mark (R51). -/
structure InfeedEntry where
  ticket : Ticket
  wrongBlock : Bool
deriving DecidableEq, Repr, Inhabited

/-- The places of Track Control (section 3.2), each track head first, and the last gated ticket (section 3.3). -/
structure Tracks where
  gateHold : Option Ticket
  lastGated : Option Ticket
  infeed : List InfeedEntry
  entry : Option Ticket
  waitingMarriage : Option Ticket
  jacket : List Ticket
  delivery : List Ticket
deriving DecidableEq, Repr, Inhabited

/-- What a reader station holds (R63). A waiting reading is kept as the ticket of the book it was accepted for (R194). -/
structure Reader where
  last : Option Ticket
  waiting : Option Ticket
  unresolved : Option (Reading Ticket)
deriving DecidableEq, Repr, Inhabited

/-- The four reader stations. -/
inductive ReaderId where
  | s3 | s4 | s5 | s6
deriving DecidableEq, Repr, Inhabited

/-- The readers of S3 to S6. -/
structure Readers where
  s3 : Reader
  s4 : Reader
  s5 : Reader
  s6 : Reader
deriving DecidableEq, Repr, Inhabited

/-! ### Lanes and head (chapter 4) -/

/-- Why a lane is purging (R84). -/
inductive PurgeKind where
  | exchange | initial
deriving DecidableEq, Repr, Inhabited

/-- A lane's state with the items that state has (section 4.1): key and count; or purge kind, carried key and purge time
left in ms. -/
inductive Lane where
  | empty
  | holding (key : TitleKey) (count : Nat)
  | reserved (key : TitleKey)
  | purging (kind : PurgeKind) (carried : Option TitleKey) (left : Nat)
  | unknown
deriving DecidableEq, Repr, Inhabited

/-- Lanes A and B. -/
structure Lanes where
  a : Lane
  b : Lane
deriving DecidableEq, Repr, Inhabited

/-- The casing-in head's state with its record and its assigned lane (section 4.2). -/
inductive Head where
  | idle
  | waitTitle (record : Ticket)
  | waitCase (record : Ticket) (lane : Option LaneId)
  | pasting (record : Ticket) (lane : LaneId)
  | holdMarried (record : Ticket) (lane : LaneId)
deriving DecidableEq, Repr, Inhabited

/-! ### The press (chapter 5) -/

/-- The press states (section 5.1). -/
inductive PressState where
  | cold | warming | ready | standby | fault
deriving DecidableEq, Repr, Inhabited

/-- The index states (section 5.4). -/
inductive IndexState where
  | clamp | held | moving
deriving DecidableEq, Repr, Inhabited

/-- The six press positions, 1 at the entry side (R99). -/
structure Positions where
  p1 : Option Ticket
  p2 : Option Ticket
  p3 : Option Ticket
  p4 : Option Ticket
  p5 : Option Ticket
  p6 : Option Ticket
deriving DecidableEq, Repr, Inhabited

/-- What the Press Dwell Unit holds (section 5.1). The idle timer is in ms, none when stopped. -/
structure Press where
  state : PressState
  temp : Option Nat
  positions : Positions
  index : IndexState
  carried : Option Ticket
  idleTimer : Option Nat
  pd : Nat
deriving DecidableEq, Repr, Inhabited

/-! ### The pace (chapter 6) -/

/-- The contributor entries IN, CASE, HEAD, JKT, DLV and CTL (section 6.1). -/
inductive Contributor where
  | infeed | caseInfeed | head | jacket | delivery | control
deriving DecidableEq, Repr, Inhabited

/-- The deciding sources (R130). -/
inductive PaceSource where
  | press
  | contributor (c : Contributor)
  | pMin
  | pMax
deriving DecidableEq, Repr, Inhabited

/-- An entry of the contributor table (section 6.1). -/
structure FloorEntry where
  reported : Nat
  lock : Bool
  locked : Nat
  ignore : Bool
deriving DecidableEq, Repr, Inhabited

/-- The contributor table. -/
structure Floors where
  infeed : FloorEntry
  caseInfeed : FloorEntry
  head : FloorEntry
  jacket : FloorEntry
  delivery : FloorEntry
  control : FloorEntry
deriving DecidableEq, Repr, Inhabited

/-- What the Pace Unit holds (section 6.3); PD stands in `Press.pd` (log 21). -/
structure Pace where
  floors : Floors
  target : Option (Nat × PaceSource)
  commanded : Nat
  source : Option PaceSource
  inForce : Option Nat
deriving DecidableEq, Repr, Inhabited

/-! ### Jackets (chapter 7) -/

/-- The jacketer modes (section 7.2). -/
inductive JacketerMode where
  | normal | bypass
deriving DecidableEq, Repr, Inhabited

/-- The jacketing states with the book at S5 (section 7.2). -/
inductive Jacketing where
  | free
  | verify (book : Ticket)
  | applying (book : Ticket)
deriving DecidableEq, Repr, Inhabited

/-- What the Jacket Sequencer holds (section 7.2); the skip limit stands with the parameters. -/
structure Jackets where
  sequence : List TitleKey
  mode : JacketerMode
  mismatch : Nat
  state : Jacketing
deriving DecidableEq, Repr, Inhabited

/-! ### The line (chapter 8) -/

/-- The line states (section 8.1). -/
inductive LineState where
  | halted | stopped | running | stopping | runningOut | faultHold
deriving DecidableEq, Repr, Inhabited

/-- The causes of a line state change (R159). -/
inductive Cause where
  | run | stopSoft | runOut | stopNow | stopDone | runOutDone | release | clearLine
  | sequence | purgeTimeout | pressOverheat
deriving DecidableEq, Repr, Inhabited

/-- The line state and the cause of its last change (R159). -/
structure Line where
  state : LineState
  cause : Option Cause
deriving DecidableEq, Repr, Inhabited

/-! ### Parameters (R189) -/

/-- A quantity for each of three classes (paste or material). -/
structure ByClass where
  c1 : Nat
  c2 : Nat
  c3 : Nat
deriving DecidableEq, Repr, Inhabited

/-- The parameters that Set Parameter writes (R189), in the units of its table. -/
structure Params where
  tolerance : Nat
  marriageWait : Nat
  base : ByClass
  inc : ByClass
  q : ByClass
  fMax : Nat
  tRef : Nat
  tX : Nat
  idleTime : Nat
  pMin : Nat
  pMax : Nat
  decrease : Nat
  skipLimit : Nat
deriving DecidableEq, Repr, Inhabited

/-! ### The line link (chapter 9) -/

/-- The requests, with the items of their bodies (R178). `options` is the whole options word. -/
inductive Request where
  | admitBook (ticket : Ticket) (key : TitleKey) (options : Word) (override : Option Nat) (oneOff : Option TitleParams)
  | withdrawBook (ticket : Ticket)
  | attachParameters (ticket : Ticket) (options : Word) (params : TitleParams)
  | queryBook (ticket : Ticket)
  | forceRetire (ticket : Ticket)
  | loadTitle (key : TitleKey) (options : Word) (params : TitleParams)
  | dropTitle (key : TitleKey)
  | queryTitle (key : TitleKey)
  | readTitleSlot (set : Nat) (way : Nat)
  | setParameter (number : Nat) (value : Nat)
  | setFloor (entry : Nat) (marks : Byte) (value : Nat)
  | loadJackets (keys : List TitleKey)
  | releaseJacketer (choice : Nat)
  | lineCommand (command : Nat)
  | status (part : Nat)
deriving DecidableEq, Repr, Inhabited

/-- A request in the request queue, with the arrival number of its frame (R175). -/
structure QueuedRequest where
  request : Request
  arrival : Word
deriving DecidableEq, Repr, Inhabited

/-- The status codes (R182). -/
inductive Status where
  | ok | busy | framing | unknownRequest | badLength | range | duplicate | noRecord | tableFull | tooLate
  | setFull | inUse | titleBacklog | wrongState | noSpace
deriving DecidableEq, Repr, Inhabited

/-- An answer or a refusal as the link keeps it until it is sent (R180, R190); `kind` is the request kind byte. -/
structure Answer where
  kind : Byte
  status : Status
  arrival : Word
  body : List Word
deriving DecidableEq, Repr, Inhabited

/-- The notices with what their bodies carry (R186). -/
inductive Notice where
  | titleRequest (key : TitleKey)
  | bookRetired (ticket : Ticket) (outcome : BookOutcome) (reasons : List Reason) (dwell : Nat) (eff : Nat)
  | paceChanged (pitch : Nat) (source : PaceSource)
  | paceFault (cycle : Nat) (inForce : Nat)
  | lineState (state : LineState) (cause : Cause)
  | fault (cause : Cause) (station : Station) (expected : Option Ticket) (read : Option (Reading Ticket))
  | stray (station : Station) (ticket : Reading Ticket)
  | pressState (state : PressState) (temp : Option Nat)
  | jacketFault (expected : Option TitleKey) (read : Reading TitleKey)
deriving DecidableEq, Repr, Inhabited

/-- A notice with the number it received when it was produced (R183). -/
structure NoticeEntry where
  number : Word
  notice : Notice
deriving DecidableEq, Repr, Inhabited

/-- The held places, one for each kind other than Book Retired (R184). -/
structure Held where
  titleRequest : Option NoticeEntry
  paceChanged : Option NoticeEntry
  paceFault : Option NoticeEntry
  lineState : Option NoticeEntry
  fault : Option NoticeEntry
  stray : Option NoticeEntry
  pressState : Option NoticeEntry
  jacketFault : Option NoticeEntry
deriving DecidableEq, Repr, Inhabited

/-- The frames that the transmit arbiter may have begun since the outgoing stream was last free (R181, log 9). -/
structure Sending where
  refusal : Bool
  answer : Bool
  notice : Bool
deriving DecidableEq, Repr, Inhabited

/-- What the Line Link Port holds (chapter 9). The answer places reserved are one for each queued request (R179). -/
structure Link where
  assembly : List Word
  requests : List QueuedRequest
  answers : List Answer
  refusal : Option Answer
  overrun : Nat
  nextArrival : Word
  notices : List NoticeEntry
  held : Held
  attn : Bool
  nextNotice : Word
  sending : Sending
deriving DecidableEq, Repr, Inhabited

/-! ### Ports (section 3.1, R200, R201) -/

/-- The commands of the part, named by the port they leave by (section 3.1). -/
inductive PortCommand where
  | s1Admit | s1Hold | s1Refuse
  | s2Lane (lane : LaneId) | s2Recirculate | s2Purge (lane : LaneId)
  | s3TakeCase (lane : LaneId) | s3Eject | s3HaltPaste
  | s4IndexGo (setpoint : Option Nat) | s4IndexWait | s4Standby | s4Wake | s4Pace (pitch : Nat)
  | s5Apply | s5Pass | s5Go | s5Spoil | s5Skip (count : Nat)
  | s6Deliver | s6Divert
  | drivePace (pitch : Nat) | driveRun | driveStop
deriving DecidableEq, Repr, Inhabited

/-- A Station Line Port: its error count, and the quiet time left in ms before it takes messages (none: it takes them). -/
structure StationPort where
  errors : Nat
  quiet : Option Nat
deriving DecidableEq, Repr, Inhabited

/-- The ports of S1 to S6. -/
structure Ports where
  s1 : StationPort
  s2 : StationPort
  s3 : StationPort
  s4 : StationPort
  s5 : StationPort
  s6 : StationPort
deriving DecidableEq, Repr, Inhabited

/-- The drive port: the time left in ms to the first STOP after reset (none: sent), and the commands that wait behind it. -/
structure DrivePort where
  stopDue : Option Nat
  waiting : List PortCommand
deriving DecidableEq, Repr, Inhabited

/-! ### The whole state -/

/-- The state of the part. `pending`, `out`, `sentFrame` and `openChoices` are the model's own fields. -/
structure State where
  /-- the commands that wait, first in first out -/
  pending : List Instr
  /-- live records in order of admission (R1) -/
  records : List BookRecord
  /-- the retirement order (R8) -/
  retiring : List Ticket
  /-- the 32 sets of the Title Table (R27) -/
  titles : Vector TitleSet 32
  /-- the Pending Title List (R33) -/
  pendingTitles : List PendingTitle
  tracks : Tracks
  readers : Readers
  lanes : Lanes
  head : Head
  /-- time left in ms, none when stopped (R90) -/
  marriageTimer : Option Nat
  press : Press
  pace : Pace
  jackets : Jackets
  line : Line
  params : Params
  link : Link
  ports : Ports
  drive : DrivePort
  /-- the commands sent in the latest step, in order (log 5) -/
  out : List PortCommand
  /-- the words of the frame whose last word went out in the latest step (log 5) -/
  sentFrame : List Word
  /-- what data out carries while no frame waits or is under way: the idle word (R181, R197); none while one does -/
  dataOut : Option Word
  /-- counts the uses of the model's free value (log 12) -/
  openChoices : Nat
deriving DecidableEq, Repr

/-- The reasons for which the part stops: there are none. No event of the spec stops the part, so this type is empty (safe). -/
inductive Fault where
deriving DecidableEq, Repr

/-- The refusals. -/
inductive Refusal where
  /-- Raised by an arm of `exec` for a command that has no meaning yet; no arm raises it now (safe). -/
  | notModelled (mnemonic : String)
deriving DecidableEq, Repr

/-! ### Device reset (R25, R32, R55, R71, R73, R78, R122, R138, R158, R159, R175, R179, R183, R184, R189, R199 to R201) -/

/-- R32: an invalid entry with key, parameters, counts and pin count 0 and no override. -/
def TitleEntry.resetValue : TitleEntry :=
  ⟨false, 0, ⟨0, 0, 0, 0, 0, none⟩, 0, 0, false, 0⟩

/-- R32 -/
def TitleSet.resetValue : TitleSet := ⟨.resetValue, .resetValue, .w0⟩

/-- R55, R71 -/
def Tracks.resetValue : Tracks := ⟨none, none, [], none, none, [], []⟩

/-- R71 -/
def Reader.resetValue : Reader := ⟨none, none, none⟩

/-- R71 -/
def Readers.resetValue : Readers := ⟨.resetValue, .resetValue, .resetValue, .resetValue⟩

/-- R99: no book at any position. -/
def Positions.empty : Positions := ⟨none, none, none, none, none, none⟩

/-- R122 -/
def Press.resetValue : Press := ⟨.cold, none, .empty, .clamp, none, none, 0⟩

/-- R138 -/
def FloorEntry.resetValue : FloorEntry := ⟨0, false, 0, false⟩

/-- R138 -/
def Pace.resetValue : Pace :=
  ⟨⟨.resetValue, .resetValue, .resetValue, .resetValue, .resetValue, .resetValue⟩, none, 6000, none, none⟩

/-- R158 -/
def Jackets.resetValue : Jackets := ⟨[], .normal, 0, .free⟩

/-- R189: every parameter at its default. -/
def Params.resetValue : Params where
  tolerance := 2
  marriageWait := 45
  base := ⟨2500, 4200, 6000⟩
  inc := ⟨40, 60, 90⟩
  q := ⟨18, 12, 24⟩
  fMax := 9000
  tRef := 65
  tX := 300
  idleTime := 10
  pMin := 1000
  pMax := 6000
  decrease := 50
  skipLimit := 2

/-- R184: every held place empty. -/
def Held.empty : Held := ⟨none, none, none, none, none, none, none, none⟩

/-- R181: the stream is free and no frame has begun. -/
def Sending.idle : Sending := ⟨false, false, false⟩

/-- R175, R179, R183, R184, R199 -/
def Link.resetValue : Link := ⟨[], [], [], none, 0, 0, [], .empty, false, 0, .idle⟩

/-- R49, R200 -/
def StationPort.resetValue : StationPort := ⟨0, some Config.quietTime⟩

/-- R49, R200 -/
def Ports.resetValue : Ports :=
  ⟨.resetValue, .resetValue, .resetValue, .resetValue, .resetValue, .resetValue⟩

/-- R201: STOP is due 20 ms after the reset ends, and no command waits to be sent (R200). -/
def DrivePort.resetValue : DrivePort := ⟨some Config.driveStopTime, []⟩

/-- The part at the end of device reset (R198), with no command waiting. -/
def State.reset : State where
  pending := []
  records := []
  retiring := []
  titles := Vector.replicate 32 TitleSet.resetValue
  pendingTitles := []
  tracks := .resetValue
  readers := .resetValue
  lanes := ⟨.unknown, .unknown⟩
  head := .idle
  marriageTimer := none
  press := .resetValue
  pace := .resetValue
  jackets := .resetValue
  line := ⟨.halted, none⟩
  params := .resetValue
  link := .resetValue
  ports := .resetValue
  drive := .resetValue
  out := []
  sentFrame := []
  dataOut := some Config.idleWord
  openChoices := 0

end Sys2Proof.Machine
end

