-- ==== Sys2Proof/Machine/Operands.lean ====
section
/-! DEFINITION. Operands: the coded values of frames (R195), tickets and keys in words (R178), the bodies of request frames
(R178), and the ranges of the request items (R14, R18, R39, R125, R188). -/

namespace Sys2Proof.Machine

/-! ### Words -/

/-- The high byte of a word. -/
def hiByte (w : Word) : Nat := w.toNat / 256

/-- The low byte of a word. -/
def loByte (w : Word) : Nat := w.toNat % 256

/-- The word with a high and a low byte. -/
def pairWord (hi lo : Nat) : Word := BitVec.ofNat 16 (hi * 256 + lo)

/-- A quantity as one unsigned word (R178). -/
def numWord (n : Nat) : Word := BitVec.ofNat 16 n

/-- A mark as a number, for the marks of a word's bits. -/
def bitIf (b : Bool) (value : Nat) : Nat := if b then value else 0

/-- The ticket in two words (R178). -/
def ticketWords (t : Ticket) : List Word := [t.order.extractLsb' 8 16, t.order.extractLsb' 0 8 ++ t.copy]

/-- The ticket that two words carry (R178). -/
def wordsTicket (w1 w2 : Word) : Ticket := ⟨w1 ++ w2.extractLsb' 8 8, w2.extractLsb' 0 8⟩

/-- The title key in two words (R178); the upper twelve bits of the first are sent as 0 (log 35, DESIGN CHOICE). -/
def keyWords (k : TitleKey) : List Word := [(k.extractLsb' 16 4).setWidth 16, k.extractLsb' 0 16]

/-- The title key that two words carry (R178): the low four bits of the first, then the second (log 23). -/
def wordsKey (w1 w2 : Word) : TitleKey := w1.extractLsb' 0 4 ++ w2

/-- A ticket or none: order 0 and copy 0 (R186). -/
def optTicketWords : Option Ticket → List Word
  | some t => ticketWords t
  | none => [0, 0]

/-- A ticket read, or UNREADABLE: order 0 and copy 255 (R186). -/
def readTicketWords : Reading Ticket → List Word
  | .named t => ticketWords t
  | .unreadable => [0, 255]

/-- A ticket read, UNREADABLE or none (R186, R194). -/
def optReadTicketWords : Option (Reading Ticket) → List Word
  | some r => readTicketWords r
  | none => [0, 0]

/-- A key or none: key 0 (R194). -/
def optKeyWords : Option TitleKey → List Word
  | some k => keyWords k
  | none => [0, 0]

/-- A key read, or UNREADABLE: key 0 (R186). -/
def readKeyWords : Reading TitleKey → List Word
  | .named k => keyWords k
  | .unreadable => [0, 0]

/-- A quantity, or none as FFFFh (R186, R193, R194). -/
def optNumWord : Option Nat → Word
  | some n => numWord n
  | none => 0xFFFF

/-- A list of byte codes in `n` words, two bytes a word, 0 after the last (R186, R191). -/
def codeWords : Nat → List Nat → List Word
  | 0, _ => []
  | n + 1, codes => pairWord (codes.getD 0 0) (codes.getD 1 0) :: codeWords n (codes.drop 2)

/-! ### Coded values (R195) -/

/-- R195 -/
def Stage.code : Stage → Nat
  | .admitted => 1 | .gated => 2 | .infeed => 3 | .head => 4 | .entry => 5
  | .press => 6 | .jacket => 7 | .delivery => 8 | .retiring => 9

/-- R191: TABLE 1, ONE_OFF 2 -/
def Source.code : Source → Nat
  | .table => 1 | .oneOff => 2

/-- R195 -/
def BookOutcome.code : BookOutcome → Nat
  | .delivered => 1 | .diverted => 2 | .withdrawn => 3 | .cleared => 4 | .forced => 5

/-- R195 -/
def Flag.code : Flag → Nat
  | .unverified => 1 | .shortDwell => 2 | .noJacket => 3 | .interrupted => 4

/-- R195 -/
def Reason.code : Reason → Nat
  | .flag f => f.code
  | .wrongBlock => 5 | .noTitle => 6 | .noCase => 7

/-- R195 -/
def LineState.code : LineState → Nat
  | .halted => 1 | .stopped => 2 | .running => 3 | .stopping => 4 | .runningOut => 5 | .faultHold => 6

/-- R195 -/
def Cause.code : Cause → Nat
  | .run => 1 | .stopSoft => 2 | .runOut => 3 | .stopNow => 4 | .stopDone => 5 | .runOutDone => 6
  | .release => 7 | .clearLine => 8 | .sequence => 9 | .purgeTimeout => 10 | .pressOverheat => 11

/-- R195 -/
def PressState.code : PressState → Nat
  | .cold => 1 | .warming => 2 | .ready => 3 | .standby => 4 | .fault => 5

/-- R195: the Set Floor entry codes. -/
def Contributor.code : Contributor → Nat
  | .infeed => 1 | .caseInfeed => 2 | .head => 3 | .jacket => 4 | .delivery => 5 | .control => 6

/-- The entry that a Set Floor entry code names (R178). -/
def contributorOfCode : Nat → Option Contributor
  | 1 => some .infeed | 2 => some .caseInfeed | 3 => some .head
  | 4 => some .jacket | 5 => some .delivery | 6 => some .control
  | _ => none

/-- R195 -/
def PaceSource.code : PaceSource → Nat
  | .press => 1
  | .contributor c => c.code + 1
  | .pMin => 8
  | .pMax => 9

/-- R195 -/
def stationCode : Station → Nat
  | .s1 => 1 | .s2 => 2 | .s3 => 3 | .s4 => 4 | .s5 => 5 | .s6 => 6

/-- R195 -/
def laneCode : LaneId → Nat
  | .a => 1 | .b => 2

/-- The lane that a lane byte names (R196), none for any other byte. -/
def laneOfByte (b : Byte) : Option LaneId :=
  if b = 1 then some .a else if b = 2 then some .b else none

/-- R195 -/
def Lane.code : Lane → Nat
  | .empty => 1 | .holding _ _ => 2 | .reserved _ => 3 | .purging _ _ _ => 4 | .unknown => 5

/-- R195 -/
def PurgeKind.code : PurgeKind → Nat
  | .exchange => 1 | .initial => 2

/-- R195 -/
def Head.code : Head → Nat
  | .idle => 1 | .waitTitle _ => 2 | .waitCase _ _ => 3 | .pasting _ _ => 4 | .holdMarried _ _ => 5

/-- R195 -/
def IndexState.code : IndexState → Nat
  | .clamp => 1 | .held => 2 | .moving => 3

/-- R195 -/
def JacketerMode.code : JacketerMode → Nat
  | .normal => 1 | .bypass => 2

/-- R195 -/
def Jacketing.code : Jacketing → Nat
  | .free => 1 | .verify _ => 2 | .applying _ => 3

/-- R182 -/
def Status.code : Status → Nat
  | .ok => 0 | .busy => 1 | .framing => 2 | .unknownRequest => 3 | .badLength => 4 | .range => 5 | .duplicate => 6
  | .noRecord => 7 | .tableFull => 8 | .tooLate => 9 | .setFull => 10 | .inUse => 11 | .titleBacklog => 12
  | .wrongState => 13 | .noSpace => 14

/-! ### Request frames (R178) -/

/-- The request kind byte of each request (R178). -/
def Request.kindCode : Request → Byte
  | .admitBook .. => 0x21
  | .withdrawBook _ => 0x22
  | .attachParameters .. => 0x23
  | .queryBook _ => 0x24
  | .forceRetire _ => 0x25
  | .loadTitle .. => 0x31
  | .dropTitle _ => 0x32
  | .queryTitle _ => 0x33
  | .readTitleSlot _ _ => 0x34
  | .setParameter _ _ => 0x41
  | .setFloor _ _ _ => 0x42
  | .loadJackets _ => 0x51
  | .releaseJacketer _ => 0x52
  | .lineCommand _ => 0x61
  | .status _ => 0x71

/-- Word `i` of a frame, the header being word 0. -/
def wordAt (ws : List Word) (i : Nat) : Word := ws.getD i 0

/-- The number that word `i` of a frame carries. -/
def numAt (ws : List Word) (i : Nat) : Nat := (wordAt ws i).toNat

/-- The ticket in words `i` and `i + 1`. -/
def ticketAt (ws : List Word) (i : Nat) : Ticket := wordsTicket (wordAt ws i) (wordAt ws (i + 1))

/-- The title key in words `i` and `i + 1`. -/
def keyAt (ws : List Word) (i : Nat) : TitleKey := wordsKey (wordAt ws i) (wordAt ws (i + 1))

/-- The parameter set from word `i` on: s, h, w, paste class, material class, then the override when flagged (R178). -/
def paramsAt (ws : List Word) (i : Nat) (flagged : Bool) : TitleParams where
  s := numAt ws i
  h := numAt ws (i + 1)
  w := numAt ws (i + 2)
  pc := numAt ws (i + 3)
  mc := numAt ws (i + 4)
  override := if flagged then some (numAt ws (i + 5)) else none

/-- The `n` title keys from word `i` on. -/
def keysAt (ws : List Word) (i : Nat) : Nat → List TitleKey
  | 0 => []
  | n + 1 => keyAt ws i :: keysAt ws (i + 2) n

/-- The marks of the options word (R178): title source, record override, override of the parameter set. -/
def optSource (o : Word) : Bool := o.getLsbD 0
/-- Bit 1 of the options word. -/
def optRecord (o : Word) : Bool := o.getLsbD 1
/-- Bit 2 of the options word. -/
def optParams (o : Word) : Bool := o.getLsbD 2

/-- What a whole frame asks for (R178): the word count its kind and its body call for, and the request; none for an unknown
kind (R177). -/
def frameRequest (ws : List Word) : Option (Nat × Request) :=
  match hiByte (wordAt ws 0) with
  | 0x21 =>
    let o := wordAt ws 5
    let at' := if optRecord o then 7 else 6
    some (at' + (if optSource o then (if optParams o then 6 else 5) else 0),
      .admitBook (ticketAt ws 1) (keyAt ws 3) o (if optRecord o then some (numAt ws 6) else none)
        (if optSource o then some (paramsAt ws at' (optParams o)) else none))
  | 0x22 => some (3, .withdrawBook (ticketAt ws 1))
  | 0x23 =>
    let o := wordAt ws 3
    some (if optParams o then 10 else 9, .attachParameters (ticketAt ws 1) o (paramsAt ws 4 (optParams o)))
  | 0x24 => some (3, .queryBook (ticketAt ws 1))
  | 0x25 => some (3, .forceRetire (ticketAt ws 1))
  | 0x31 =>
    let o := wordAt ws 3
    some (if optParams o then 10 else 9, .loadTitle (keyAt ws 1) o (paramsAt ws 4 (optParams o)))
  | 0x32 => some (3, .dropTitle (keyAt ws 1))
  | 0x33 => some (3, .queryTitle (keyAt ws 1))
  | 0x34 => some (2, .readTitleSlot (hiByte (wordAt ws 1)) (loByte (wordAt ws 1)))
  | 0x41 => some (3, .setParameter (numAt ws 1) (numAt ws 2))
  | 0x42 => some (3, .setFloor (hiByte (wordAt ws 1)) ((wordAt ws 1).extractLsb' 0 8) (numAt ws 2))
  | 0x51 => some (2 + 2 * numAt ws 1, .loadJackets (keysAt ws 2 (min (numAt ws 1) 19)))
  | 0x52 => some (2, .releaseJacketer (numAt ws 1))
  | 0x61 => some (2, .lineCommand (numAt ws 1))
  | 0x71 => some (2, .status (numAt ws 1))
  | _ => none

/-! ### Ranges -/

/-- A range with both ends. -/
def within (lo hi n : Nat) : Bool := decide (lo ≤ n) && decide (n ≤ hi)

/-- A ticket's ranges: neither number is 0 (section 1.1, R13). -/
def ticketInRange (t : Ticket) : Bool := !(t.order == 0) && !(t.copy == 0)

/-- A title key's range (section 1.1). -/
def keyInRange (k : TitleKey) : Bool := !(k == 0)

/-- A dwell override's range, when present (sections 1.1, 2.1). -/
def overrideInRange : Option Nat → Bool
  | some n => within 300 30000 n
  | none => true

/-- The ranges of a parameter set (section 2.1). -/
def paramsInRange (p : TitleParams) : Bool :=
  within 3 90 p.s && within 120 420 p.h && within 80 320 p.w && within 1 3 p.pc && within 1 3 p.mc
    && overrideInRange p.override

/-- No mark outside `mask` is set in the options word (R178). -/
def onlyMarks (mask o : Word) : Bool := o &&& ~~~mask == 0

/-- R14, check 1 (R178: Admit Book reads marks 0, 1 and 2; log 14). -/
def admitInRange (t : Ticket) (k : TitleKey) (o : Word) (override : Option Nat) (oneOff : Option TitleParams) : Bool :=
  ticketInRange t && keyInRange k && onlyMarks 7 o && overrideInRange override
    && (match oneOff with | some p => paramsInRange p | none => true)

/-- The quantity of a class 1, 2 or 3. -/
def ByClass.get (b : ByClass) : Nat → Nat
  | 1 => b.c1
  | 2 => b.c2
  | _ => b.c3

/-- The range of each parameter number, none for a number that is not in the table of R189. -/
def parameterRange : Nat → Option (Nat × Nat)
  | 1 => some (0, 9)
  | 2 => some (5, 600)
  | 3 => some (500, 20000)
  | 4 => some (500, 20000)
  | 5 => some (500, 20000)
  | 6 => some (0, 500)
  | 7 => some (0, 500)
  | 8 => some (0, 500)
  | 9 => some (4, 60)
  | 10 => some (4, 60)
  | 11 => some (4, 60)
  | 12 => some (2000, 12000)
  | 13 => some (50, 90)
  | 14 => some (150, 800)
  | 15 => some (0, 60)
  | 16 => some (800, 9000)
  | 17 => some (800, 9000)
  | 18 => some (0, 500)
  | 19 => some (0, 4)
  | _ => none

/-- R188: the three checks of Set Parameter, in one. -/
def parameterOk (p : Params) (number value : Nat) : Bool :=
  match parameterRange number with
  | none => false
  | some (lo, hi) =>
    within lo hi value
      && (!(number == 16) || decide (value ≤ p.pMax)) && (!(number == 17) || decide (p.pMin ≤ value))

/-- The parameters with a value written (R189). -/
def Params.write (p : Params) (number value : Nat) : Params :=
  match number with
  | 1 => { p with tolerance := value }
  | 2 => { p with marriageWait := value }
  | 3 => { p with base.c1 := value }
  | 4 => { p with base.c2 := value }
  | 5 => { p with base.c3 := value }
  | 6 => { p with inc.c1 := value }
  | 7 => { p with inc.c2 := value }
  | 8 => { p with inc.c3 := value }
  | 9 => { p with q.c1 := value }
  | 10 => { p with q.c2 := value }
  | 11 => { p with q.c3 := value }
  | 12 => { p with fMax := value }
  | 13 => { p with tRef := value }
  | 14 => { p with tX := value }
  | 15 => { p with idleTime := value }
  | 16 => { p with pMin := value }
  | 17 => { p with pMax := value }
  | 18 => { p with decrease := value }
  | 19 => { p with skipLimit := value }
  | _ => p

/-- A floor as a station reports it, clamped (R124). -/
def clampFloor (v : Nat) : Nat :=
  if v = 0 then 0 else if v < 300 then 300 else if 9999 < v then 9999 else v

/-- A temperature report's value, clamped to 0 to 150 (R100). -/
def clampTemp (w : Word) : Nat := min w.toInt.toNat 150

/-- A measured thickness, clamped to 99 (R50, R196). -/
def clampThickness (b : Byte) : Nat := min b.toNat 99

end Sys2Proof.Machine
end

