-- ==== Sys2Proof/Machine/Flags.lean ====
section
/-! DEFINITION. The flags of a book record and the divert reasons made from them (R4, R10). -/

namespace Sys2Proof.Machine

/-- R4: the flag is added after the flags already held; a flag held already leaves the set and its order as they were. -/
def addFlag (f : Flag) (flags : List Flag) : List Flag :=
  if f ∈ flags then flags else flags ++ [f]

/-- R10: the divert reasons of a record: its flags in their order, then the eject reason when there is one. -/
def divertReasons (flags : List Flag) (eject : Option Reason) : List Reason :=
  flags.map Reason.flag ++ eject.toList

/-- R10: a record with an outcome other than DIVERTED carries no divert reasons. -/
def retireReasons (o : BookOutcome) (flags : List Flag) (eject : Option Reason) : List Reason :=
  match o with
  | .diverted => divertReasons flags eject
  | _ => []

end Sys2Proof.Machine
end

