-- ==== Sys2Proof/Machine/Ops.lean ====
section
/-! DEFINITION. The shared operations that every block uses: sending commands, producing notices, looking up and changing book
records, the Title Table and the Pending Title List, retirement, and the answers of the Request Handler. -/

namespace Sys2Proof.Machine

/-! ### Sending (R50, R201) -/

/-- Whether a command leaves by the drive port. -/
def PortCommand.toDrive : PortCommand → Bool
  | .drivePace _ | .driveRun | .driveStop => true
  | _ => false

/-- R50: a command is sent by its port, in the order in which the blocks produce them. Until the drive port has sent the STOP
of R201 its commands wait behind that STOP (log 19). -/
def send (c : PortCommand) (s : State) : State :=
  if c.toDrive && s.drive.stopDue.isSome then { s with drive.waiting := s.drive.waiting ++ [c] }
  else { s with out := s.out ++ [c] }

/-! ### Notices (R183, R184, R185) -/

/-- Whether any held place is occupied. -/
def Held.any (h : Held) : Bool :=
  h.titleRequest.isSome || h.paceChanged.isSome || h.paceFault.isSome || h.lineState.isSome || h.fault.isSome
    || h.stray.isSome || h.pressState.isSome || h.jacketFault.isSome

/-- R184: the notice takes the held place of its kind; Book Retired has none. -/
def Held.put (e : NoticeEntry) (h : Held) : Held :=
  match e.notice with
  | .titleRequest _ => { h with titleRequest := some e }
  | .bookRetired .. => h
  | .paceChanged _ _ => { h with paceChanged := some e }
  | .paceFault _ _ => { h with paceFault := some e }
  | .lineState _ _ => { h with lineState := some e }
  | .fault .. => { h with fault := some e }
  | .stray _ _ => { h with stray := some e }
  | .pressState _ _ => { h with pressState := some e }
  | .jacketFault _ _ => { h with jacketFault := some e }

/-- R185: the first occupied held place in the order of that rule gives up its notice. -/
def Held.take (h : Held) : Option (NoticeEntry × Held) :=
  match h.titleRequest with
  | some e => some (e, { h with titleRequest := none })
  | none => match h.paceChanged with
  | some e => some (e, { h with paceChanged := none })
  | none => match h.paceFault with
  | some e => some (e, { h with paceFault := none })
  | none => match h.lineState with
  | some e => some (e, { h with lineState := none })
  | none => match h.fault with
  | some e => some (e, { h with fault := none })
  | none => match h.stray with
  | some e => some (e, { h with stray := none })
  | none => match h.pressState with
  | some e => some (e, { h with pressState := none })
  | none => match h.jacketFault with
  | some e => some (e, { h with jacketFault := none })
  | none => none

/-- Whether a notice waits for space: a Book Retired notice not yet offered, or a held notice (R183, R185). -/
def noticeWaits (s : State) : Bool := !s.retiring.isEmpty || s.link.held.any

/-- A notice enters the tail of the notice queue, and ATTN is asserted (R183). -/
def enqueueNotice (e : NoticeEntry) (s : State) : State :=
  { s with link.notices := s.link.notices ++ [e], link.attn := true }

/-- R183, R184: a notice receives the next number, and enters the queue when it holds fewer than 32 and none waits, or takes
the held place of its kind. -/
def produce (n : Notice) (s : State) : State :=
  let e : NoticeEntry := ⟨s.link.nextNotice, n⟩
  let s' := { s with link.nextNotice := s.link.nextNotice + 1 }
  if s.link.notices.length < Config.noticePlaces ∧ noticeWaits s = false then enqueueNotice e s'
  else { s' with link.held := s.link.held.put e }

/-! ### Book records (R3, R4, R7) -/

/-- The record that holds a ticket, whatever its stage. -/
def findRecord (t : Ticket) (s : State) : Option BookRecord := s.records.find? fun r => r.ticket == t

/-- R7: the record a block finds under a ticket: none for a record in RETIRING, as for a ticket without a record. -/
def liveRecord (t : Ticket) (s : State) : Option BookRecord :=
  (findRecord t s).filter fun r => !(r.stage == .retiring)

/-- The record list with the record of `r`'s ticket replaced by `r`. -/
def putRecord (r : BookRecord) (s : State) : State :=
  { s with records := s.records.map (fun x => if x.ticket = r.ticket then r else x) }

/-- R7: a change that names a ticket; it is not applied when no live record holds it or its record is in RETIRING. -/
def changeRecord (t : Ticket) (f : BookRecord → BookRecord) (s : State) : State :=
  match liveRecord t s with
  | some r => putRecord (f r) s
  | none => s

/-- The same change for several tickets, one after the other. -/
def changeEach (ts : List Ticket) (f : BookRecord → BookRecord) (s : State) : State :=
  ts.foldl (fun s' t => changeRecord t f s') s

/-- R4: a block asks the table to set a flag. -/
def setFlag (f : Flag) (t : Ticket) : State → State :=
  changeRecord t fun r => { r with flags := addFlag f r.flags }

/-- R6: a stage change. -/
def setStage (st : Stage) (t : Ticket) : State → State :=
  changeRecord t fun r => { r with stage := st }

/-- The title key of a live record not in RETIRING. -/
def keyOf (t : Ticket) (s : State) : Option TitleKey := (liveRecord t s).map (·.key)

/-- Records retired CLEARED and not yet freed (R14, R24). -/
def clearedLeft (s : State) : Nat := s.records.countP fun r => r.outcome == some .cleared

/-! ### The Title Table (R26 to R31) -/

/-- R27: the set of a title key is the key modulo 32. -/
def setOf (k : TitleKey) : Fin 32 := ⟨k.toNat % 32, Nat.mod_lt _ (by decide)⟩

/-- The other way of a set. -/
def Way.other : Way → Way
  | .w0 => .w1
  | .w1 => .w0

/-- The number of a way. -/
def Way.num : Way → Nat
  | .w0 => 0
  | .w1 => 1

/-- The entry in a way. -/
def TitleSet.get (ts : TitleSet) : Way → TitleEntry
  | .w0 => ts.way0
  | .w1 => ts.way1

/-- The set with the entry in a way replaced. -/
def TitleSet.put (w : Way) (e : TitleEntry) (ts : TitleSet) : TitleSet :=
  match w with
  | .w0 => { ts with way0 := e }
  | .w1 => { ts with way1 := e }

/-- R28: a way is used, so the LRU mark names the other way. -/
def TitleSet.use (w : Way) (ts : TitleSet) : TitleSet := { ts with lru := w.other }

/-- The way of a set in which a key is valid (R27). -/
def TitleSet.wayOf (k : TitleKey) (ts : TitleSet) : Option Way :=
  if ts.way0.valid && ts.way0.key == k then some .w0
  else if ts.way1.valid && ts.way1.key == k then some .w1
  else none

/-- The set a key chooses. -/
def titleSet (k : TitleKey) (s : State) : TitleSet := s.titles.get (setOf k)

/-- The way in which a key is valid in the table. -/
def titleWay (k : TitleKey) (s : State) : Option Way := (titleSet k s).wayOf k

/-- The valid entry of a key (R26: a lookup finds only a valid entry). -/
def titleEntry (k : TitleKey) (s : State) : Option TitleEntry :=
  (titleWay k s).map (titleSet k s).get

/-- A change of the set a key chooses. -/
def changeSet (k : TitleKey) (f : TitleSet → TitleSet) (s : State) : State :=
  { s with titles := s.titles.set (setOf k).val (f (titleSet k s)) (setOf k).isLt }

/-- A change of a key's valid entry; nothing when the key is not valid. -/
def changeEntry (k : TitleKey) (f : TitleEntry → TitleEntry) (s : State) : State :=
  match titleWay k s with
  | some w => changeSet k (fun ts => ts.put w (f (ts.get w))) s
  | none => s

/-- R29: a resolved TABLE record pins its entry. -/
def pinTitle (k : TitleKey) : State → State :=
  changeEntry k fun e => { e with pin := e.pin + 1 }

/-- R28: a use of the way that holds a key. -/
def useTitle (k : TitleKey) (s : State) : State :=
  match titleWay k s with
  | some w => changeSet k (·.use w) s
  | none => s

/-- R12, R30: the outcome counted on an entry, saturating at 65535, with its dirty mark. -/
def countOutcome (o : Option BookOutcome) (e : TitleEntry) : TitleEntry :=
  match o with
  | some .delivered => { e with bound := min (e.bound + 1) Config.saturation, dirty := true }
  | some .diverted => { e with diverted := min (e.diverted + 1) Config.saturation, dirty := true }
  | _ => e

/-- R31: the parameters of a record: its one-off parameters, or those of the valid entry of its key. -/
def paramsOf (r : BookRecord) (s : State) : Option TitleParams :=
  match r.source with
  | .oneOff => r.oneOff
  | .table => if r.resolved then (titleEntry r.key s).map (·.params) else none

/-! ### The Pending Title List (R33 to R36) -/

/-- Whether a key is listed. -/
def isListed (k : TitleKey) (s : State) : Bool := s.pendingTitles.any fun p => p.key == k

/-- A key's waiting count, 0 when it is not listed (R47). -/
def waitingCount (k : TitleKey) (s : State) : Nat :=
  match s.pendingTitles.find? (fun p => p.key == k) with
  | some p => p.count
  | none => 0

/-- R34: a title miss: a listed key's count rises by 1; another key joins the tail, and a Title Request is produced. -/
def missTitle (k : TitleKey) (s : State) : State :=
  if isListed k s then
    { s with pendingTitles := s.pendingTitles.map (fun p => if p.key = k then { p with count := p.count + 1 } else p) }
  else
    produce (.titleRequest k) { s with pendingTitles := s.pendingTitles ++ [⟨k, 1⟩] }

/-- A key's entry with its count lowered by 1; other entries as they are. -/
def PendingTitle.lower (k : TitleKey) (p : PendingTitle) : PendingTitle :=
  if p.key = k then { p with count := p.count - 1 } else p

/-- R35: a record stops waiting on a key: the count falls by 1, and at 0 the key leaves the list. -/
def stopWaiting (k : TitleKey) (s : State) : State :=
  let lowered := s.pendingTitles.map (PendingTitle.lower k)
  { s with pendingTitles := lowered.filter fun p => !(p.key == k && p.count == 0) }

/-! ### Retirement (R8 to R12) -/

/-- The Book Retired notice of a record (R11). -/
def retiredNotice (r : BookRecord) : Notice :=
  .bookRetired r.ticket (r.outcome.getD .cleared) r.reasons (r.dwell.getD 0) (r.eff.getD 0)

/-- R12: a record is freed: it leaves the map and the retirement order, and a resolved TABLE record unpins its entry and
counts its outcome there. -/
def freeRecord (r : BookRecord) (s : State) : State :=
  let s' := { s with records := s.records.filter (fun x => !(x.ticket == r.ticket)),
                     retiring := s.retiring.filter (fun t => !(t == r.ticket)) }
  if r.source = .table ∧ r.resolved = true then
    changeEntry r.key (fun e => countOutcome r.outcome { e with pin := e.pin - 1 }) s'
  else s'

/-- R11: the Book Retired notice of the record of `t` is produced and enters the notice queue, and the record is freed. The notice takes
its number as it enters the queue (log 33, DEDUCED): an offer that finds the queue full numbers nothing. -/
def offerRetired (t : Ticket) (s : State) : State :=
  match findRecord t s with
  | some r =>
    freeRecord r
      (enqueueNotice ⟨s.link.nextNotice, retiredNotice r⟩ { s with link.nextNotice := s.link.nextNotice + 1 })
  | none => { s with retiring := s.retiring.filter (fun x => !(x == t)) }

/-- R11: the records of the retirement order are offered one after the other while the notice queue has space. -/
def offerAll : List Ticket → State → State
  | [], s => s
  | t :: ts, s =>
    if s.link.notices.length < Config.noticePlaces then offerAll ts (offerRetired t s) else s

/-- Nothing, when a place or an item names the ticket; else as it stands. -/
def dropTicket (t : Ticket) (o : Option Ticket) : Option Ticket := if o = some t then none else o

/-- A position list without the ticket: its position stays empty (R99). -/
def Positions.drop (t : Ticket) (p : Positions) : Positions where
  p1 := dropTicket t p.p1
  p2 := dropTicket t p.p2
  p3 := dropTicket t p.p3
  p4 := dropTicket t p.p4
  p5 := dropTicket t p.p5
  p6 := dropTicket t p.p6

/-- R8: the record's place is emptied; the books behind it close up (R51), a press position stays empty (R99). The waiting
marriage of the ticket is dropped (R54). The head is emptied by its own rules. -/
def vacate (t : Ticket) (s : State) : State :=
  { s with
    tracks := { s.tracks with
      gateHold := dropTicket t s.tracks.gateHold
      infeed := s.tracks.infeed.filter (fun e => !(e.ticket == t))
      entry := dropTicket t s.tracks.entry
      waitingMarriage := dropTicket t s.tracks.waitingMarriage
      jacket := s.tracks.jacket.filter (fun x => !(x == t))
      delivery := s.tracks.delivery.filter (fun x => !(x == t)) }
    press := { s.press with positions := s.press.positions.drop t } }

/-- A reader without the ticket as its last accepted ticket (R70) or its waiting reading (R66). -/
def Reader.forget (t : Ticket) (r : Reader) : Reader :=
  { r with last := dropTicket t r.last, waiting := dropTicket t r.waiting }

/-- R56 (last gated ticket), R66, R70: what names a ticket and becomes none when its record enters RETIRING. -/
def forgetTicket (t : Ticket) (s : State) : State :=
  { s with
    tracks := { s.tracks with lastGated := dropTicket t s.tracks.lastGated }
    readers := ⟨s.readers.s3.forget t, s.readers.s4.forget t, s.readers.s5.forget t, s.readers.s6.forget t⟩ }

/-- R8: a record enters RETIRING: its outcome and divert reasons are fixed, it leaves its place, its press position is removed,
it stops waiting on its key, and it joins the tail of the retirement order. -/
def enterRetiring (t : Ticket) (o : BookOutcome) (eject : Option Reason) (s : State) : State :=
  match liveRecord t s with
  | none => s
  | some r =>
    let s1 := putRecord { r with stage := .retiring, outcome := some o, reasons := retireReasons o r.flags eject,
                                 position := none } s
    let s2 := forgetTicket t (vacate t s1)
    let s3 := if r.source = .table ∧ r.resolved = false then stopWaiting r.key s2 else s2
    { s3 with retiring := s3.retiring ++ [t] }

/-- R8, R11: a record retires, and the retirement order is offered as far as the notice queue has space. -/
def retire (t : Ticket) (o : BookOutcome) (eject : Option Reason) (s : State) : State :=
  let s' := enterRetiring t o eject s
  offerAll s'.retiring s'

/-! ### Steps and answers (R180, R181) -/

/-- The start of a step: the ports have sent what the step before produced (log 5). -/
def openStep (s : State) : State := { s with out := [], sentFrame := [] }

/-- R181: the frame the arbiter would choose now may begin at any later time, so it joins those that may be under way. When no
frame waits, data out carries idle words of value 0000h. -/
def noteSending (s : State) : State :=
  if s.link.refusal.isSome then { s with link.sending.refusal := true, dataOut := none }
  else if !s.link.answers.isEmpty then { s with link.sending.answer := true, dataOut := none }
  else if !s.link.notices.isEmpty then { s with link.sending.notice := true, dataOut := none }
  else { s with dataOut := some Config.idleWord }

/-- A step that has an effect: the outcome of every event of the part. -/
def stepWith (f : State → State) (s : State) : Host.Outcome State Fault Refusal :=
  .next (noteSending (f (openStep s)))

/-- What a request comes to: the state after its effects, its status, and the body of its answer (R180). -/
structure Handled where
  state : State
  status : Status
  body : List Word

/-- A refused request: the refusal changes no state (R180). -/
def refuse (s : State) (st : Status) : Handled := ⟨s, st, []⟩

/-- A request answered OK. -/
def accept (s : State) (body : List Word) : Handled := ⟨s, .ok, body⟩

/-- R180: the answer fills the request's place. -/
def fillAnswer (q : QueuedRequest) (h : Handled) : State :=
  { h.state with link.answers := h.state.link.answers ++ [⟨q.request.kindCode, h.status, q.arrival, h.body⟩] }

/-- R180: the Request Handler executes the request at the head of the request queue, when it is one that `handle` takes: the
request leaves the queue, its checks and effects take place, and its answer fills its place. When the queue is empty, or its
head is another kind of request, the event does not occur and nothing changes (log 1). -/
def serve (handle : Request → Option (State → Handled)) (s : State) : Host.Outcome State Fault Refusal :=
  match s.link.requests with
  | [] => .next (openStep s)
  | q :: rest =>
    match handle q.request with
    | none => .next (openStep s)
    | some h => stepWith (fun s' => fillAnswer q (h { s' with link.requests := rest })) s

end Sys2Proof.Machine
end

