-- ==== Sys2Proof/Machine/PaceUnit.lean ====
section
/-! DEFINITION. The Pace Unit's operations (chapter 6), and the arithmetic of dwell, force, temperature factor and press demand
(sections 5.2, 5.3, 5.5). -/

namespace Sys2Proof.Machine

/-! ### Dwell, force and factor (R104, R105, R107, R112, R116) -/

/-- R104: the required dwell of a book with parameters `p`. -/
def requiredDwell (params : Params) (r : BookRecord) (p : TitleParams) : Nat :=
  min 30000 <|
    match r.override with
    | some d => d
    | none => match p.override with
    | some d => d
    | none => params.base.get p.pc + p.s * params.inc.get p.pc

/-- A quotient rounded up (00, Arithmetic). -/
def ceilDiv (n d : Nat) : Nat := (n + d - 1) / d

/-- R105: the force setpoint in units of 10 N. -/
def forceSetpoint (params : Params) (p : TitleParams) : Nat :=
  ceilDiv (min (p.h * params.q.get p.mc) params.fMax) 10

/-- R107: the temperature factor in hundredths. -/
def tempFactor (tRef : Nat) : Option Nat → Nat
  | none => 150
  | some t => 100 + 2 * (tRef - min tRef (max (tRef - 25) t))

/-- R107: the factor as it stands. -/
def factor (s : State) : Nat := tempFactor s.params.tRef s.press.temp

/-- R112: the effective dwell after a credit of clamp time `m` at factor `f`. -/
def credited (m f e : Nat) : Nat := min (e + m * 100 / f) Config.saturation

/-- R116: the demand of a book that needs `d0`, holds `e` and has `r` clamp periods to receive. -/
def bookDemand (f tX r d0 e : Nat) : Nat := ceilDiv (ceilDiv ((d0 - e) * f) 100) r + tX

/-- The demand of the book at a place with `r` clamp periods to receive, 0 for an empty place. -/
def placeDemand (s : State) (r : Nat) (place : Option Ticket) : Nat :=
  match place with
  | none => 0
  | some t =>
    match liveRecord t s with
    | none => 0
    | some b => bookDemand (factor s) s.params.tX r (b.dwell.getD 0) (b.eff.getD 0)

/-- R116: the press demand over the press positions (r = 7 − p) and the entry place (r = 6, E = 0). -/
def pressDemand (s : State) : Nat :=
  let p := s.press.positions
  [placeDemand s 6 s.tracks.entry, placeDemand s 6 p.p1, placeDemand s 5 p.p2, placeDemand s 4 p.p3,
    placeDemand s 3 p.p4, placeDemand s 2 p.p5, placeDemand s 1 p.p6].foldl max 0

/-! ### The contributor table (R123, R124, R126) -/

/-- The entry of a contributor. -/
def Floors.get (f : Floors) : Contributor → FloorEntry
  | .infeed => f.infeed
  | .caseInfeed => f.caseInfeed
  | .head => f.head
  | .jacket => f.jacket
  | .delivery => f.delivery
  | .control => f.control

/-- The table with a contributor's entry replaced. -/
def Floors.put (c : Contributor) (e : FloorEntry) (f : Floors) : Floors :=
  match c with
  | .infeed => { f with infeed := e }
  | .caseInfeed => { f with caseInfeed := e }
  | .head => { f with head := e }
  | .jacket => { f with jacket := e }
  | .delivery => { f with delivery := e }
  | .control => { f with control := e }

/-- The contributors in the order of R130. -/
def contributors : List Contributor := [.infeed, .caseInfeed, .head, .jacket, .delivery, .control]

/-- R123: the effective value of an entry, none for an ignored one. -/
def FloorEntry.effective (e : FloorEntry) : Option Nat :=
  if e.ignore then none else if e.lock then some e.locked else some e.reported

/-- The demands that take part in the aggregate, in the order of R130: PD, then every effective contributor value. -/
def demands (s : State) : List (PaceSource × Nat) :=
  (.press, s.press.pd) ::
    contributors.filterMap fun c => (s.pace.floors.get c).effective.map fun v => (.contributor c, v)

/-! ### The pitch (R128 to R132) -/

/-- The largest of the demands. -/
def largestDemand (s : State) : Nat := ((demands s).map Prod.snd).foldl max 0

/-- R128: the target. -/
def targetPitch (s : State) : Nat := min s.params.pMax (max s.params.pMin (largestDemand s))

/-- R130: the deciding source of the target. -/
def decidingSource (s : State) : PaceSource :=
  if s.params.pMax < largestDemand s then .pMax
  else match (demands s).find? (fun d => d.2 == targetPitch s) with
  | some d => d.1
  | none => .pMin

/-- R129: whether the commanded pitch becomes the target. -/
def pitchMoves (p : Params) (commanded target : Nat) : Bool :=
  decide (p.pMax < commanded) || decide (commanded < p.pMin) || decide (commanded < target)
    || (decide (target ≤ commanded) && decide (p.decrease ≤ commanded - target))

/-- R128 to R132: a recompute stores the target and its deciding source; a change of the commanded pitch sends PACE to the
drive and to S4 and produces Pace Changed. -/
def recomputePitch (s : State) : State :=
  let target := targetPitch s
  let source := decidingSource s
  let s1 := { s with pace.target := some (target, source) }
  if pitchMoves s.params s.pace.commanded target ∧ target ≠ s.pace.commanded then
    let s2 := { s1 with pace.commanded := target, pace.source := some source }
    produce (.paceChanged target source) (send (.s4Pace target) (send (.drivePace target) s2))
  else s1

/-- R117, R127: PD is recomputed and handed to the Pace Unit, which recomputes the pitch. -/
def recomputeDemand (s : State) : State :=
  recomputePitch { s with press.pd := pressDemand s }

/-- R131: PACE with the commanded pitch to the drive and to S4, at RUN. -/
def resendPace (s : State) : State :=
  send (.s4Pace s.pace.commanded) (send (.drivePace s.pace.commanded) s)

/-- R134: whether an index is early against a pitch in force. -/
def indexEarly (cycle inForce : Nat) : Bool := decide (cycle * 100 < inForce * 95)

/-- R133: at an INDEX_DONE the early index check is made against the pitch in force, and the commanded pitch becomes the pitch
in force. -/
def checkEarlyIndex (cycle : Nat) (s : State) : State :=
  let s1 :=
    match s.pace.inForce with
    | some p => if indexEarly cycle p then produce (.paceFault cycle p) s else s
    | none => s
  { s1 with pace.inForce := some s1.pace.commanded }

end Sys2Proof.Machine
end

