-- ==== Sys2Proof/Machine/LineUnit.lean ====
section
/-! DEFINITION. Line State Control's operations that other blocks use (chapter 8), and the idle timer's conditions (R118). -/

namespace Sys2Proof.Machine

/-- R160: the line states in which the drive runs. -/
def LineState.driveRuns : LineState → Bool
  | .running | .stopping | .runningOut => true
  | _ => false

/-- The line states in which the press may index, the head may send TAKE_CASE and the marriage wait timer runs (R81, R90,
R108). -/
def LineState.feeds : LineState → Bool
  | .running | .runningOut => true
  | _ => false

/-- The line states in which the line stands for maintenance: those in which Force Retire is accepted (R21). -/
def LineState.maintenance : LineState → Bool
  | .stopped | .halted | .faultHold => true
  | _ => false

/-- R159: a change of the line state writes the new state and its cause, and produces a Line State notice. -/
def setLine (st : LineState) (c : Cause) (s : State) : State :=
  produce (.lineState st c) { s with line := ⟨st, some c⟩ }

/-- R160: STOP goes to the drive at a change from a state in which it runs to one in which it stands. -/
def stopDrive (s : State) : State :=
  if s.line.state.driveRuns then send .driveStop s else s

/-- R96: a head in PASTING whose MARRIED has not been taken and is not waiting is sent HALT_PASTE, and its record takes
INTERRUPTED; a record that holds the flag already is not told again. -/
def haltPaste (s : State) : State :=
  match s.head with
  | .pasting t _ =>
    if s.tracks.waitingMarriage = some t then s
    else match liveRecord t s with
    | some r => if .interrupted ∈ r.flags then s else setFlag .interrupted t (send .s3HaltPaste s)
    | none => s
  | _ => s

/-- R170: a fault event enters FAULT_HOLD from any line state; in FAULT_HOLD it leaves the line state and cause as they are. -/
def enterFault (c : Cause) (s : State) : State :=
  if s.line.state = .faultHold then s else setLine .faultHold c (haltPaste (stopDrive s))

/-- R165: the soft stop completes when the head is not PASTING and no index is outstanding. -/
def softStopTest (s : State) : State :=
  if s.line.state = .stopping then
    match s.head with
    | .pasting _ _ => s
    | _ => if s.press.index = .moving then s else setLine .stopped .stopDone (stopDrive s)
  else s

/-- Whether every press position is empty. -/
def Positions.isEmpty (p : Positions) : Bool :=
  p.p1.isNone && p.p2.isNone && p.p3.isNone && p.p4.isNone && p.p5.isNone && p.p6.isNone

/-- R169: the conditions of a complete run-out. -/
def lineEmpty (s : State) : Bool :=
  s.tracks.infeed.isEmpty && s.head == .idle && s.tracks.entry.isNone && s.press.positions.isEmpty
    && s.tracks.jacket.isEmpty && s.tracks.delivery.isEmpty

/-- R169: the run-out completes when the line is empty. -/
def runOutTest (s : State) : State :=
  if s.line.state = .runningOut ∧ lineEmpty s = true then setLine .stopped .runOutDone (stopDrive s) else s

/-- R118: the conditions under which the idle timer runs. -/
def idleRuns (s : State) : Bool :=
  s.press.positions.isEmpty && s.tracks.entry.isNone && s.head == .idle && s.tracks.infeed.isEmpty
    && s.tracks.gateHold.isNone && (s.press.state == .warming || s.press.state == .ready)
    && !(s.params.idleTime == 0)

/-- R118: the idle timer starts from the idle time when its conditions become true, goes on while they hold, and stops when
one becomes false. -/
def idleRefresh (s : State) : State :=
  { s with press.idleTimer :=
      if idleRuns s then some (s.press.idleTimer.getD (s.params.idleTime * 60000)) else none }

/-- The end of an event that may change a place of the line: the run-out and the idle timer are tested (R118, R169). -/
def settleLine (s : State) : State := idleRefresh (runOutTest s)

/-- R103: a change of press state produces a Press State notice; no change, no notice. -/
def setPress (st : PressState) (s : State) : State :=
  if s.press.state = st then s
  else produce (.pressState st s.press.temp) { s with press.state := st }

/-- R119: a STANDBY press is sent WAKE and goes WARMING. -/
def wakePress (s : State) : State :=
  if s.press.state = .standby then setPress .warming (send .s4Wake s) else s

end Sys2Proof.Machine
end

