-- ==== Sys2Proof/Machine/LaneUnit.lean ====
section
/-! DEFINITION. The S1 gate (section 3.3) and Case Lane Control: lanes, lane decision, purges, arrival at the head (chapter 4). -/

namespace Sys2Proof.Machine

/-! ### The gate (R59, R60) -/

/-- Whether a lane is past the initial purge (R59, R88): neither UNKNOWN nor PURGING of kind INITIAL. -/
def Lane.pastInitial : Lane → Bool
  | .unknown => false
  | .purging .initial _ _ => false
  | _ => true

/-- R59: the conditions under which the gate admits a held block. -/
def gateOpen (s : State) : Bool :=
  s.line.state == .running && s.press.state == .ready && s.lanes.a.pastInitial && s.lanes.b.pastInitial
    && decide (s.tracks.infeed.length < Config.infeedPlaces)

/-- R60: the held block is sent ADMIT and joins the tail of the infeed track. -/
def admitHeld (t : Ticket) (s : State) : State :=
  let s1 := setStage .infeed t (send .s1Admit s)
  { s1 with tracks := { s1.tracks with gateHold := none, infeed := s1.tracks.infeed ++ [⟨t, false⟩] } }

/-- R60: ADMIT is sent for a held block as soon as the conditions of R59 all hold. -/
def gateTest (s : State) : State :=
  match s.tracks.gateHold with
  | some t => if gateOpen s then admitHeld t s else s
  | none => s

/-! ### Lanes (R72, R76, R77) -/

/-- A lane by its name. -/
def Lanes.get (l : Lanes) : LaneId → Lane
  | .a => l.a
  | .b => l.b

/-- The lanes with one lane replaced. -/
def Lanes.put (i : LaneId) (x : Lane) (l : Lanes) : Lanes :=
  match i with
  | .a => { l with a := x }
  | .b => { l with b := x }

/-- A lane of the state replaced. -/
def setLane (i : LaneId) (x : Lane) (s : State) : State := { s with lanes := s.lanes.put i x }

/-- The first lane, A before B, with a property. -/
def Lanes.first (p : Lane → Bool) (l : Lanes) : Option LaneId :=
  if p l.a then some .a else if p l.b then some .b else none

/-- A lane HOLDING key `k`. -/
def Lane.isHolding (k : TitleKey) : Lane → Bool
  | .holding k' _ => k' == k
  | _ => false

/-- A lane RESERVED for `k`, or PURGING with carried key `k`. -/
def Lane.isKept (k : TitleKey) : Lane → Bool
  | .reserved k' => k' == k
  | .purging _ (some k') _ => k' == k
  | _ => false

/-- A lane PURGING of kind EXCHANGE with carried key none. -/
def Lane.isFreed : Lane → Bool
  | .purging .exchange none _ => true
  | _ => false

/-- The key of a lane that is HOLDING or RESERVED, and so may be purged (R82). -/
def Lane.stockKey : Lane → Option TitleKey
  | .holding k _ => some k
  | .reserved k => some k
  | _ => none

/-- Whether the record of an infeed entry has a title key. -/
def entryHasKey (k : TitleKey) (s : State) (e : InfeedEntry) : Bool := keyOf e.ticket s == some k

/-- Whether some record in the infeed track has a title key (R77). -/
def infeedHas (k : TitleKey) (s : State) : Bool := s.tracks.infeed.any (entryHasKey k s)

/-- R76: a key is wanted by a record in the infeed track, or by the head's record in WAIT_TITLE or WAIT_CASE. -/
def wanted (k : TitleKey) (s : State) : Bool :=
  infeedHas k s ||
    match s.head with
    | .waitTitle t => keyOf t s == some k
    | .waitCase t _ => keyOf t s == some k
    | _ => false

/-- R76: what the release check makes of a lane. -/
def releasedLane (s : State) : Lane → Lane
  | .reserved k => if wanted k s then .reserved k else .empty
  | .purging kind (some k) n => if wanted k s then .purging kind (some k) n else .purging kind none n
  | l => l

/-- R76: the release check of both lanes. -/
def releaseLanes (s : State) : State :=
  { s with lanes := ⟨releasedLane s s.lanes.a, releasedLane s s.lanes.b⟩ }

/-- R77: a lane of key `k` after a TAKE_CASE from a count of `n`, when the key is wanted by the infeed track or not. -/
def laneAfterTake (k : TitleKey) (n : Nat) (infeedWants : Bool) : Lane :=
  if 2 ≤ n then .holding k (n - 1) else if infeedWants then .reserved k else .empty

/-- R81: TAKE_CASE is sent: the lane used is written, the marriage wait timer stops, the head goes PASTING, the lane's count
falls by 1 (R77), and the release check is made (R76). -/
def takeCase (t : Ticket) (l : LaneId) (k : TitleKey) (n : Nat) (s : State) : State :=
  let s1 := changeRecord t (fun r => { r with lane := r.lane.or (some l) }) (send (.s3TakeCase l) s)
  let s2 := { s1 with marriageTimer := none, head := .pasting t l }
  releaseLanes (setLane l (laneAfterTake k n (infeedHas k s2)) s2)

/-- R81: a head in WAIT_CASE whose assigned lane is HOLDING its record's key sends TAKE_CASE in a line that feeds. -/
def tryTakeCase (s : State) : State :=
  match s.head with
  | .waitCase t (some l) =>
    match s.lanes.get l with
    | .holding k n => if keyOf t s = some k ∧ s.line.state.feeds = true then takeCase t l k n s else s
    | _ => s
  | _ => s

/-! ### Purges and the lane decision (R80, R82, R84) -/

/-- R84: PURGE is sent for a lane, which becomes PURGING with its timer at 20 s. -/
def startPurge (l : LaneId) (kind : PurgeKind) (carried : Option TitleKey) (s : State) : State :=
  setLane l (.purging kind carried Config.purgeTime) (send (.s2Purge l) s)

/-- The place in the infeed track, head first, of the first record with a title key (R82). -/
def infeedPlace (k : TitleKey) (s : State) : Option Nat := s.tracks.infeed.findIdx? (entryHasKey k s)

/-- R82: the choice between two candidate lanes by the places of their keys in the infeed track. -/
def choosePurge (placeA placeB : Option Nat) : LaneId :=
  match placeA, placeB with
  | none, _ => .a
  | some _, none => .b
  | some i, some j => if j < i then .a else .b

/-- R82: the lane to purge, none when no lane is HOLDING or RESERVED. -/
def purgeChoice (s : State) : Option LaneId :=
  match s.lanes.a.stockKey, s.lanes.b.stockKey with
  | some ka, some kb => some (choosePurge (infeedPlace ka s) (infeedPlace kb s))
  | some _, none => some .a
  | none, some _ => some .b
  | none, none => none

/-- R80, row 4: the lane PURGING of kind EXCHANGE with carried key none; when both are, the lane is a free value (log 12). -/
def freedLane (s : State) : Option LaneId :=
  if s.lanes.a.isFreed && s.lanes.b.isFreed then some (Config.exchangeLane s.openChoices)
  else s.lanes.first Lane.isFreed

/-- R80, row 4: the lane takes the head's key as its carried key. -/
def carryKey (k : TitleKey) : Lane → Lane
  | .purging kind _ n => .purging kind (some k) n
  | l => l

/-- R80: the lane decision for the head's record `t` of title key `k`. -/
def laneDecision (t : Ticket) (k : TitleKey) (s : State) : State :=
  match s.lanes.first (Lane.isHolding k) with
  | some l => tryTakeCase { s with head := .waitCase t (some l) }
  | none =>
  match s.lanes.first (Lane.isKept k) with
  | some l => { s with head := .waitCase t (some l) }
  | none =>
  match s.lanes.first (fun x => x == .empty) with
  | some l => setLane l (.reserved k) { s with head := .waitCase t (some l) }
  | none =>
  match freedLane s with
  | some l =>
    setLane l (carryKey k (s.lanes.get l)) { s with head := .waitCase t (some l), openChoices := s.openChoices + 1 }
  | none =>
  match purgeChoice s with
  | some l => startPurge l .exchange (some k) { s with head := .waitCase t (some l) }
  | none => { s with head := .waitCase t none }

/-- R80: a head that waits with no lane takes a new lane decision. -/
def decideAgain (s : State) : State :=
  match s.head with
  | .waitCase t none =>
    match keyOf t s with
    | some k => laneDecision t k s
    | none => s
  | _ => s

/-- Whether a lane has become EMPTY between two states. -/
def laneEmptied (before after : Lanes) : Bool :=
  (after.a == .empty && !(before.a == .empty)) || (after.b == .empty && !(before.b == .empty))

/-- R76: the release check; a lane that becomes EMPTY brings a new lane decision for a head that waits with no lane. -/
def releaseCheck (s : State) : State :=
  let s' := releaseLanes s
  if laneEmptied s.lanes s'.lanes then decideAgain s' else s'

/-! ### Arrival, eject, and the waiting reading at S3 (R66, R79, R83, R91) -/

/-- The wrong-block mark of a ticket's infeed entry. -/
def isMarked (t : Ticket) (s : State) : Bool := s.tracks.infeed.any fun e => e.ticket == t && e.wrongBlock

/-- R79: the block leaves the infeed track for the head, and the gate is tested before the arrival goes on. -/
def leaveInfeed (t : Ticket) (s : State) : State :=
  gateTest (setStage .head t
    { s with tracks := { s.tracks with infeed := s.tracks.infeed.filter fun e => !(e.ticket == t) } })

/-- R90: the marriage wait timer starts from the marriage wait time. -/
def startWait (s : State) : State := { s with marriageTimer := some (s.params.marriageWait * 1000) }

/-- R79: the arrival of a block at the head. -/
def arrive (t : Ticket) (s : State) : State :=
  let s1 := leaveInfeed t s
  if isMarked t s then releaseCheck (retire t .diverted (some .wrongBlock) (send .s3Eject s1))
  else match liveRecord t s1 with
  | none => s1
  | some r =>
    let s2 := startWait s1
    if r.resolved then releaseCheck (laneDecision t r.key s2)
    else releaseCheck { s2 with head := .waitTitle t }

/-- R66, R78: an IDLE head takes the waiting reading at S3 as an arrival. -/
def actWaitingS3 (s : State) : State :=
  if s.head = .idle then
    match s.readers.s3.waiting with
    | some t => arrive t { s with readers := { s.readers with s3 := { s.readers.s3 with waiting := none } } }
    | none => s
  else s

/-- The head gives up its record and its lane, and the marriage wait timer stops (R90, R91, R97). -/
def clearHead (s : State) : State := { s with head := .idle, marriageTimer := none }

/-- R83, R91: the head ejects its record, makes the release check, and takes a waiting reading after it. -/
def ejectHead (t : Ticket) (why : Reason) (s : State) : State :=
  actWaitingS3 (releaseCheck (retire t .diverted (some why) (clearHead (send .s3Eject s))))

/-! ### The thickness check (R57, R58, R61) and resolution (R5, R83) -/

/-- R57: whether a thickness and a spine differ by no more than the tolerance. -/
def thicknessOk (tolerance m spine : Nat) : Bool := decide (m - spine ≤ tolerance) && decide (spine - m ≤ tolerance)

/-- R57: the check of a record's measured thickness against its parameters' spine; a record without the one or the other is
not checked. -/
def passesCheck (r : BookRecord) (s : State) : Bool :=
  match r.thickness, paramsOf r s with
  | some m, some p => thicknessOk s.params.tolerance m p.s
  | _, _ => true

/-- R58, R61: the block at the gate is refused and its record retires with WRONG_BLOCK. -/
def refuseGated (t : Ticket) (s : State) : State :=
  retire t .diverted (some .wrongBlock) (send .s1Refuse s)

/-- R61: the wrong-block mark of a ticket's infeed entry is set. -/
def markWrong (t : Ticket) (s : State) : State :=
  { s with tracks := { s.tracks with
      infeed := s.tracks.infeed.map fun e => if e.ticket = t then { e with wrongBlock := true } else e } }

/-- R5, R61, R83: a record that has resolved after its admission is announced: its thickness check is made when it holds a
thickness, and a head that waits for its title takes the lane decision. -/
def announceResolved (t : Ticket) (s : State) : State :=
  match liveRecord t s with
  | none => s
  | some r =>
    if passesCheck r s then
      if s.head = .waitTitle t then releaseCheck (laneDecision t r.key s) else s
    else match r.stage with
    | .gated => refuseGated t s
    | .infeed => markWrong t s
    | .head => ejectHead t .wrongBlock s
    | _ => s

end Sys2Proof.Machine
end

