-- ==== Sys2Proof/Machine/PressUnit.lean ====
section
/-! DEFINITION. The Press Dwell Unit's index and marriage operations (chapter 5, R54, R93) and the Jacket Sequencer's (chapter 7),
which meet at the jacket track. -/

namespace Sys2Proof.Machine

/-! ### The index (R108 to R110) -/

/-- R108: whether an index is permitted. -/
def indexPermitted (s : State) : Bool :=
  s.line.state.feeds
    && (s.press.positions.p6.isNone || decide (s.tracks.jacket.length < Config.jacketPlaces))
    && !(s.press.state == .fault)

/-- R95: the head in HOLD_MARRIED with the book that INDEX_GO carries goes IDLE, and a waiting reading is acted on. -/
def headGivesUp (t : Ticket) (s : State) : State :=
  match s.head with
  | .holdMarried u _ => if u = t then actWaitingS3 { s with head := .idle } else s
  | _ => s

/-- R110: INDEX_GO carries the force setpoint of the book at the entry place, or EMPTY; that book's ticket becomes the carried
ticket, and the head goes IDLE. -/
def sendIndexGo (s : State) : State :=
  match s.tracks.entry with
  | none =>
    send (.s4IndexGo none) { s with press := { s.press with index := .moving, carried := none } }
  | some t =>
    headGivesUp t
      (send (.s4IndexGo ((liveRecord t s).bind (·.force)))
        { s with press := { s.press with index := .moving, carried := some t } })

/-- R108, R109: a held index is tested again, and INDEX_GO is sent when it is permitted. -/
def indexRetest (s : State) : State :=
  if s.press.index = .held ∧ indexPermitted s = true then sendIndexGo s else s

/-! ### Marriage (R54, R93, R104 to R106) -/

/-- R104 to R106: D0 and the force setpoint written at marriage; a value written first stays (R3). -/
def fixDwell (s : State) (r : BookRecord) : BookRecord :=
  match paramsOf r s with
  | some p => { r with stage := .entry, dwell := r.dwell.or (some (requiredDwell s.params r p)),
                       force := r.force.or (some (forceSetpoint s.params p)) }
  | none => { r with stage := .entry }

/-- R93: the head's book takes the entry place, its D0 and force setpoint are fixed, and the head goes HOLD_MARRIED. The
recompute of PD follows (R106, R114). -/
def takeMarriage (t : Ticket) (l : LaneId) (s : State) : State :=
  let s1 := changeRecord t (fixDwell s) s
  { s1 with tracks := { s1.tracks with entry := some t, waitingMarriage := none }, head := .holdMarried t l }

/-- R54: a waiting marriage is taken when the entry place is empty. -/
def takeWaiting (s : State) : State :=
  if s.tracks.entry = none then
    match s.head with
    | .pasting t l => if s.tracks.waitingMarriage = some t then takeMarriage t l s else s
    | _ => s
  else s

/-! ### Credit, exit and move (R112 to R114) -/

/-- The tickets in the press, position 1 first. -/
def Positions.tickets (p : Positions) : List Ticket :=
  [p.p1, p.p2, p.p3, p.p4, p.p5, p.p6].filterMap id

/-- R112: every book in the press is credited with clamp time `m`. -/
def creditBook (m f : Nat) (r : BookRecord) : BookRecord :=
  { r with eff := some (credited m f (r.eff.getD 0)) }

/-- R112: the credit step. -/
def creditStep (m : Nat) (s : State) : State :=
  changeEach s.press.positions.tickets (creditBook m (factor s)) s

/-- R113: whether a book leaving position 6 is short of its dwell. -/
def shortOfDwell (r : BookRecord) : Bool := decide (r.eff.getD 0 < r.dwell.getD 0)

/-- R113: the record of a book leaving position 6. -/
def exitBook (r : BookRecord) : BookRecord :=
  { r with stage := .jacket, position := none,
           flags := if shortOfDwell r then addFlag .shortDwell r.flags else r.flags }

/-- R113: the exit step. -/
def exitStep (s : State) : State :=
  match s.press.positions.p6 with
  | none => s
  | some t =>
    let s1 := changeRecord t exitBook s
    { s1 with
      tracks := { s1.tracks with jacket := s1.tracks.jacket ++ [t] }
      press := { s1.press with positions := { s1.press.positions with p6 := none } } }

/-- R114: the carrier moved up by one position. -/
def Positions.up (first : Option Ticket) (p : Positions) : Positions :=
  ⟨first, p.p1, p.p2, p.p3, p.p4, p.p5⟩

/-- R3: one more at each index. -/
def moveBook (r : BookRecord) : BookRecord := { r with position := r.position.map (· + 1) }

/-- R114: the record of the book that takes position 1. -/
def enterBook (r : BookRecord) : BookRecord := { r with stage := .press, eff := some 0, position := some 1 }

/-- Whether the head holds a record in HOLD_MARRIED. -/
def Head.married (t : Ticket) : Head → Bool
  | .holdMarried u _ => u == t
  | _ => false

/-- R114: the carried book, when it still stands at the entry place. The head gave up the carried book at its INDEX_GO (R95), so
a book that the head holds in HOLD_MARRIED took the place after it, and stays there even when it has the ticket of a carried book
retired in the meantime (log 30). -/
def enteringBook (s : State) : Option Ticket :=
  match s.press.carried with
  | some t => if s.tracks.entry = some t ∧ s.head.married t = false then some t else none
  | none => none

/-- R114: the move step, and a waiting marriage taken after it. -/
def moveStep (s : State) : State :=
  let s1 := changeEach s.press.positions.tickets moveBook s
  let s2 := { s1 with press := { s1.press with positions := s.press.positions.up (enteringBook s) } }
  let s3 :=
    match enteringBook s with
    | some t => changeRecord t enterBook { s2 with tracks := { s2.tracks with entry := none } }
    | none => s2
  takeWaiting s3

/-! ### The jacketer (R142 to R149) -/

/-- R144, R149: the book at S5 is handed into the delivery track, and a held index is tested again. -/
def handOver (t : Ticket) (s : State) : State :=
  let s1 := setStage .delivery t s
  indexRetest { s1 with
    tracks := { s1.tracks with jacket := s1.tracks.jacket.filter (fun x => !(x == t)),
                               delivery := s1.tracks.delivery ++ [t] }
    jackets := { s1.jackets with state := .free } }

/-- R144: a book decided PASS takes NO_JACKET and is handed over. -/
def passBook (t : Ticket) (s : State) : State :=
  handOver t (setFlag .noJacket t (send .s5Pass s))

/-- R143: the number of keys in front of the first place of `k`, counting from place 2, when it is within the skip limit. -/
def skipCount (k : TitleKey) (limit : Nat) (sequence : List TitleKey) : Option Nat :=
  (sequence.tail.take limit).findIdx? (· == k) |>.map (· + 1)

/-- R142: APPLY is sent, and the arriving book is the book at S5 in VERIFY. -/
def beginVerify (t : Ticket) (s : State) : State :=
  send .s5Apply { s with jackets := { s.jackets with state := .verify t } }

/-- R142: the arrival decision for book `t` at S5. -/
def jacketArrival (t : Ticket) (s : State) : State :=
  match keyOf t s with
  | none => s
  | some k =>
    if s.jackets.mode = .bypass then passBook t s
    else match s.jackets.sequence with
    | [] => passBook t s
    | head :: _ =>
      if head = k then beginVerify t s
      else match skipCount k s.params.skipLimit s.jackets.sequence with
      | some n =>
        beginVerify t (send (.s5Skip n) { s with jackets := { s.jackets with sequence := s.jackets.sequence.drop n } })
      | none => passBook t s

/-- R66: a waiting reading at S5 is acted on when the delivery track has room. -/
def actWaitingS5 (s : State) : State :=
  if s.tracks.delivery.length < Config.deliveryPlaces then
    match s.readers.s5.waiting with
    | some t => jacketArrival t { s with readers := { s.readers with s5 := { s.readers.s5 with waiting := none } } }
    | none => s
  else s

/-- R147: the jacketer enters BYPASS: a Jacket Fault notice with the expected key and the key read, and the book is passed. -/
def enterBypass (t : Ticket) (read : Reading TitleKey) (s : State) : State :=
  passBook t
    (produce (.jacketFault s.jackets.sequence.head? read) { s with jackets := { s.jackets with mode := .bypass } })

/-- R146: a mismatch: SPOIL is sent and the mismatch count rises by 1; at 3 the jacketer enters BYPASS. -/
def jacketMismatch (t : Ticket) (read : Reading TitleKey) (s : State) : State :=
  let s1 := send .s5Spoil { s with jackets := { s.jackets with mismatch := min (s.jackets.mismatch + 1) Config.bypassCount } }
  if s1.jackets.mismatch = Config.bypassCount then enterBypass t read s1 else s1

end Sys2Proof.Machine
end

