-- ==== Sys2Proof/Machine/ReaderUnit.lean ====
section
/-! DEFINITION. The readers downstream of the gate (section 3.4): the evaluation of a reading, its acceptance, and the sequence
fault. -/

namespace Sys2Proof.Machine

/-- The reader of a station. -/
def Readers.get (rs : Readers) : ReaderId → Reader
  | .s3 => rs.s3
  | .s4 => rs.s4
  | .s5 => rs.s5
  | .s6 => rs.s6

/-- The readers with one replaced. -/
def Readers.put (i : ReaderId) (r : Reader) (rs : Readers) : Readers :=
  match i with
  | .s3 => { rs with s3 := r }
  | .s4 => { rs with s4 := r }
  | .s5 => { rs with s5 := r }
  | .s6 => { rs with s6 := r }

/-- The station of a reader. -/
def ReaderId.station : ReaderId → Station
  | .s3 => .s3
  | .s4 => .s4
  | .s5 => .s5
  | .s6 => .s6

/-- A reader of the state replaced. -/
def setReader (i : ReaderId) (r : Reader) (s : State) : State := { s with readers := s.readers.put i r }

/-- The expected ticket of a reader: the book at the head of the place that feeds it (section 3.4). -/
def expectedBook (i : ReaderId) (s : State) : Option Ticket :=
  match i with
  | .s3 => s.tracks.infeed.head?.map (·.ticket)
  | .s4 => s.press.positions.p6
  | .s5 => s.tracks.jacket.head?
  | .s6 => s.tracks.delivery.head?

/-- What R64 makes of a reading. -/
inductive Judgement where
  | ignored
  | replaces
  | accepted (book : Ticket) (unreadable : Bool)
  | sequenceFault
deriving DecidableEq, Repr

/-- R64: the first case that applies to a reading at a reader that expects `expected`. -/
def judge (r : Reader) (expected : Option Ticket) (reading : Reading Ticket) : Judgement :=
  match reading with
  | .named t =>
    if r.last = some t ∨ r.waiting = some t then .ignored
    else if r.unresolved.isSome then .replaces
    else if expected = some t then .accepted t false
    else .sequenceFault
  | .unreadable =>
    if expected.isSome ∧ (r.last = expected ∨ r.waiting = expected) then .ignored
    else if r.unresolved.isSome then .replaces
    else match expected with
    | some e => .accepted e true
    | none => .sequenceFault

/-- R66: an accepted reading waits at its station. -/
def keepWaiting (i : ReaderId) (t : Ticket) (s : State) : State :=
  setReader i { s.readers.get i with waiting := some t } s

/-- R154: the delivery decision for a book at S6. -/
def deliveryCommand (r : BookRecord) : PortCommand := if r.flags.isEmpty then .s6Deliver else .s6Divert

/-- R65: what an accepted reading brings at each station. -/
def acceptedEffect (i : ReaderId) (t : Ticket) (s : State) : State :=
  match i with
  | .s3 => if s.head = .idle then arrive t s else keepWaiting .s3 t s
  | .s4 => s
  | .s5 => if s.tracks.delivery.length < Config.deliveryPlaces then jacketArrival t s else keepWaiting .s5 t s
  | .s6 =>
    match liveRecord t s with
    | some r => send (deliveryCommand r) s
    | none => s

/-- R64, R65: a reading is accepted: its book is the last accepted ticket, takes UNVERIFIED when the reading was UNREADABLE,
and the station's effect follows. -/
def acceptReading (i : ReaderId) (t : Ticket) (unreadable : Bool) (s : State) : State :=
  let s1 := setReader i { s.readers.get i with last := some t } s
  acceptedEffect i t (if unreadable then setFlag .unverified t s1 else s1)

/-- R68: a sequence fault: the reading is kept as the unresolved read, the line enters FAULT_HOLD, and a Fault notice is
produced. -/
def sequenceFault (i : ReaderId) (reading : Reading Ticket) (s : State) : State :=
  let s1 := setReader i { s.readers.get i with unresolved := some reading } s
  produce (.fault .sequence i.station (expectedBook i s) (some reading)) (enterFault .sequence s1)

/-- R64: a reading taken at a reader station. -/
def takeReading (i : ReaderId) (reading : Reading Ticket) (s : State) : State :=
  match judge (s.readers.get i) (expectedBook i s) reading with
  | .ignored => s
  | .replaces => setReader i { s.readers.get i with unresolved := some reading } s
  | .accepted t u => acceptReading i t u s
  | .sequenceFault => sequenceFault i reading s

/-- R69: the unresolved read of a station is evaluated again. -/
def evaluateAgain (i : ReaderId) (s : State) : State :=
  match (s.readers.get i).unresolved with
  | none => s
  | some reading => takeReading i reading (setReader i { s.readers.get i with unresolved := none } s)

end Sys2Proof.Machine
end

