-- ==== Sys2Proof/Machine/Frames.lean ====
section
/-! DEFINITION. The frames the part sends: headers (R190), the bodies of answers (R191 to R193), of the Status answer (R194) and of
notices (R186). -/

namespace Sys2Proof.Machine

/-! ### Headers (R190) -/

/-- R190: an answer or a refusal with its three-word header. -/
def answerFrame (a : Answer) : List Word :=
  pairWord 1 (3 + a.body.length) :: pairWord a.kind.toNat a.status.code :: a.arrival :: a.body

/-- The occupied held places (R184). -/
def Held.count (h : Held) : Nat :=
  bitIf h.titleRequest.isSome 1 + bitIf h.paceChanged.isSome 1 + bitIf h.paceFault.isSome 1 + bitIf h.lineState.isSome 1
    + bitIf h.fault.isSome 1 + bitIf h.stray.isSome 1 + bitIf h.pressState.isSome 1 + bitIf h.jacketFault.isSome 1

/-- R186: the kind of a notice. -/
def Notice.kindCode : Notice → Nat
  | .titleRequest _ => 0x81
  | .bookRetired .. => 0x82
  | .paceChanged _ _ => 0x83
  | .paceFault _ _ => 0x84
  | .lineState _ _ => 0x85
  | .fault .. => 0x86
  | .stray _ _ => 0x87
  | .pressState _ _ => 0x88
  | .jacketFault _ _ => 0x89

/-- R186: the body of a notice. -/
def Notice.body : Notice → List Word
  | .titleRequest k => keyWords k
  | .bookRetired t o rs d e =>
    ticketWords t ++ [pairWord o.code rs.length] ++ codeWords 3 (rs.map Reason.code) ++ [numWord d, numWord e]
  | .paceChanged p src => [numWord p, numWord src.code]
  | .paceFault c p => [numWord c, numWord p]
  | .lineState st c => [pairWord st.code c.code]
  | .fault c st e r => [pairWord c.code (stationCode st)] ++ optTicketWords e ++ optReadTicketWords r
  | .stray st t => [numWord (stationCode st)] ++ readTicketWords t
  | .pressState st t => [numWord st.code, optNumWord t]
  | .jacketFault e r => optKeyWords e ++ readKeyWords r

/-- R190: a notice with its three-word header, which reports the occupied held places (log 10). -/
def noticeFrame (held : Nat) (e : NoticeEntry) : List Word :=
  pairWord 2 (3 + e.notice.body.length) :: pairWord e.notice.kindCode held :: e.number :: e.notice.body

/-! ### Answer bodies (R191 to R193) -/

/-- The presence marks of a book record (R191, word 9); the bits that R191 does not assign are 0 (log 35, DESIGN CHOICE). -/
def presenceWord (r : BookRecord) : Word :=
  numWord (bitIf r.resolved 1 + bitIf r.override.isSome 2 + bitIf r.oneOff.isSome 4
    + bitIf (r.oneOff.bind (·.override)).isSome 8 + bitIf r.thickness.isSome 16 + bitIf r.lane.isSome 32
    + bitIf r.dwell.isSome 64 + bitIf r.eff.isSome 128 + bitIf r.position.isSome 256)

/-- The one-off parameters of a record, 0 where absent (R191, words 11 to 16). -/
def oneOffWords : Option TitleParams → List Word
  | some p => [numWord p.s, numWord p.h, numWord p.w, numWord p.pc, numWord p.mc, numWord (p.override.getD 0)]
  | none => [0, 0, 0, 0, 0, 0]

/-- The code of an optional lane, 0 for none (R195). -/
def optLaneCode : Option LaneId → Nat
  | some l => laneCode l
  | none => 0

/-- The code of an optional outcome, 0 for none (R191). -/
def optOutcomeCode : Option BookOutcome → Nat
  | some o => o.code
  | none => 0

/-- R191: the body of a Query Book answer. -/
def bookWords (r : BookRecord) : List Word :=
  ticketWords r.ticket ++ keyWords r.key ++ [pairWord r.source.code r.stage.code, presenceWord r, numWord (r.override.getD 0)]
    ++ oneOffWords r.oneOff
    ++ [pairWord (r.thickness.getD 0) (optLaneCode r.lane), numWord (r.dwell.getD 0), numWord (r.force.getD 0),
      numWord (r.eff.getD 0), pairWord (r.position.getD 0) (optOutcomeCode r.outcome)]
    ++ codeWords 2 (r.flags.map Flag.code) ++ codeWords 3 (r.reasons.map Reason.code)

/-- R192: the body of a Query Title or Read Title Slot answer; the bits of word 5 that R192 does not assign are 0 (log 35, DESIGN
CHOICE). -/
def entryWords (set : Nat) (w : Way) (lru : Way) (e : TitleEntry) : List Word :=
  [pairWord set w.num, numWord (bitIf e.valid 1 + bitIf e.dirty 2 + lru.num * 4)] ++ keyWords e.key
    ++ [numWord e.params.s, numWord e.params.h, numWord e.params.w, pairWord e.params.pc e.params.mc,
      numWord (e.params.override.getD 0), numWord e.bound, numWord e.diverted, numWord e.pin]

/-- R193: the body of a Load Title answer with status OK; `evicted` is the entry that was evicted. The bits of the marks that R193 does
not assign are 0 (log 35, DESIGN CHOICE). -/
def loadWords (set : Nat) (w : Way) (action resolved : Nat) (evicted : Option TitleEntry) : List Word :=
  let counts := match evicted with | some e => e.dirty | none => false
  [pairWord set w.num, pairWord action resolved, numWord (bitIf evicted.isSome 1 + bitIf counts 2)]
    ++ optKeyWords (evicted.map (·.key))
    ++ [numWord (bitIf counts ((evicted.map (·.bound)).getD 0)), numWord (bitIf counts ((evicted.map (·.diverted)).getD 0))]

/-- R193: the body of a Load Title answer with status SET_FULL. R193 gives word 4 only the set, in its high byte; the low byte 0 is the
model's choice (log 35, DESIGN CHOICE). -/
def setFullWords (set : Nat) (ts : TitleSet) : List Word :=
  [pairWord set 0] ++ keyWords ts.way0.key ++ [numWord ts.way0.pin] ++ keyWords ts.way1.key ++ [numWord ts.way1.pin]

/-- The lock and ignore marks of a contributor entry (R193, R194); the other bits are 0 (log 35, DESIGN CHOICE). -/
def floorMarks (e : FloorEntry) : Nat := bitIf e.lock 1 + bitIf e.ignore 2

/-- R193: the body of a Set Floor answer; the marks as `floorMarks` gives them. -/
def floorWords (c : Contributor) (e : FloorEntry) (commanded : Nat) : List Word :=
  [pairWord c.code (floorMarks e), numWord e.reported, numWord e.locked, optNumWord e.effective, numWord commanded]

/-- R193: the line state in the answer to a Line Command. -/
def lineWords (st : LineState) : List Word := [numWord st.code]

/-! ### Status (R187, R194) -/

/-- R194: a time left in units of 100 ms, rounded up; a stopped timer shows 0. -/
def timeWord (left : Option Nat) : Word := numWord (ceilDiv (left.getD 0) 100)

/-- The code of an optional cause (R195). -/
def optCauseCode : Option Cause → Nat
  | some c => c.code
  | none => 0

/-- The code of an optional pace source (R195). -/
def optSourceCode : Option PaceSource → Nat
  | some c => c.code
  | none => 0

/-- R194, word 18 of part 0: the occupied held places by kind; bits 8 to 15 are 0 (log 35, DESIGN CHOICE). -/
def heldMarks (h : Held) : Nat :=
  bitIf h.titleRequest.isSome 1 + bitIf h.paceChanged.isSome 2 + bitIf h.paceFault.isSome 4 + bitIf h.lineState.isSome 8
    + bitIf h.fault.isSome 16 + bitIf h.stray.isSome 32 + bitIf h.pressState.isSome 64 + bitIf h.jacketFault.isSome 128

/-- R194, part 0 (log 11 for words 15 and 16). -/
def statusLink (s : State) : List Word :=
  [pairWord s.line.state.code (optCauseCode s.line.cause), numWord s.records.length, numWord s.retiring.length,
    numWord (clearedLeft s),
    numWord s.ports.s1.errors, numWord s.ports.s2.errors, numWord s.ports.s3.errors,
    numWord s.ports.s4.errors, numWord s.ports.s5.errors, numWord s.ports.s6.errors,
    pairWord s.link.requests.length s.link.requests.length,
    pairWord s.link.answers.length (bitIf s.link.refusal.isSome 1),
    pairWord s.link.notices.length s.link.held.count, numWord (heldMarks s.link.held), numWord (bitIf s.link.attn 1),
    numWord s.link.overrun, s.link.nextArrival, s.link.nextNotice]

/-- R194, part 1. -/
def statusTitles (s : State) : List Word :=
  numWord s.pendingTitles.length :: s.pendingTitles.flatMap fun p => keyWords p.key ++ [numWord p.count]

/-- The tickets of the first `n` places of a track, none where there is no book. -/
def placeWords : Nat → List Ticket → List Word
  | 0, _ => []
  | n + 1, ts => optTicketWords ts.head? ++ placeWords n ts.tail

/-- R194: the wrong-block marks of the infeed track, bit 0 for its head; bits 3 to 7 of its byte are 0 (log 35, DESIGN CHOICE). -/
def wrongMarks : List InfeedEntry → Nat
  | [] => 0
  | e :: es => bitIf e.wrongBlock 1 + 2 * wrongMarks es

/-- R194: the six words of a reader station. -/
def readerWords (r : Reader) : List Word :=
  optTicketWords r.last ++ optTicketWords r.waiting ++ optReadTicketWords r.unresolved

/-- R194, part 2. -/
def statusTracks (s : State) : List Word :=
  let t := s.tracks
  optTicketWords t.gateHold ++ optTicketWords t.lastGated ++ [pairWord t.infeed.length (wrongMarks t.infeed)]
    ++ placeWords 3 (t.infeed.map (·.ticket)) ++ optTicketWords t.entry ++ optTicketWords t.waitingMarriage
    ++ [pairWord t.jacket.length t.delivery.length] ++ placeWords 3 t.jacket ++ placeWords 2 t.delivery
    ++ readerWords s.readers.s3 ++ readerWords s.readers.s4 ++ readerWords s.readers.s5 ++ readerWords s.readers.s6

/-- The key of a lane (section 4.1): of a HOLDING or RESERVED lane. -/
def Lane.key (l : Lane) : Option TitleKey := l.stockKey

/-- The count of a lane (section 4.1). -/
def Lane.count : Lane → Nat
  | .holding _ n => n
  | _ => 0

/-- The purge kind code of a lane, 0 for none (R195). -/
def Lane.kindCode : Lane → Nat
  | .purging kind _ _ => kind.code
  | _ => 0

/-- The carried key of a lane (section 4.1). -/
def Lane.carried : Lane → Option TitleKey
  | .purging _ k _ => k
  | _ => none

/-- The purge time left of a lane, none when its timer is stopped. -/
def Lane.left : Lane → Option Nat
  | .purging _ _ n => some n
  | _ => none

/-- R194: the seven words of a lane. -/
def laneWords (l : Lane) : List Word :=
  [pairWord l.code l.kindCode] ++ optKeyWords l.key ++ [numWord l.count] ++ optKeyWords l.carried ++ [timeWord l.left]

/-- The head's record (section 4.2). -/
def Head.record : Head → Option Ticket
  | .idle => none
  | .waitTitle t => some t
  | .waitCase t _ => some t
  | .pasting t _ => some t
  | .holdMarried t _ => some t

/-- The head's assigned lane (section 4.2). -/
def Head.lane : Head → Option LaneId
  | .waitCase _ l => l
  | .pasting _ l => some l
  | .holdMarried _ l => some l
  | _ => none

/-- R195: the marriage wait timer is stopped 0, running 1 or held 2 (R90). -/
def timerCondition (s : State) : Nat :=
  match s.marriageTimer with
  | none => 0
  | some _ => if s.line.state.feeds then 1 else 2

/-- R194, part 3. -/
def statusLanes (s : State) : List Word :=
  laneWords s.lanes.a ++ laneWords s.lanes.b ++ [pairWord s.head.code (optLaneCode s.head.lane)]
    ++ optTicketWords s.head.record ++ [timeWord s.marriageTimer, numWord (timerCondition s)]

/-- R194, part 4. -/
def statusPress (s : State) : List Word :=
  let p := s.press.positions
  [pairWord s.press.state.code s.press.index.code, optNumWord s.press.temp, numWord (factor s)]
    ++ optTicketWords s.press.carried
    ++ optTicketWords p.p1 ++ optTicketWords p.p2 ++ optTicketWords p.p3
    ++ optTicketWords p.p4 ++ optTicketWords p.p5 ++ optTicketWords p.p6
    ++ [timeWord s.press.idleTimer, numWord s.press.pd]

/-- R194: the four words of a contributor entry. -/
def floorStatusWords (e : FloorEntry) : List Word :=
  [numWord (floorMarks e), numWord e.reported, numWord e.locked, optNumWord e.effective]

/-- R136, R194, part 5. -/
def statusPace (s : State) : List Word :=
  contributors.flatMap (fun c => floorStatusWords (s.pace.floors.get c))
    ++ [numWord s.press.pd, optNumWord (s.pace.target.map (·.1)),
      pairWord (optSourceCode (s.pace.target.map (·.2))) (optSourceCode s.pace.source),
      numWord s.pace.commanded, optNumWord s.pace.inForce]

/-- The book at S5 (section 7.2). -/
def Jacketing.book : Jacketing → Option Ticket
  | .free => none
  | .verify t => some t
  | .applying t => some t

/-- R139, R194, part 6. -/
def statusJackets (s : State) : List Word :=
  [pairWord s.jackets.mode.code s.jackets.mismatch, pairWord s.jackets.state.code s.params.skipLimit]
    ++ optTicketWords s.jackets.state.book ++ [numWord s.jackets.sequence.length] ++ s.jackets.sequence.flatMap keyWords

/-- R187: the contents of the part of the state that a part number names, none for a number above 6. -/
def statusPart (s : State) : Nat → Option (List Word)
  | 0 => some (statusLink s)
  | 1 => some (statusTitles s)
  | 2 => some (statusTracks s)
  | 3 => some (statusLanes s)
  | 4 => some (statusPress s)
  | 5 => some (statusPace s)
  | 6 => some (statusJackets s)
  | _ => none

/-! ### Commands on a station line (R196) -/

/-- R196: the kind of a command. -/
def PortCommand.kindCode : PortCommand → Nat
  | .s1Admit => 0x40 | .s1Hold => 0x41 | .s1Refuse => 0x42
  | .s2Lane _ => 0x44 | .s2Recirculate => 0x45 | .s2Purge _ => 0x46
  | .s3TakeCase _ => 0x48 | .s3Eject => 0x49 | .s3HaltPaste => 0x4A
  | .s4IndexGo _ => 0x4C | .s4IndexWait => 0x4D | .s4Standby => 0x4E | .s4Wake => 0x4F | .s4Pace _ => 0x50
  | .s5Apply => 0x52 | .s5Pass => 0x53 | .s5Go => 0x54 | .s5Spoil => 0x55 | .s5Skip _ => 0x56
  | .s6Deliver => 0x58 | .s6Divert => 0x59
  | .drivePace _ => 0x50 | .driveRun => 0x5C | .driveStop => 0x5D

/-- A quantity in two bytes, most significant first (section 9.8). -/
def twoBytes (n : Nat) : List Byte := [BitVec.ofNat 8 (n / 256), BitVec.ofNat 8 n]

/-- R196: the body of a command. -/
def PortCommand.body : PortCommand → List Byte
  | .s2Lane l | .s2Purge l | .s3TakeCase l => [BitVec.ofNat 8 (laneCode l)]
  | .s4IndexGo f => twoBytes (f.getD 0)
  | .s4Pace p | .drivePace p => twoBytes p
  | .s5Skip n => [BitVec.ofNat 8 n]
  | _ => []

/-- Section 9.8: kind, length, body, and the sum byte that makes the sum of all bytes a multiple of 256. -/
def commandBytes (c : PortCommand) : List Byte :=
  let front := BitVec.ofNat 8 c.kindCode :: BitVec.ofNat 8 c.body.length :: c.body
  front ++ [-(BitVec.ofNat 8 (messageSum front))]

end Sys2Proof.Machine
end

