-- ==== Sys2Proof/Machine/LinkCommands.lean ====
section
/-! DEFINITION. The commands of device reset and of the ports (R49, R198 to R201), and of the line link: frames taken and cut short
(R175 to R179), answers and notices sent (R181, R185). -/

namespace Sys2Proof.Machine

/-! ### Device reset and what follows it (R198 to R201) -/

/-- DEVICE_RESET (R198): every block takes its reset values in one step. The commands that wait come from outside the part, so
they stay (log 24), and the model's own counter keeps its count. -/
def execDeviceReset (s : State) : Host.Outcome State Fault Refusal :=
  .next { State.reset with pending := s.pending, openChoices := s.openChoices }

/-- DRIVE_STOP_AFTER_RESET (R201): the drive port sends STOP as its first command, and then the commands that have waited
behind it. Once STOP has been sent the event does not occur again (log 1). -/
def execDriveStopAfterReset (s : State) : Host.Outcome State Fault Refusal :=
  match s.drive.stopDue with
  | none => .next (openStep s)
  | some _ =>
    stepWith (fun s' => { s' with out := .driveStop :: s'.drive.waiting, drive := ⟨none, []⟩ }) s

/-- The port of a station. -/
def Ports.get (p : Ports) : Station → StationPort
  | .s1 => p.s1
  | .s2 => p.s2
  | .s3 => p.s3
  | .s4 => p.s4
  | .s5 => p.s5
  | .s6 => p.s6

/-- The ports with one replaced. -/
def Ports.put (st : Station) (x : StationPort) (p : Ports) : Ports :=
  match st with
  | .s1 => { p with s1 := x }
  | .s2 => { p with s2 := x }
  | .s3 => { p with s3 := x }
  | .s4 => { p with s4 := x }
  | .s5 => { p with s5 := x }
  | .s6 => { p with s6 := x }

/-- A port of the state replaced. -/
def setPort (st : Station) (x : StationPort) (s : State) : State := { s with ports := s.ports.put st x }

/-- R200: characters that arrive at a port before its quiet time has run are discarded without a count, and its line must be
quiet for the whole time again. -/
def discardChars (st : Station) (s : State) : State :=
  setPort st { s.ports.get st with quiet := some Config.quietTime } s

/-- R49: a damaged message is discarded and the station's error count rises by 1, saturating. -/
def countError (st : Station) (s : State) : State :=
  setPort st { s.ports.get st with errors := min ((s.ports.get st).errors + 1) Config.saturation } s

/-- R49, R200: a whole message of a station: its effect, when the port takes messages; otherwise it is discarded. -/
def takeMessage (st : Station) (f : State → State) (s : State) : Host.Outcome State Fault Refusal :=
  match (s.ports.get st).quiet with
  | some _ => stepWith (discardChars st) s
  | none => stepWith f s

/-- PORT_QUIET_TIME (R200): the port begins to take messages. -/
def execPortQuietTime (st : Station) (s : State) : Host.Outcome State Fault Refusal :=
  stepWith (fun s' => setPort st { s'.ports.get st with quiet := none } s') s

/-- MESSAGE_CHARACTER_TIMEOUT (R49): the partial message is dropped and counted. During a port's quiet time it stands for characters
that were discarded, and the quiet time begins again (R200; log 34, DESIGN CHOICE). -/
def execMessageCharacterTimeout (st : Station) (s : State) : Host.Outcome State Fault Refusal :=
  takeMessage st (countError st) s

/-- DAMAGED_MESSAGE (R49): a message that fails the port's check is discarded and counted; one that passes it is no damaged
message, and the event does not occur (log 1). -/
def execDamagedMessage (st : Station) (bytes : List Byte) (s : State) : Host.Outcome State Fault Refusal :=
  takeMessage st (fun s' => if messageOk st bytes then s' else countError st s') s

/-- R49: the sum character of a message of a station arrives: the command that its characters spell is taken after those that
wait already, in the order in which the ports take their messages. -/
def arriveMessage (st : Station) (bytes : List Byte) (s : State) : State :=
  { s with pending := s.pending ++ [messageCommand st bytes] }

/-! ### Frames taken (R175 to R179) -/

/-- R179: a refusal of the port goes to the refusal place when it is empty; otherwise it is dropped and the link overrun
count rises by 1, saturating. -/
def refuseFrame (kind : Nat) (st : Status) (arrival : Word) (s : State) : State :=
  match s.link.refusal with
  | none => { s with link.refusal := some ⟨BitVec.ofNat 8 kind, st, arrival, []⟩ }
  | some _ => { s with link.overrun := min (s.link.overrun + 1) Config.saturation }

/-- R177, R179: the checks of a whole frame that has received its arrival number. -/
def checkFrame (ws : List Word) (arrival : Word) (s : State) : State :=
  let kind := hiByte (wordAt ws 0)
  match frameRequest ws with
  | none => refuseFrame kind .unknownRequest arrival s
  | some (count, r) =>
    if ws.length ≠ count then refuseFrame kind .badLength arrival s
    else if s.link.requests.length + s.link.answers.length < Config.answerPlaces then
      { s with link.requests := s.link.requests ++ [⟨r, arrival⟩] }
    else refuseFrame kind .busy arrival s

/-- R175: a frame that completes or is cut short receives the next arrival number. -/
def takeArrival (f : Word → State → State) (s : State) : State :=
  f s.link.nextArrival { s with link.nextArrival := s.link.nextArrival + 1 }

/-- R175: a word with frame sync is the header of a new frame. -/
def beginFrame (w : Word) (s : State) : State :=
  let n := loByte w
  if n = 0 ∨ Config.requestWords < n then
    takeArrival (refuseFrame (hiByte w) .badLength) { s with link.assembly := [] }
  else if n = 1 then takeArrival (checkFrame [w]) { s with link.assembly := [] }
  else { s with link.assembly := [w] }

/-- R176: a frame sync cuts a frame in assembly short, which is answered FRAMING. -/
def cutShort (s : State) : State :=
  match s.link.assembly with
  | [] => s
  | header :: _ => takeArrival (refuseFrame (hiByte header) .framing) { s with link.assembly := [] }

/-- R175: a word without frame sync goes to the frame in assembly, which is complete when it holds its declared words; with
no frame in assembly it is discarded. -/
def continueFrame (w : Word) (s : State) : State :=
  match s.link.assembly with
  | [] => s
  | header :: rest =>
    let ws := header :: rest ++ [w]
    if ws.length < loByte header then { s with link.assembly := ws }
    else takeArrival (checkFrame ws) { s with link.assembly := [] }

/-- R175, R176: a word that arrives on the line link. -/
def takeWord (s : State) (w : LinkWord) : State :=
  if w.sync then beginFrame w.word (cutShort s) else continueFrame w.word s

/-- REQUEST_FRAME (R175, R177): the words arrive one by one; the last of them completes the frame. -/
def execRequestFrame (words : List LinkWord) (s : State) : Host.Outcome State Fault Refusal :=
  stepWith (fun s' => words.foldl takeWord s') s

/-- FRAME_CUT_SHORT (R176): the words of the frame arrive, and then the word whose frame sync cuts it short. -/
def execFrameCutShort (words : List LinkWord) (header : Word) (s : State) : Host.Outcome State Fault Refusal :=
  stepWith (fun s' => takeWord (words.foldl takeWord s') ⟨true, header⟩) s

/-! ### Frames sent (R181, R185) -/

/-- R181: the outgoing stream is free again, after the frame `ws`. -/
def frameOut (ws : List Word) (s : State) : State :=
  { s with sentFrame := ws, link.sending := .idle }

/-- ANSWER_SENT (R181): the last word of the frame of the refusal place, or of the oldest answer, has been sent, and its place
is free. A frame that the arbiter cannot have begun is not sent (log 9). -/
def execAnswerSent (place : AnswerPlace) (s : State) : Host.Outcome State Fault Refusal :=
  match place with
  | .refusal =>
    match s.link.refusal with
    | some a =>
      if s.link.sending.refusal then
        stepWith (fun s' => frameOut (answerFrame a) { s' with link.refusal := none }) s
      else .next (openStep s)
    | none => .next (openStep s)
  | .answer =>
    match s.link.answers with
    | a :: rest =>
      if s.link.sending.answer then
        stepWith (fun s' => frameOut (answerFrame a) { s' with link.answers := rest }) s
      else .next (openStep s)
    | [] => .next (openStep s)

/-- R185: a freed place of the notice queue is filled by the Book Retired notice of the record at the head of the retirement
order, or else by the first held notice. -/
def refillNotices (s : State) : State :=
  match s.retiring with
  | t :: _ => offerRetired t s
  | [] =>
    match s.link.held.take with
    | some (e, held) => enqueueNotice e { s with link.held := held }
    | none => s

/-- R183, R185: the notice at the head leaves the queue, the freed place is filled, and ATTN is negated when none is left. -/
def noticeOut (rest : List NoticeEntry) (s : State) : State :=
  let s1 := refillNotices { s with link.notices := rest }
  { s1 with link.attn := !s1.link.notices.isEmpty }

/-- NOTICE_SENT (R181, R185): the last word of the notice at the head of the queue has been sent. A notice that the arbiter
cannot have begun is not sent (log 9). -/
def execNoticeSent (s : State) : Host.Outcome State Fault Refusal :=
  match s.link.notices with
  | [] => .next (openStep s)
  | e :: rest =>
    if s.link.sending.notice then
      stepWith (fun s' => noticeOut rest (frameOut (noticeFrame s'.link.held.count e) s')) s
    else .next (openStep s)

end Sys2Proof.Machine
end

