-- ==== Sys2Proof/Machine/RecordCommands.lean ====
section
/-! DEFINITION. The requests on book records (section 1.4): Admit Book, Withdraw Book, Attach Parameters, Query Book and Force
Retire. -/

namespace Sys2Proof.Machine

/-! ### Admit Book (R14, R15) -/

/-- R2, R15: the record that an accepted Admit Book creates. -/
def newRecord (t : Ticket) (k : TitleKey) (override : Option Nat) (oneOff : Option TitleParams) (resolved : Bool) :
    BookRecord where
  ticket := t
  key := k
  source := if oneOff.isSome then .oneOff else .table
  oneOff := oneOff
  resolved := resolved
  override := override

/-- R15: the record joins the tail of the admission order. -/
def addRecord (r : BookRecord) (s : State) : State := { s with records := s.records ++ [r] }

/-- R15: the effects of an accepted Admit Book, by its source and the Title Table. -/
def admitRecord (t : Ticket) (k : TitleKey) (override : Option Nat) (oneOff : Option TitleParams) (s : State) : State :=
  match oneOff with
  | some p => addRecord (newRecord t k override (some p) true) s
  | none =>
    if (titleWay k s).isSome then useTitle k (pinTitle k (addRecord (newRecord t k override none true) s))
    else missTitle k (addRecord (newRecord t k override none false) s)

/-- R15: whether the record of an accepted Admit Book is resolved. -/
def admitResolved (k : TitleKey) (oneOff : Option TitleParams) (s : State) : Bool :=
  oneOff.isSome || (titleWay k s).isSome

/-- R14, check 5. -/
def backlogFull (k : TitleKey) (oneOff : Option TitleParams) (s : State) : Bool :=
  !(admitResolved k oneOff s) && !(isListed k s) && decide (Config.pendingKeys ≤ s.pendingTitles.length)

/-- R14, R15: Admit Book, with its checks in their order. -/
def handleAdmit (t : Ticket) (k : TitleKey) (o : Word) (override : Option Nat) (oneOff : Option TitleParams) (s : State) :
    Handled :=
  if admitInRange t k o override oneOff = false then refuse s .range
  else if clearedLeft s ≠ 0 then refuse s .wrongState
  else if (findRecord t s).isSome then refuse s .duplicate
  else if Config.liveRecords ≤ s.records.length then refuse s .tableFull
  else if backlogFull k oneOff s then refuse s .titleBacklog
  else
    accept (admitRecord t k override oneOff s)
      (ticketWords t ++ [numWord (bitIf (admitResolved k oneOff s) 1)])

/-- ADMIT_BOOK (R14, R15, R180). -/
def execAdmitBook (s : State) : Host.Outcome State Fault Refusal :=
  serve (fun r => match r with
    | .admitBook t k o override oneOff => some (handleAdmit t k o override oneOff)
    | _ => none) s

/-! ### Withdraw Book (R13, R16) -/

/-- R13, R16: Withdraw Book. -/
def handleWithdraw (t : Ticket) (s : State) : Handled :=
  if ticketInRange t = false then refuse s .range
  else match liveRecord t s with
  | none => refuse s .noRecord
  | some r =>
    if r.stage = .admitted then accept (retire t .withdrawn none s) [] else refuse s .tooLate

/-- WITHDRAW_BOOK (R16, R180). -/
def execWithdrawBook (s : State) : Host.Outcome State Fault Refusal :=
  serve (fun r => match r with
    | .withdrawBook t => some (handleWithdraw t)
    | _ => none) s

/-! ### Attach Parameters (R18, R19) -/

/-- R18, check 3: the stages in which a record is not married. -/
def Stage.unmarried : Stage → Bool
  | .admitted | .gated | .infeed | .head => true
  | _ => false

/-- R19: the effects of an accepted Attach Parameters on the record `r`. -/
def attachRecord (r : BookRecord) (p : TitleParams) (s : State) : State :=
  let s1 := putRecord { r with source := .oneOff, oneOff := some p, resolved := true } s
  settleLine (announceResolved r.ticket (stopWaiting r.key s1))

/-- R18, R19: Attach Parameters. -/
def handleAttach (t : Ticket) (o : Word) (p : TitleParams) (s : State) : Handled :=
  if (ticketInRange t && onlyMarks 4 o && paramsInRange p) = false then refuse s .range
  else match liveRecord t s with
  | none => refuse s .noRecord
  | some r =>
    if r.stage.unmarried = false then refuse s .tooLate
    else if r.source = .oneOff ∨ r.resolved = true then refuse s .wrongState
    else accept (attachRecord r p s) []

/-- ATTACH_PARAMETERS (R18, R19, R180). -/
def execAttachParameters (s : State) : Host.Outcome State Fault Refusal :=
  serve (fun r => match r with
    | .attachParameters t o p => some (handleAttach t o p)
    | _ => none) s

/-! ### Query Book (R13, R20) -/

/-- R13, R20: Query Book, which also finds a record in RETIRING. -/
def handleQueryBook (t : Ticket) (s : State) : Handled :=
  if ticketInRange t = false then refuse s .range
  else match findRecord t s with
  | none => refuse s .noRecord
  | some r => accept s (bookWords r)

/-- QUERY_BOOK (R20, R180). -/
def execQueryBook (s : State) : Host.Outcome State Fault Refusal :=
  serve (fun r => match r with
    | .queryBook t => some (handleQueryBook t)
    | _ => none) s

/-! ### Force Retire (R21, R22) -/

/-- R22, R97: the head whose record is forced goes IDLE, makes the release check, and takes a waiting reading. -/
def forcedAtHead (s : State) : State := actWaitingS3 (releaseCheck (clearHead s))

/-- R22, R54, R95: after the entry place has been emptied: a waiting marriage is taken, PD is recomputed, and a head that held the
forced book as HOLD_MARRIED goes IDLE (log 16). -/
def forcedAtEntry (t : Ticket) (s : State) : State := headGivesUp t (recomputeDemand (takeWaiting s))

/-- R152: the jacketing state of a forced book at S5. -/
def forcedAtJacketer (t : Ticket) (s : State) : State :=
  if s.jackets.state = .verify t then { s with jackets := { s.jackets with state := .free } }
  else if s.jackets.state = .applying t then
    { s with jackets := { s.jackets with state := .free, sequence := s.jackets.sequence.tail } }
  else s

/-- R22: what the owner of the emptied place does, by the stage the forced record held. -/
def forcedConsequence (t : Ticket) (stage : Stage) (s : State) : State :=
  match stage with
  | .infeed => releaseCheck (gateTest s)
  | .head => forcedAtHead s
  | .entry => forcedAtEntry t s
  | .press => indexRetest (recomputeDemand s)
  | .jacket => indexRetest (forcedAtJacketer t s)
  | .delivery => actWaitingS5 s
  | _ => s

/-- R21, R22: Force Retire. -/
def handleForceRetire (t : Ticket) (s : State) : Handled :=
  if ticketInRange t = false then refuse s .range
  else if s.line.state.maintenance = false then refuse s .wrongState
  else match liveRecord t s with
  | none => refuse s .noRecord
  | some r => accept (settleLine (forcedConsequence t r.stage (retire t .forced none s))) []

/-- FORCE_RETIRE (R21, R22, R180). -/
def execForceRetire (s : State) : Host.Outcome State Fault Refusal :=
  serve (fun r => match r with
    | .forceRetire t => some (handleForceRetire t)
    | _ => none) s

end Sys2Proof.Machine
end

