-- ==== Sys2Proof/Machine/TitleCommands.lean ====
section
/-! DEFINITION. The requests on the Title Table (sections 2.3 to 2.6): Load Title, Drop Title, Query Title and Read Title Slot. -/

namespace Sys2Proof.Machine

/-! ### Load Title (R39 to R44) -/

/-- R41: the victim way for a key that is not valid in the set, none when both ways are pinned. -/
def TitleSet.victim (ts : TitleSet) : Option Way :=
  match ts.way0.valid, ts.way1.valid with
  | false, false => some ts.lru
  | false, true => some .w0
  | true, false => some .w1
  | true, true =>
    if (ts.get ts.lru).pin = 0 then some ts.lru
    else if (ts.get ts.lru.other).pin = 0 then some ts.lru.other
    else none

/-- R42: the entry of a newly installed key. -/
def installedEntry (k : TitleKey) (p : TitleParams) : TitleEntry := ⟨true, k, p, 0, 0, false, 0⟩

/-- R36: a record that waits on a key: of source TABLE, of that key, unresolved and not in RETIRING. -/
def waitsOn (k : TitleKey) (r : BookRecord) : Bool :=
  r.source == .table && r.key == k && !r.resolved && !(r.stage == .retiring)

/-- R36: a record that waits on the key resolves, pins the entry, and is announced. -/
def resolveRecord (k : TitleKey) (s : State) (t : Ticket) : State :=
  match liveRecord t s with
  | some r =>
    if waitsOn k r then announceResolved t (pinTitle k (putRecord { r with resolved := true } s)) else s
  | none => s

/-- R36: every record that waits on the key resolves, in order of admission, and the key leaves the list. -/
def resolveWaiting (k : TitleKey) (s : State) : State :=
  let waiting := (s.records.filter (waitsOn k)).map (·.ticket)
  waiting.foldl (resolveRecord k) { s with pendingTitles := s.pendingTitles.filter (fun p => !(p.key == k)) }

/-- R36, R43: the number of records a Load Title resolves: those waiting, when the key is listed. -/
def resolvedCount (k : TitleKey) (s : State) : Nat := (s.records.filter (waitsOn k)).length

/-- R40: the parameters of the key's entry are replaced, and its way is used. -/
def updateTitle (k : TitleKey) (p : TitleParams) (s : State) : State :=
  useTitle k (changeEntry k (fun e => { e with params := p }) s)

/-- R42: the key is installed in the victim way, the records that wait on it resolve, and the way is used. -/
def installTitle (k : TitleKey) (p : TitleParams) (w : Way) (s : State) : State :=
  settleLine (changeSet k (·.use w) (resolveWaiting k (changeSet k (fun ts => ts.put w (installedEntry k p)) s)))

/-- R42, R43: the entry that an install in a way evicts. -/
def evictedEntry (ts : TitleSet) (w : Way) : Option TitleEntry :=
  if (ts.get w).valid then some (ts.get w) else none

/-- R39 to R44: Load Title. -/
def handleLoadTitle (k : TitleKey) (o : Word) (p : TitleParams) (s : State) : Handled :=
  if (keyInRange k && onlyMarks 4 o && paramsInRange p) = false then refuse s .range
  else match titleWay k s with
  | some w => accept (updateTitle k p s) (loadWords (setOf k).val w 2 0 none)
  | none =>
    match (titleSet k s).victim with
    | none => ⟨s, .setFull, setFullWords (setOf k).val (titleSet k s)⟩
    | some w =>
      accept (installTitle k p w s)
        (loadWords (setOf k).val w 1 (resolvedCount k s) (evictedEntry (titleSet k s) w))

/-- LOAD_TITLE (R39 to R44, R180). -/
def execLoadTitle (s : State) : Host.Outcome State Fault Refusal :=
  serve (fun r => match r with
    | .loadTitle k o p => some (handleLoadTitle k o p)
    | _ => none) s

/-! ### Drop Title (R45, R46) -/

/-- R45, R46: Drop Title; in the word of the dirty mark only bit 0 is assigned (R193), and the others are 0 (log 35, DESIGN CHOICE). -/
def handleDropTitle (k : TitleKey) (s : State) : Handled :=
  if keyInRange k = false then refuse s .range
  else match titleWay k s with
  | none => refuse s .noRecord
  | some w =>
    let e := (titleSet k s).get w
    if e.pin ≠ 0 then ⟨s, .inUse, [numWord e.pin]⟩
    else
      accept (changeEntry k (fun x => { x with valid := false }) s)
        [pairWord (setOf k).val w.num, numWord (bitIf e.dirty 1), numWord e.bound, numWord e.diverted]

/-- DROP_TITLE (R45, R46, R180). -/
def execDropTitle (s : State) : Host.Outcome State Fault Refusal :=
  serve (fun r => match r with
    | .dropTitle k => some (handleDropTitle k)
    | _ => none) s

/-! ### Query Title and Read Title Slot (R47, R48) -/

/-- R47: Query Title. -/
def handleQueryTitle (k : TitleKey) (s : State) : Handled :=
  if keyInRange k = false then refuse s .range
  else match titleWay k s with
  | none => ⟨s, .noRecord, [numWord (waitingCount k s)]⟩
  | some w => accept s (entryWords (setOf k).val w (titleSet k s).lru ((titleSet k s).get w))

/-- QUERY_TITLE (R47, R180). -/
def execQueryTitle (s : State) : Host.Outcome State Fault Refusal :=
  serve (fun r => match r with
    | .queryTitle k => some (handleQueryTitle k)
    | _ => none) s

/-- The way that a way number names. -/
def wayOfNum : Nat → Option Way
  | 0 => some .w0
  | 1 => some .w1
  | _ => none

/-- R48: Read Title Slot. -/
def handleReadSlot (set way : Nat) (s : State) : Handled :=
  match wayOfNum way with
  | none => refuse s .range
  | some w =>
    if h : set < 32 then
      let ts := s.titles.get ⟨set, h⟩
      accept s (entryWords set w ts.lru (ts.get w))
    else refuse s .range

/-- READ_TITLE_SLOT (R48, R180). -/
def execReadTitleSlot (s : State) : Host.Outcome State Fault Refusal :=
  serve (fun r => match r with
    | .readTitleSlot set way => some (handleReadSlot set way)
    | _ => none) s

end Sys2Proof.Machine
end

