-- ==== Sys2Proof/Machine/SettingCommands.lean ====
section
/-! DEFINITION. The requests on parameters, floors, jackets and status: Set Parameter (R188), Set Floor (R125), Load Jackets (R140),
Release Jacketer (R150) and Status (R187). -/

namespace Sys2Proof.Machine

/-! ### Set Parameter (R120, R135, R188) -/

/-- R120, R135, R188: what a parameter just written brings in the block that owns it: T_ref and T_x a recompute of PD, the idle
time a new start of the idle timer, the pace parameters a recompute of the pitch. -/
def parameterEffect (number : Nat) (s : State) : State :=
  match number with
  | 13 => recomputeDemand s
  | 14 => recomputeDemand s
  | 15 => idleRefresh { s with press := { s.press with idleTimer := none } }
  | 16 => recomputePitch s
  | 17 => recomputePitch s
  | 18 => recomputePitch s
  | _ => s

/-- R188: Set Parameter. -/
def handleSetParameter (number value : Nat) (s : State) : Handled :=
  if parameterOk s.params number value = false then refuse s .range
  else
    accept (parameterEffect number { s with params := s.params.write number value }) [numWord number, numWord value]

/-- SET_PARAMETER (R188, R180). -/
def execSetParameter (s : State) : Host.Outcome State Fault Refusal :=
  serve (fun r => match r with
    | .setParameter n v => some (handleSetParameter n v)
    | _ => none) s

/-! ### Set Floor (R125, R126) -/

/-- R125, check 2: 0, or 300 to 9999. -/
def floorInRange (v : Nat) : Bool := v == 0 || within 300 9999 v

/-- R126: the entry as an accepted Set Floor writes it. -/
def writtenFloor (c : Contributor) (lock ignore : Bool) (v : Nat) (e : FloorEntry) : FloorEntry where
  reported := if c = .control then v else e.reported
  lock := lock
  locked := if lock then v else 0
  ignore := ignore

/-- R126: the entry is written and the pitch recomputed. -/
def writeFloor (c : Contributor) (e : FloorEntry) (s : State) : State :=
  recomputePitch { s with pace := { s.pace with floors := s.pace.floors.put c e } }

/-- R125, R126 (R178: only lock and ignore may be set in the low byte): Set Floor. -/
def handleSetFloor (entry : Nat) (marks : Byte) (v : Nat) (s : State) : Handled :=
  match contributorOfCode entry with
  | none => refuse s .range
  | some c =>
    if (floorInRange v && decide (marks.toNat < 4)) = false then refuse s .range
    else
      let s' := writeFloor c (writtenFloor c (marks.getLsbD 0) (marks.getLsbD 1) v (s.pace.floors.get c)) s
      accept s' (floorWords c (s'.pace.floors.get c) s'.pace.commanded)

/-- SET_FLOOR (R125, R126, R180). -/
def execSetFloor (s : State) : Host.Outcome State Fault Refusal :=
  serve (fun r => match r with
    | .setFloor e m v => some (handleSetFloor e m v)
    | _ => none) s

/-! ### Load Jackets (R140) -/

/-- R140, check 1. -/
def jacketsInRange (keys : List TitleKey) : Bool := within 1 16 keys.length && keys.all keyInRange

/-- R140: Load Jackets. -/
def handleLoadJackets (keys : List TitleKey) (s : State) : Handled :=
  if jacketsInRange keys = false then refuse s .range
  else if Config.jacketKeys < s.jackets.sequence.length + keys.length then refuse s .noSpace
  else
    accept { s with jackets := { s.jackets with sequence := s.jackets.sequence ++ keys } }
      [numWord (s.jackets.sequence.length + keys.length)]

/-- LOAD_JACKETS (R140, R180). -/
def execLoadJackets (s : State) : Host.Outcome State Fault Refusal :=
  serve (fun r => match r with
    | .loadJackets keys => some (handleLoadJackets keys)
    | _ => none) s

/-! ### Release Jacketer (R150) -/

/-- R150: the jacketer released, with the sequence emptied or kept. -/
def releaseJackets (empty : Bool) (s : State) : State :=
  { s with jackets := { s.jackets with
      mode := .normal, mismatch := 0, sequence := if empty then [] else s.jackets.sequence } }

/-- R193: the answer to an accepted Release Jacketer. -/
def releasedWords (s : State) : List Word :=
  [pairWord s.jackets.mode.code s.jackets.mismatch, numWord s.jackets.sequence.length]

/-- R150 (R178: 1 KEEP, 2 EMPTY): Release Jacketer. -/
def handleReleaseJacketer (choice : Nat) (s : State) : Handled :=
  match choice with
  | 1 => accept (releaseJackets false s) (releasedWords (releaseJackets false s))
  | 2 =>
    if s.jackets.state = .free then accept (releaseJackets true s) (releasedWords (releaseJackets true s))
    else refuse s .wrongState
  | _ => refuse s .range

/-- RELEASE_JACKETER (R150, R180). -/
def execReleaseJacketer (s : State) : Host.Outcome State Fault Refusal :=
  serve (fun r => match r with
    | .releaseJacketer c => some (handleReleaseJacketer c)
    | _ => none) s

/-! ### Status (R187) -/

/-- R187, R194: Status; the part number stands in word 4 of the answer. -/
def handleStatus (part : Nat) (s : State) : Handled :=
  match statusPart s part with
  | none => refuse s .range
  | some ws => accept s (numWord part :: ws)

/-- STATUS (R187, R180). -/
def execStatus (s : State) : Host.Outcome State Fault Refusal :=
  serve (fun r => match r with
    | .status p => some (handleStatus p)
    | _ => none) s

end Sys2Proof.Machine
end

