-- ==== Sys2Proof/Machine/LineCommands.lean ====
section
/-! DEFINITION. The Line Commands (chapter 8): RUN, STOP_SOFT, STOP_NOW, RUN_OUT, RELEASE and CLEAR_LINE, and a Line Command that
names no command. -/

namespace Sys2Proof.Machine

/-- R161: a Line Command of code `code` (R178), accepted in the line states `ok` with the effect `f`; the answers OK and
WRONG_STATE carry the line state after the command. -/
def lineCommand (code : Nat) (ok : LineState → Bool) (f : State → State) (r : Request) : Option (State → Handled) :=
  match r with
  | .lineCommand c =>
    if c = code then
      some fun s =>
        if ok s.line.state then
          let t := f s
          accept t (lineWords t.line.state)
        else ⟨s, .wrongState, lineWords s.line.state⟩
    else none
  | _ => none

/-! ### RUN (R162) -/

/-- R161: STOPPED or HALTED. -/
def standsFree : LineState → Bool
  | .stopped | .halted => true
  | _ => false

/-- R88: PURGE of kind INITIAL for a lane that is UNKNOWN. -/
def initialPurge (l : LaneId) (s : State) : State :=
  if s.lanes.get l = .unknown then startPurge l .initial none s else s

/-- R80, R88: PURGE of kind INITIAL for each lane that is UNKNOWN, lane A first. A head that waits with no lane takes a new lane
decision when a lane has left UNKNOWN by it, and only then. -/
def initialPurges (s : State) : State :=
  let s' := initialPurge .b (initialPurge .a s)
  if s.lanes.a = .unknown ∨ s.lanes.b = .unknown then decideAgain s' else s'

/-- R162: the effects of RUN, block by block. -/
def runLine (s : State) : State :=
  settleLine <| gateTest <| indexRetest <| wakePress <| tryTakeCase <| initialPurges <|
    send .driveRun <| resendPace <| setLine .running .run s

/-- RUN (R161, R162, R180). -/
def execRun (s : State) : Host.Outcome State Fault Refusal :=
  serve (lineCommand 1 standsFree runLine) s

/-! ### STOP_SOFT (R164, R165) -/

/-- R164, R165: the line becomes STOPPING, and STOPPED when the soft stop completes at once. -/
def softStop (s : State) : State := softStopTest (setLine .stopping .stopSoft s)

/-- STOP_SOFT (R161, R164, R180). -/
def execStopSoft (s : State) : Host.Outcome State Fault Refusal :=
  serve (lineCommand 2 LineState.feeds softStop) s

/-! ### STOP_NOW (R166) -/

/-- R166: STOP goes to the drive, a pasting under way is halted, and the line becomes STOPPED. -/
def stopNowLine (s : State) : State := setLine .stopped .stopNow (haltPaste (stopDrive s))

/-- STOP_NOW (R161, R166, R180). -/
def execStopNow (s : State) : Host.Outcome State Fault Refusal :=
  serve (lineCommand 3 LineState.driveRuns stopNowLine) s

/-! ### RUN_OUT (R168, R169) -/

/-- R161: RUNNING. -/
def isRunning : LineState → Bool
  | .running => true
  | _ => false

/-- R81, R108, R168: the line becomes RUNNING_OUT, and what waits for a feeding line is tested. -/
def runOutLine (s : State) : State :=
  settleLine (indexRetest (tryTakeCase (setLine .runningOut .runOut s)))

/-- RUN_OUT (R161, R168, R180). -/
def execRunOut (s : State) : Host.Outcome State Fault Refusal :=
  serve (lineCommand 4 isRunning runOutLine) s

/-! ### RELEASE (R171) -/

/-- R161: FAULT_HOLD. -/
def isFaultHold : LineState → Bool
  | .faultHold => true
  | _ => false

/-- R100, R101: whether the last temperature is at or above the overheat threshold. -/
def overheated (s : State) : Bool :=
  match s.press.temp with
  | some t => decide (s.params.tRef + 30 ≤ t)
  | none => false

/-- R102: a FAULT press whose last temperature is below the overheat threshold goes WARMING. -/
def pressLeavesFault (s : State) : State :=
  if s.press.state = .fault ∧ overheated s = false then indexRetest (setPress .warming s) else s

/-- R69, R171: the line becomes STOPPED, a FAULT press may go WARMING, and the unresolved reads are evaluated again in the order
S3, S4, S5, S6. -/
def releaseLine (s : State) : State :=
  settleLine <| evaluateAgain .s6 <| evaluateAgain .s5 <| evaluateAgain .s4 <| evaluateAgain .s3 <| pressLeavesFault <|
    setLine .stopped .release s

/-- RELEASE (R161, R171, R180). -/
def execRelease (s : State) : Host.Outcome State Fault Refusal :=
  serve (lineCommand 5 isFaultHold releaseLine) s

/-! ### CLEAR_LINE (R173) -/

/-- R23: every live record not in RETIRING retires CLEARED, in order of admission. -/
def retireAll (s : State) : State :=
  let s' := (s.records.map (·.ticket)).foldl (fun s t => enterRetiring t .cleared none s) s
  offerAll s'.retiring s'

/-- R38, R55, R63, R98, R121, R157: the places, the lanes, the head, the press positions and the jacket sequence emptied. -/
def emptyPlaces (s : State) : State :=
  { s with
    pendingTitles := []
    tracks := .resetValue
    readers := ⟨⟨none, none, s.readers.s3.unresolved⟩, ⟨none, none, s.readers.s4.unresolved⟩,
      ⟨none, none, s.readers.s5.unresolved⟩, ⟨none, none, s.readers.s6.unresolved⟩⟩
    lanes := ⟨.unknown, .unknown⟩
    head := .idle
    marriageTimer := none
    press := { s.press with positions := .empty }
    jackets := { s.jackets with sequence := [], state := .free } }

/-- R159, R173: the line becomes STOPPED; a change is noticed, and no change is not. -/
def clearedLine (s : State) : State := if s.line.state = .stopped then s else setLine .stopped .clearLine s

/-- R173: Clear Line: the Line State notice, then the Book Retired notices, then the recompute with PD 0 that R173 leaves to R137, whose
PACE goes out when it changes the pitch (R131, R137; log 31, DEDUCED). -/
def clearWhole (s : State) : State :=
  idleRefresh (recomputeDemand (emptyPlaces (retireAll (clearedLine s))))

/-- CLEAR_LINE (R161, R173, R180). -/
def execClearLine (s : State) : Host.Outcome State Fault Refusal :=
  serve (lineCommand 6 standsFree clearWhole) s

/-! ### A Line Command that names no command (R161) -/

/-- LINE_COMMAND_NAMING_NO_COMMAND (R161): answered RANGE, changing nothing (log 15). -/
def execLineCommandNamingNoCommand (s : State) : Host.Outcome State Fault Refusal :=
  serve (fun r => match r with
    | .lineCommand c => if within 1 6 c then none else some fun s' => refuse s' .range
    | _ => none) s

end Sys2Proof.Machine
end

