-- ==== Sys2Proof/Machine/StationCommands.lean ====
section
/-! DEFINITION. The messages of the stations (section 3.1) and the expiries of the timers: S1 and S3 to S6 readings, cases, purges,
marriage, the press, the jacketer, delivery and floors. -/

namespace Sys2Proof.Machine

/-- A Stray notice (R56, R67, R94, R149). -/
def stray (st : Station) (t : Reading Ticket) : State → State := produce (.stray st t)

/-! ### BLOCK_READ at S1 (R56 to R59) -/

/-- R56, cases 2 to 5: the block is refused, and a Stray notice is produced. -/
def refuseStray (t : Reading Ticket) (s : State) : State := stray .s1 t (send .s1Refuse s)

/-- R57: the record goes GATED with its measured thickness, its ticket takes the gate hold and is the last gated ticket, the
idle timer stops (R118), and a STANDBY press is woken (R119). -/
def gateBook (t : Ticket) (m : Nat) (s : State) : State :=
  let s1 := changeRecord t (fun r => { r with stage := .gated, thickness := r.thickness.or (some m) }) s
  wakePress { s1 with
    tracks := { s1.tracks with gateHold := some t, lastGated := some t }
    press := { s1.press with idleTimer := none } }

/-- R59: a block at the gate is answered ADMIT when the conditions hold, HOLD otherwise. -/
def answerGate (t : Ticket) (s : State) : State :=
  if gateOpen s then admitHeld t s else send .s1Hold s

/-- R57 to R59: a block placed in the gate hold is checked when its record is resolved, and refused or answered. -/
def checkGated (t : Ticket) (s : State) : State :=
  match liveRecord t s with
  | some r => if r.resolved && !passesCheck r s then refuseGated t s else answerGate t s
  | none => s

/-- R56: a reading at S1 is sorted by its ticket and by the gate. -/
def sortBlock (reading : Reading Ticket) (m : Nat) (s : State) : State :=
  match reading with
  | .unreadable => refuseStray reading s
  | .named t =>
    if s.tracks.lastGated = some t then s
    else match liveRecord t s with
    | none => refuseStray reading s
    | some r =>
      if r.stage ≠ .admitted then refuseStray reading s
      else if s.tracks.gateHold.isSome then refuseStray reading s
      else settleLine (checkGated t (gateBook t m s))

/-- BLOCK_READ_S1 (R56). -/
def execBlockReadS1 (reading : Reading Ticket) (thickness : Byte) (s : State) : Host.Outcome State Fault Refusal :=
  takeMessage .s1 (sortBlock reading (clampThickness thickness)) s

/-! ### Readings at S3 to S6 (R64, R65) -/

/-- BLOCK_READ_S3 (R64, R65). -/
def execBlockReadS3 (reading : Reading Ticket) (s : State) : Host.Outcome State Fault Refusal :=
  takeMessage .s3 (fun s' => settleLine (takeReading .s3 reading s')) s

/-- EXIT_READ (R64, R65). -/
def execExitRead (reading : Reading Ticket) (s : State) : Host.Outcome State Fault Refusal :=
  takeMessage .s4 (fun s' => settleLine (takeReading .s4 reading s')) s

/-- BOOK_ARRIVED (R64, R65, R142). -/
def execBookArrived (reading : Reading Ticket) (s : State) : Host.Outcome State Fault Refusal :=
  takeMessage .s5 (fun s' => settleLine (takeReading .s5 reading s')) s

/-- BOOK_READ (R64, R154). -/
def execBookRead (reading : Reading Ticket) (s : State) : Host.Outcome State Fault Refusal :=
  takeMessage .s6 (fun s' => settleLine (takeReading .s6 reading s')) s

/-! ### Cases and purges (R74, R75, R85, R87) -/

/-- R74, rows 3, 4 and 6: the case is steered into a lane. -/
def steerCase (l : LaneId) (k : TitleKey) (n : Nat) (s : State) : State :=
  setLane l (.holding k n) (send (.s2Lane l) s)

/-- The count of a lane HOLDING `k`, 0 for a lane RESERVED for `k`, none for any other lane. -/
def Lane.stock (k : TitleKey) : Lane → Option Nat
  | .holding k' n => if k' = k then some n else none
  | .reserved k' => if k' = k then some 0 else none
  | _ => none

/-- R74, rows 2 to 4 for one lane: the case joins the lane, or is recirculated when the lane holds 10 cases; a joined case is
offered to the head (R75). -/
def joinLane (l : LaneId) (k : TitleKey) (n : Nat) (s : State) : State :=
  if Config.laneCases ≤ n then send .s2Recirculate s
  else
    let s' := steerCase l k (n + 1) s
    match s.head with
    | .waitCase _ (some l') => if l' = l then tryTakeCase s' else s'
    | _ => s'

/-- R74: a case read of key `k`, by the first row that applies. -/
def takeCaseRead (k : TitleKey) (s : State) : State :=
  match s.lanes.a.stock k, s.lanes.b.stock k with
  | some n, _ => joinLane .a k n s
  | none, some n => joinLane .b k n s
  | none, none =>
    if s.lanes.a.isKept k || s.lanes.b.isKept k then send .s2Recirculate s
    else match s.lanes.first (fun x => x == .empty) with
    | some l => steerCase l k 1 s
    | none => send .s2Recirculate s

/-- CASE_READ (R74, R75). -/
def execCaseRead (key : Reading TitleKey) (s : State) : Host.Outcome State Fault Refusal :=
  takeMessage .s2 (fun s' => match key with
    | .unreadable => send .s2Recirculate s'
    | .named k => takeCaseRead k s') s

/-- R85: the lane after the end of its purge. -/
def purgedLane (kind : PurgeKind) (carried : Option TitleKey) : Lane :=
  match kind, carried with
  | .exchange, some k => .reserved k
  | _, _ => .empty

/-- R85: a purge reported done. -/
def endPurge (l : LaneId) (s : State) : State :=
  match s.lanes.get l with
  | .purging kind carried _ => settleLine (gateTest (decideAgain (setLane l (purgedLane kind carried) s)))
  | _ => s

/-- PURGE_DONE (R85, R196): a lane byte that names no lane is ignored. -/
def execPurgeDone (lane : Byte) (s : State) : Host.Outcome State Fault Refusal :=
  takeMessage .s2 (fun s' => match laneOfByte lane with
    | some l => endPurge l s'
    | none => s') s

/-- R87: a head that waits on a lane loses it as its assigned lane. -/
def unassignLane (l : LaneId) (h : Head) : Head :=
  match h with
  | .waitCase t (some l') => if l' = l then .waitCase t none else h
  | _ => h

/-- R87: the purge of a lane has timed out. -/
def purgeTimedOut (l : LaneId) (s : State) : State :=
  let s1 := setLane l .unknown { s with head := unassignLane l s.head }
  decideAgain (produce (.fault .purgeTimeout .s2 none none) (enterFault .purgeTimeout s1))

/-- PURGE_TIMEOUT (R87): the purge timer of a lane runs out; a lane that is not PURGING has no timer (log 1). -/
def execPurgeTimeout (l : LaneId) (s : State) : Host.Outcome State Fault Refusal :=
  match s.lanes.get l with
  | .purging _ _ _ => stepWith (fun s' => settleLine (purgeTimedOut l s')) s
  | _ => .next (openStep s)

/-! ### The marriage wait timer and marriage (R91, R93, R94) -/

/-- R91: the expiry at a head that waits. -/
def waitExpired (s : State) : State :=
  match s.head with
  | .waitTitle t => ejectHead t .noTitle s
  | .waitCase t _ => ejectHead t .noCase s
  | _ => s

/-- MARRIAGE_WAIT_EXPIRY (R91): the timer runs out, which it can only while it runs (R90, log 1). -/
def execMarriageWaitExpiry (s : State) : Host.Outcome State Fault Refusal :=
  if s.marriageTimer.isSome = true ∧ s.line.state.feeds = true then
    stepWith (fun s' => settleLine (waitExpired s')) s
  else .next (openStep s)

/-- R94: a report repeated for the head's HOLD_MARRIED record, the book at the entry place, or the waiting marriage. -/
def marriedRepeated (t : Ticket) (s : State) : Bool :=
  s.tracks.entry == some t || s.tracks.waitingMarriage == some t ||
    match s.head with
    | .holdMarried u _ => u == t
    | _ => false

/-- R94: a MARRIED that does not name the head's PASTING record. -/
def marriedElse (reading : Reading Ticket) (s : State) : State :=
  match reading with
  | .unreadable => stray .s3 reading s
  | .named t => if marriedRepeated t s then s else stray .s3 reading s

/-- R54, R93: a MARRIED for the head's PASTING record. -/
def marriedHead (t : Ticket) (l : LaneId) (s : State) : State :=
  if s.tracks.waitingMarriage = some t then s
  else match s.tracks.entry with
  | none => settleLine (softStopTest (recomputeDemand (takeMarriage t l s)))
  | some _ => { s with tracks := { s.tracks with waitingMarriage := some t } }

/-- R93, R94: a MARRIED report. -/
def takeMarried (reading : Reading Ticket) (s : State) : State :=
  match s.head with
  | .pasting t l => if reading = .named t then marriedHead t l s else marriedElse reading s
  | _ => marriedElse reading s

/-- MARRIED (R93, R94). -/
def execMarried (reading : Reading Ticket) (s : State) : Host.Outcome State Fault Refusal :=
  takeMessage .s3 (takeMarried reading) s

/-! ### The press (R100 to R103, R109, R111, R119) -/

/-- R101: an overheat report: the press enters FAULT, and the line FAULT_HOLD. In FAULT_HOLD the Fault notice is produced only
when the press enters FAULT (R101, R170, log 13). No command goes to S4 here; the PACE of a recompute that follows may (log 32). -/
def overheat (s : State) : State :=
  let entered := !(s.press.state == .fault)
  let held := s.line.state == .faultHold
  let s1 := enterFault .pressOverheat (setPress .fault s)
  if held && !entered then s1 else produce (.fault .pressOverheat .s4 none none) s1

/-- R100: a press that reaches READY is told to Track Control, which tests the gate (R60). -/
def pressReady (s : State) : State := gateTest (setPress .ready s)

/-- R100 to R102: the press state after a report, by the first row that applies. -/
def pressByTemp (t : Nat) (s : State) : State :=
  if s.params.tRef + 30 ≤ t then overheat s
  else match s.press.state with
  | .cold => if s.params.tRef - 15 ≤ t then pressReady s else setPress .warming s
  | .warming => if s.params.tRef - 15 ≤ t then pressReady s else s
  | .ready => if t < s.params.tRef - 18 then setPress .warming s else s
  | .fault => if s.line.state = .faultHold then s else indexRetest (setPress .warming s)
  | .standby => s

/-- R100, R117: a TEMPERATURE report; the recompute of PD follows for every report. At an overheat too: R101 says that the part
sends no command to S4 on overheat, R131 that every change of the pitch sends PACE to S4 in every line state; R131 is followed, so a
pitch that the recompute changes goes to S4 (log 32, DEDUCED). -/
def takeTemperature (t : Nat) (s : State) : State :=
  settleLine (recomputeDemand (pressByTemp t { s with press := { s.press with temp := some t } }))

/-- TEMPERATURE (R100). -/
def execTemperature (value : Word) (s : State) : Host.Outcome State Fault Refusal :=
  takeMessage .s4 (takeTemperature (clampTemp value)) s

/-- R109: INDEX_READY by the index state and the permission. -/
def takeIndexReady (s : State) : State :=
  match s.press.index with
  | .clamp =>
    if indexPermitted s then settleLine (sendIndexGo s)
    else send .s4IndexWait { s with press := { s.press with index := .held } }
  | .held => send .s4IndexWait s
  | .moving => s

/-- INDEX_READY (R109). -/
def execIndexReady (s : State) : Host.Outcome State Fault Refusal :=
  takeMessage .s4 takeIndexReady s

/-- R111: the index state becomes CLAMP and the carried ticket none. -/
def endIndex (s : State) : State := { s with press := { s.press with index := .clamp, carried := none } }

/-- R111, R133: an INDEX_DONE that completes an index: credit, exit, move, the early index check, the recompute, and the tests of
a soft stop and a run-out. -/
def completeIndex (m cycle : Nat) (s : State) : State :=
  settleLine <| softStopTest <| recomputeDemand <| checkEarlyIndex cycle <| endIndex <| moveStep <| exitStep <|
    creditStep m s

/-- R111: an INDEX_DONE with no index outstanding is ignored. -/
def takeIndexDone (m cycle : Nat) (s : State) : State :=
  if s.press.index = .moving then completeIndex m cycle s else s

/-- INDEX_DONE (R111). -/
def execIndexDone (clampTime cycleTime : Word) (s : State) : Host.Outcome State Fault Refusal :=
  takeMessage .s4 (takeIndexDone clampTime.toNat cycleTime.toNat) s

/-- R119: STANDBY is sent to S4, the press becomes STANDBY, and the timer is stopped. -/
def goStandby (s : State) : State :=
  setPress .standby (send .s4Standby { s with press := { s.press with idleTimer := none } })

/-- IDLE_TIMER_EXPIRY (R119): the timer runs out, which it can only while it runs (log 1). -/
def execIdleTimerExpiry (s : State) : Host.Outcome State Fault Refusal :=
  match s.press.idleTimer with
  | some _ => stepWith goStandby s
  | none => .next (openStep s)

/-! ### The jacketer (R145 to R149) -/

/-- R145 to R148: a JACKET_READ. -/
def takeJacketRead (reading : Reading TitleKey) (s : State) : State :=
  match s.jackets.state with
  | .verify t =>
    match s.jackets.sequence with
    | head :: _ =>
      if reading = .named head then
        send .s5Go { s with jackets := { s.jackets with mismatch := 0, state := .applying t } }
      else settleLine (jacketMismatch t reading s)
    | [] => settleLine (jacketMismatch t reading s)
  | _ => s

/-- JACKET_READ (R145 to R148). -/
def execJacketRead (key : Reading TitleKey) (s : State) : Host.Outcome State Fault Refusal :=
  takeMessage .s5 (takeJacketRead key) s

/-- R149: a report repeated for a record in DELIVERY that holds no NO_JACKET flag. -/
def appliedRepeated (t : Ticket) (s : State) : Bool :=
  match liveRecord t s with
  | some r => r.stage == .delivery && !(r.flags.contains .noJacket)
  | none => false

/-- R149: an APPLIED report. -/
def takeApplied (reading : Reading Ticket) (s : State) : State :=
  match reading with
  | .unreadable => stray .s5 reading s
  | .named t =>
    if s.jackets.state = .applying t then
      settleLine (handOver t { s with jackets := { s.jackets with sequence := s.jackets.sequence.tail } })
    else if appliedRepeated t s then s
    else stray .s5 reading s

/-- APPLIED (R149). -/
def execApplied (reading : Reading Ticket) (s : State) : Host.Outcome State Fault Refusal :=
  takeMessage .s5 (takeApplied reading) s

/-! ### Delivery (R67, R155) -/

/-- R67: a PASSED is taken when it names the head of the delivery track and that book is the last accepted ticket at S6. -/
def passedTaken (t : Ticket) (s : State) : Bool :=
  s.tracks.delivery.head? == some t && s.readers.s6.last == some t

/-- R67, R155: the outcome of a book that has passed S6, by its flags (R154). -/
def passedOutcome (r : BookRecord) : BookOutcome := if r.flags.isEmpty then .delivered else .diverted

/-- R67, R155: a PASSED report. -/
def takePassed (reading : Reading Ticket) (s : State) : State :=
  match reading with
  | .unreadable => stray .s6 reading s
  | .named t =>
    if passedTaken t s then
      match liveRecord t s with
      | some r => settleLine (actWaitingS5 (retire t (passedOutcome r) none s))
      | none => stray .s6 reading s
    else stray .s6 reading s

/-- PASSED (R67, R155). -/
def execPassed (reading : Reading Ticket) (s : State) : Host.Outcome State Fault Refusal :=
  takeMessage .s6 (takePassed reading) s

/-! ### Floors (R124) -/

/-- R124: the entry of a station that reports floors; S4 reports none. -/
def floorEntry : Station → Option Contributor
  | .s1 => some .infeed
  | .s2 => some .caseInfeed
  | .s3 => some .head
  | .s4 => none
  | .s5 => some .jacket
  | .s6 => some .delivery

/-- R124: a floor report is recorded, clamped, and the pitch recomputed; the port of S4 discards it and counts an error. -/
def takeFloor (st : Station) (v : Nat) (s : State) : State :=
  match floorEntry st with
  | some c => writeFloor c { s.pace.floors.get c with reported := clampFloor v } s
  | none => countError st s

/-- FLOOR (R124). -/
def execFloor (st : Station) (value : Word) (s : State) : Host.Outcome State Fault Refusal :=
  takeMessage st (takeFloor st value.toNat) s

end Sys2Proof.Machine
end

