-- ==== Sys2Proof/Machine/Tick.lean ====
section
/-! DEFINITION. Time: the millisecond that passes when no command waits (log 2). The table of commands has no row for it, so it
is no command: it counts the timers down, and puts the expiry commands of those that have run out into the queue. -/

namespace Sys2Proof.Machine

/-- One millisecond less on a timer that runs. -/
def countDown (left : Option Nat) : Option Nat := left.map (· - 1)

/-- R84: the purge timer of a PURGING lane runs in every line state. -/
def Lane.tick : Lane → Lane
  | .purging kind carried n => .purging kind carried (n - 1)
  | l => l

/-- R200: the quiet time of a port. -/
def StationPort.tick (p : StationPort) : StationPort := { p with quiet := countDown p.quiet }

/-- R200: the quiet time of every port. -/
def Ports.tick (p : Ports) : Ports := ⟨p.s1.tick, p.s2.tick, p.s3.tick, p.s4.tick, p.s5.tick, p.s6.tick⟩

/-- The timers one millisecond later: the purge timers, the marriage wait timer in a line that feeds (R90), the idle timer
(R118), the quiet times of the ports (R200) and the time to the first STOP (R201). -/
def countTimers (s : State) : State :=
  { s with
    lanes := ⟨s.lanes.a.tick, s.lanes.b.tick⟩
    marriageTimer := if s.line.state.feeds then countDown s.marriageTimer else s.marriageTimer
    press := { s.press with idleTimer := countDown s.press.idleTimer }
    ports := s.ports.tick
    drive := { s.drive with stopDue := countDown s.drive.stopDue } }

/-- A command, when its timer has run out. -/
def expiry (left : Option Nat) (c : Instr) : List Instr := if left = some 0 then [c] else []

/-- The expiry commands of the timers that have run out, in the order of log 3. -/
def expiries (s : State) : List Instr :=
  expiry s.drive.stopDue .driveStopAfterReset
    ++ expiry s.ports.s1.quiet (.portQuietTime .s1) ++ expiry s.ports.s2.quiet (.portQuietTime .s2)
    ++ expiry s.ports.s3.quiet (.portQuietTime .s3) ++ expiry s.ports.s4.quiet (.portQuietTime .s4)
    ++ expiry s.ports.s5.quiet (.portQuietTime .s5) ++ expiry s.ports.s6.quiet (.portQuietTime .s6)
    ++ expiry s.lanes.a.left (.purgeTimeout .a) ++ expiry s.lanes.b.left (.purgeTimeout .b)
    ++ (if s.line.state.feeds then expiry s.marriageTimer .marriageWaitExpiry else [])
    ++ expiry s.press.idleTimer .idleTimerExpiry

/-- One millisecond with no command waiting (log 2). -/
def tick (s : State) : State :=
  let s1 := countTimers (openStep s)
  { s1 with pending := s1.pending ++ expiries s1 }

end Sys2Proof.Machine
end

