-- ==== Sys2Proof/Machine/Dispatch.lean ====
section
/-! DEFINITION. The dispatch: one arm for each command, which calls that command's meaning. -/

namespace Sys2Proof.Machine

/-- The effect of a command on everything but the queue of commands. -/
def exec (i : Instr) (s : State) : Host.Outcome State Fault Refusal :=
  match i with
  | .deviceReset => Sys2Proof.Machine.execDeviceReset s
  | .driveStopAfterReset => Sys2Proof.Machine.execDriveStopAfterReset s
  | .portQuietTime station => Sys2Proof.Machine.execPortQuietTime station s
  | .messageCharacterTimeout station => Sys2Proof.Machine.execMessageCharacterTimeout station s
  | .damagedMessage station bytes => Sys2Proof.Machine.execDamagedMessage station bytes s
  | .requestFrame words => Sys2Proof.Machine.execRequestFrame words s
  | .frameCutShort words header => Sys2Proof.Machine.execFrameCutShort words header s
  | .answerSent place => Sys2Proof.Machine.execAnswerSent place s
  | .noticeSent => Sys2Proof.Machine.execNoticeSent s
  | .admitBook => Sys2Proof.Machine.execAdmitBook s
  | .withdrawBook => Sys2Proof.Machine.execWithdrawBook s
  | .attachParameters => Sys2Proof.Machine.execAttachParameters s
  | .queryBook => Sys2Proof.Machine.execQueryBook s
  | .forceRetire => Sys2Proof.Machine.execForceRetire s
  | .loadTitle => Sys2Proof.Machine.execLoadTitle s
  | .dropTitle => Sys2Proof.Machine.execDropTitle s
  | .queryTitle => Sys2Proof.Machine.execQueryTitle s
  | .readTitleSlot => Sys2Proof.Machine.execReadTitleSlot s
  | .setParameter => Sys2Proof.Machine.execSetParameter s
  | .setFloor => Sys2Proof.Machine.execSetFloor s
  | .loadJackets => Sys2Proof.Machine.execLoadJackets s
  | .releaseJacketer => Sys2Proof.Machine.execReleaseJacketer s
  | .status => Sys2Proof.Machine.execStatus s
  | .run => Sys2Proof.Machine.execRun s
  | .stopSoft => Sys2Proof.Machine.execStopSoft s
  | .stopNow => Sys2Proof.Machine.execStopNow s
  | .runOut => Sys2Proof.Machine.execRunOut s
  | .release => Sys2Proof.Machine.execRelease s
  | .clearLine => Sys2Proof.Machine.execClearLine s
  | .blockReadS1 ticket thickness => Sys2Proof.Machine.execBlockReadS1 ticket thickness s
  | .blockReadS3 ticket => Sys2Proof.Machine.execBlockReadS3 ticket s
  | .caseRead key => Sys2Proof.Machine.execCaseRead key s
  | .purgeDone lane => Sys2Proof.Machine.execPurgeDone lane s
  | .purgeTimeout lane => Sys2Proof.Machine.execPurgeTimeout lane s
  | .marriageWaitExpiry => Sys2Proof.Machine.execMarriageWaitExpiry s
  | .married ticket => Sys2Proof.Machine.execMarried ticket s
  | .temperature value => Sys2Proof.Machine.execTemperature value s
  | .indexReady => Sys2Proof.Machine.execIndexReady s
  | .indexDone clampTime cycleTime => Sys2Proof.Machine.execIndexDone clampTime cycleTime s
  | .idleTimerExpiry => Sys2Proof.Machine.execIdleTimerExpiry s
  | .exitRead ticket => Sys2Proof.Machine.execExitRead ticket s
  | .bookArrived ticket => Sys2Proof.Machine.execBookArrived ticket s
  | .jacketRead key => Sys2Proof.Machine.execJacketRead key s
  | .applied ticket => Sys2Proof.Machine.execApplied ticket s
  | .bookRead ticket => Sys2Proof.Machine.execBookRead ticket s
  | .passed ticket => Sys2Proof.Machine.execPassed ticket s
  | .floor station value => Sys2Proof.Machine.execFloor station value s
  | .lineCommandNamingNoCommand => Sys2Proof.Machine.execLineCommandNamingNoCommand s

end Sys2Proof.Machine
end

