-- ==== Sys2Proof/Safety.lean ====
section
/-! DEFINITION. What a safe run is: the invariants that the rules of spec/ give the part's state, and the words in which the statements
speak of a command's conditions and of what it leaves unchanged. -/

namespace Sys2Proof.Machine

/-! ### Words of the statements -/

/-- R200: the port of a station takes messages. -/
def Listens (st : Station) (s : State) : Prop := (s.ports.get st).quiet = none

/-- The row of the table that executes a request (R178, R180). -/
def commandOf : Request → Instr
  | .admitBook .. => .admitBook
  | .withdrawBook _ => .withdrawBook
  | .attachParameters .. => .attachParameters
  | .queryBook _ => .queryBook
  | .forceRetire _ => .forceRetire
  | .loadTitle .. => .loadTitle
  | .dropTitle _ => .dropTitle
  | .queryTitle _ => .queryTitle
  | .readTitleSlot _ _ => .readTitleSlot
  | .setParameter _ _ => .setParameter
  | .setFloor _ _ _ => .setFloor
  | .loadJackets _ => .loadJackets
  | .releaseJacketer _ => .releaseJacketer
  | .status _ => .status
  | .lineCommand 1 => .run
  | .lineCommand 2 => .stopSoft
  | .lineCommand 3 => .stopNow
  | .lineCommand 4 => .runOut
  | .lineCommand 5 => .release
  | .lineCommand 6 => .clearLine
  | .lineCommand _ => .lineCommandNamingNoCommand

/-- The station whose port takes a command that is a station message (section 3.1). -/
def messageStation : Instr → Option Station
  | .blockReadS1 _ _ => some .s1
  | .caseRead _ | .purgeDone _ => some .s2
  | .blockReadS3 _ | .married _ => some .s3
  | .exitRead _ | .indexReady | .indexDone _ _ | .temperature _ => some .s4
  | .bookArrived _ | .jacketRead _ | .applied _ => some .s5
  | .bookRead _ | .passed _ => some .s6
  | .floor st _ => some st
  | .damagedMessage st _ => some st
  | _ => none

/-- The link after a refusal of the port in answer to a frame: it takes the refusal place when that is empty, else the overrun count
rises (R179); the frame has taken its arrival number (R175). -/
def Link.refused (kind : Nat) (st : Status) (l : Link) : Link :=
  match l.refusal with
  | none => { l with refusal := some ⟨BitVec.ofNat 8 kind, st, l.nextArrival, []⟩, nextArrival := l.nextArrival + 1 }
  | some _ => { l with overrun := min (l.overrun + 1) 65535, nextArrival := l.nextArrival + 1 }

/-- The words of a frame as they arrive: the header with frame sync, the others without (R175). -/
def frameWords (header : Word) (rest : List Word) : List LinkWord := ⟨true, header⟩ :: rest.map (⟨false, ·⟩)

/-- The state after the request `q` has left the head of the queue, its answer has filled its place (R180), and nothing else has
happened. -/
def answered (q : QueuedRequest) (rest : List QueuedRequest) (st : Status) (body : List Word) (s : State) : State :=
  { s with
    out := []
    sentFrame := []
    link := { s.link with
      requests := rest, answers := s.link.answers ++ [⟨q.request.kindCode, st, q.arrival, body⟩] } }

/-- From `s` to `t` the request `q` has left the head of the queue, its answer has filled its place, and refusal place, frame in
assembly, overrun count and arrival number of the link are as they were (R180). -/
def Answered (q : QueuedRequest) (rest : List QueuedRequest) (st : Status) (body : List Word) (s t : State) : Prop :=
  t.link.requests = rest ∧ t.link.answers = s.link.answers ++ [⟨q.request.kindCode, st, q.arrival, body⟩] ∧
    t.link.refusal = s.link.refusal ∧ t.link.assembly = s.link.assembly ∧ t.link.overrun = s.link.overrun ∧
    t.link.nextArrival = s.link.nextArrival

/-- From `s` to `t` the commands `cs` have been produced, in that order, and no other (R50, R201). -/
def Sent (cs : List PortCommand) (s t : State) : Prop :=
  t.out = (cs.foldl (fun x c => send c x) (openStep s)).out ∧ t.drive = (cs.foldl (fun x c => send c x) s).drive

/-- Records and retirement order are as they were. -/
def SameBooks (s t : State) : Prop := t.records = s.records ∧ t.retiring = s.retiring

/-- The Title Table and the Pending Title List are as they were. -/
def SameTitles (s t : State) : Prop := t.titles = s.titles ∧ t.pendingTitles = s.pendingTitles

/-- The tracks and the readers are as they were. -/
def SameTracks (s t : State) : Prop := t.tracks = s.tracks ∧ t.readers = s.readers

/-- The lanes, the head, the marriage wait timer and the model's counter are as they were. -/
def SameLanes (s t : State) : Prop :=
  t.lanes = s.lanes ∧ t.head = s.head ∧ t.marriageTimer = s.marriageTimer ∧ t.openChoices = s.openChoices

/-- The press and the jacketer are as they were. -/
def SamePress (s t : State) : Prop := t.press = s.press ∧ t.jackets = s.jackets

/-- The pace is as it was. -/
def SamePace (s t : State) : Prop := t.pace = s.pace

/-- The line state, the parameters, the station ports and the commands that wait are as they were. -/
def SameLine (s t : State) : Prop :=
  t.line = s.line ∧ t.params = s.params ∧ t.ports = s.ports ∧ t.pending = s.pending

/-- Requests, answers, refusal place, frame in assembly, overrun count and arrival number of the link are as they were. -/
def SameRequests (s t : State) : Prop :=
  t.link.requests = s.link.requests ∧ t.link.answers = s.link.answers ∧ t.link.refusal = s.link.refusal ∧
    t.link.assembly = s.link.assembly ∧ t.link.overrun = s.link.overrun ∧ t.link.nextArrival = s.link.nextArrival

/-- Notice queue, held places, notice number and ATTN are as they were. -/
def SameNotices (s t : State) : Prop :=
  t.link.notices = s.link.notices ∧ t.link.held = s.link.held ∧ t.link.nextNotice = s.link.nextNotice ∧
    t.link.attn = s.link.attn

/-- The end of a step that may have changed a place of the line: the run-out is tested, the idle timer brought up to date, and the
frame that the arbiter may begin is noted (R118, R169, R181). -/
def finish (s : State) : State := noteSending (settleLine s)

/-! ### Invariants -/

/-- The line link's queues stay within their places, ATTN tells whether notices are queued, and something waits for the notice
queue only while it is full (R179, R183, R184, R185); every ticket of the retirement order has its record (R8). -/
structure LinkInv (s : State) : Prop where
  places : s.link.requests.length + s.link.answers.length ≤ 8
  room : s.link.notices.length ≤ 32
  attn : s.link.attn = !s.link.notices.isEmpty
  waits : noticeWaits s = true → s.link.notices.length = 32
  owed : ∀ t ∈ s.retiring, (findRecord t s).isSome = true

/-- R181: the transmit arbiter sends only what waits, and when something waits it sends; when nothing waits data out carries idle
words, 0000h. -/
structure ArbiterInv (s : State) : Prop where
  refusal : s.link.sending.refusal = true → s.link.refusal.isSome = true
  answer : s.link.sending.answer = true → s.link.answers ≠ []
  notice : s.link.sending.notice = true → s.link.notices ≠ []
  sends : s.link.refusal.isSome = true ∨ s.link.answers ≠ [] ∨ s.link.notices ≠ [] →
    s.link.sending.refusal = true ∨ s.link.sending.answer = true ∨ s.link.sending.notice = true
  idle : s.dataOut = if s.link.refusal = none ∧ s.link.answers = [] ∧ s.link.notices = [] then some 0 else none

/-- The Book Record Table holds at most 64 records with different tickets (R1); the retirement order holds the records in
RETIRING, each once (R8); exactly those have an outcome (R9), only a DIVERTED one has divert reasons (R10), and no record holds a
flag twice (R4). -/
structure RecordInv (s : State) : Prop where
  room : s.records.length ≤ 64
  tickets : (s.records.map (·.ticket)).Nodup
  order : s.retiring.Nodup
  retires : ∀ t, t ∈ s.retiring ↔ ∃ r ∈ s.records, r.ticket = t ∧ r.stage = .retiring
  outcome : ∀ r ∈ s.records, (r.outcome.isSome = true ↔ r.stage = .retiring)
  reasons : ∀ r ∈ s.records, r.reasons ≠ [] → r.outcome = some .diverted
  flags : ∀ r ∈ s.records, r.flags.Nodup

/-- R29: a record that pins the entry of key `k`. -/
def pinsKey (k : TitleKey) (r : BookRecord) : Bool := r.source == .table && r.resolved && r.key == k

/-- Every valid entry stands in its key's set, no key is valid twice (R27), the pin count of a valid entry is the number of
records that rely on it (R29), that of an invalid entry is 0 (R48), and every resolved TABLE record finds its entry (R29). -/
structure TitleInv (s : State) : Prop where
  home : ∀ (i : Fin 32) (w : Way), ((s.titles.get i).get w).valid = true → setOf ((s.titles.get i).get w).key = i
  once : ∀ i : Fin 32, (s.titles.get i).way0.valid = true → (s.titles.get i).way1.valid = true →
    (s.titles.get i).way0.key ≠ (s.titles.get i).way1.key
  pins : ∀ (i : Fin 32) (w : Way), ((s.titles.get i).get w).valid = true →
    ((s.titles.get i).get w).pin = s.records.countP (pinsKey ((s.titles.get i).get w).key)
  free : ∀ (i : Fin 32) (w : Way), ((s.titles.get i).get w).valid = false → ((s.titles.get i).get w).pin = 0
  relied : ∀ r ∈ s.records, r.source = .table → r.resolved = true → (titleWay r.key s).isSome = true

/-- R33: the Pending Title List holds at most 8 keys, none twice and none valid, each with the number of records that wait on it,
and every waiting record's key. -/
structure PendingInv (s : State) : Prop where
  room : s.pendingTitles.length ≤ 8
  once : (s.pendingTitles.map (·.key)).Nodup
  counts : ∀ p ∈ s.pendingTitles, 1 ≤ p.count ∧ p.count = s.records.countP (waitsOn p.key)
  missing : ∀ p ∈ s.pendingTitles, titleWay p.key s = none
  listed : ∀ r ∈ s.records, waitsOn r.key r = true → isListed r.key s = true

/-- R72: a lane holds a title key. -/
def Lane.holds (k : TitleKey) (l : Lane) : Bool := l.isHolding k || l.isKept k

/-- R72: a HOLDING lane counts 1 to 10 cases, and no title key is held by both lanes; an INITIAL purge carries no key (R84). -/
structure LaneInv (s : State) : Prop where
  counts : ∀ l k n, s.lanes.get l = .holding k n → 1 ≤ n ∧ n ≤ 10
  apart : ∀ k, s.lanes.a.holds k = true → s.lanes.b.holds k = false
  initial : ∀ l k n, s.lanes.get l ≠ .purging .initial (some k) n

/-- R51, R53: the tracks stay within their capacities; while an index is outstanding its exit finds room, and while a book is in
its jacketing its hand-over does. -/
structure TrackInv (s : State) : Prop where
  infeed : s.tracks.infeed.length ≤ 3
  jacket : s.tracks.jacket.length ≤ 3
  delivery : s.tracks.delivery.length ≤ 2
  exit : s.press.index = .moving → s.press.positions.p6 = none ∨ s.tracks.jacket.length < 3
  handOver : s.jackets.state ≠ .free → s.tracks.delivery.length < 2

/-- R139, R146, R147: at most 32 keys in the jacket sequence, and a mismatch count of at most 3, which is reached only in BYPASS. -/
structure JacketInv (s : State) : Prop where
  keys : s.jackets.sequence.length ≤ 32
  count : s.jackets.mismatch ≤ 3
  bypass : s.jackets.mode = .normal → s.jackets.mismatch < 3

/-- The value of a parameter by its number (R189), 0 for a number not in the table. -/
def Params.value (p : Params) : Nat → Nat
  | 1 => p.tolerance
  | 2 => p.marriageWait
  | 3 => p.base.c1
  | 4 => p.base.c2
  | 5 => p.base.c3
  | 6 => p.inc.c1
  | 7 => p.inc.c2
  | 8 => p.inc.c3
  | 9 => p.q.c1
  | 10 => p.q.c2
  | 11 => p.q.c3
  | 12 => p.fMax
  | 13 => p.tRef
  | 14 => p.tX
  | 15 => p.idleTime
  | 16 => p.pMin
  | 17 => p.pMax
  | 18 => p.decrease
  | 19 => p.skipLimit
  | _ => 0

/-- R129, R135, R189: every parameter lies in its range, P_min does not pass P_max, and the commanded pitch lies between them. -/
structure PaceInv (s : State) : Prop where
  ranges : ∀ number lo hi, parameterRange number = some (lo, hi) →
    lo ≤ s.params.value number ∧ s.params.value number ≤ hi
  limits : s.params.pMin ≤ s.params.pMax
  pitch : s.params.pMin ≤ s.pace.commanded ∧ s.pace.commanded ≤ s.params.pMax

/-- The tickets that stand at the places of a stage (R6). -/
def standing (s : State) : Stage → List Ticket
  | .gated => s.tracks.gateHold.toList
  | .infeed => s.tracks.infeed.map (·.ticket)
  | .head =>
    match s.head with
    | .waitTitle t => [t]
    | .waitCase t _ => [t]
    | .pasting t _ => [t]
    | _ => []
  | .entry => s.tracks.entry.toList
  | .press => s.press.positions.tickets
  | .jacket => s.tracks.jacket
  | .delivery => s.tracks.delivery
  | .admitted => []
  | .retiring => []

/-- The press position at which a ticket stands. -/
def Positions.placeOf (t : Ticket) (p : Positions) : Option Nat :=
  ([p.p1, p.p2, p.p3, p.p4, p.p5, p.p6].findIdx? (· == some t)).map (· + 1)

/-- R6: a record stands at a place exactly while it is in that place's stage, once, and its press position is the one at which it
stands (R3). A head in HOLD_MARRIED holds the book at the entry place (R93); a waiting marriage is that of the head's PASTING record
and waits for the entry place (R54); a waiting reading is that of the head of its track (R66); and the book at S5 is the head of the
jacket track, and the last accepted ticket there (R141). -/
structure PlaceInv (s : State) : Prop where
  stands : ∀ st, st ≠ .admitted → st ≠ .retiring →
    ∀ t, t ∈ standing s st ↔ ∃ r ∈ s.records, r.ticket = t ∧ r.stage = st
  once : ∀ st, (standing s st).Nodup
  position : ∀ r ∈ s.records, r.position = s.press.positions.placeOf r.ticket
  married : ∀ t l, s.head = .holdMarried t l → s.tracks.entry = some t
  waiting : ∀ t, s.tracks.waitingMarriage = some t → s.tracks.entry.isSome = true ∧ ∃ l, s.head = .pasting t l
  readS3 : ∀ t, s.readers.s3.waiting = some t → s.head ≠ .idle ∧ (s.tracks.infeed.head?.map (·.ticket)) = some t
  readS5 : ∀ t, s.readers.s5.waiting = some t → 2 ≤ s.tracks.delivery.length ∧ s.tracks.jacket.head? = some t
  jacketing : ∀ t, s.jackets.state.book = some t → s.tracks.jacket.head? = some t ∧ s.readers.s5.last = some t

/-- R118: the idle timer runs exactly while the line is idle for standby, the press WARMING or READY and the idle time not 0. -/
def IdleInv (s : State) : Prop := s.press.idleTimer.isSome = idleRuns s

/-- R117: the press demand held is that of the books in the press and at the entry place as they stand. -/
def DemandInv (s : State) : Prop := s.press.pd = pressDemand s

/-- The invariants of the part, all of them. -/
structure Inv (s : State) : Prop where
  link : LinkInv s
  arbiter : ArbiterInv s
  records : RecordInv s
  titles : TitleInv s
  pending : PendingInv s
  lanes : LaneInv s
  tracks : TrackInv s
  jackets : JacketInv s
  pace : PaceInv s
  places : PlaceInv s
  idle : IdleInv s
  demand : DemandInv s

end Sys2Proof.Machine
end

