-- ==== Sys2Proof/Certificates/Slice0/Obligations.lean ====
section
/-! DEFINITION. The statements for the provers. Each says which rules of spec/ it formalises; where a clause is the model's own
choice it names the log entry. `noteSending` and `finish` close every step; `EndOfStep` says what they do. -/

open Sys2Proof Sys2Proof.Machine

/-! ### The step -/

/-- The queue is first in first out: a step runs the command at its front on the state with the queue's rest. -/
def Obligations.StepRunsFrontCommand : Prop :=
  ∀ (c : Instr) (rest : List Instr) (s : State),
    step { s with pending := c :: rest } = exec c { s with pending := rest }

/-- With no command waiting one millisecond passes (log 2, DESIGN CHOICE): purge timers, idle timer, port quiet times and the time to
the first STOP count down in every line state, the marriage wait timer only in a line that feeds (R84, R90, R118, R200, R201); the
expiry command of each timer that has run out joins the queue, once, and no other command does; nothing else changes. -/
def Obligations.EmptyQueuePassesOneMillisecond : Prop :=
  ∀ s : State, s.pending = [] → ∃ t, step s = .next t ∧
    (∀ l kind carried n, s.lanes.get l = .purging kind carried n → t.lanes.get l = .purging kind carried (n - 1)) ∧
    (∀ l, (s.lanes.get l).left = none → t.lanes.get l = s.lanes.get l) ∧
    t.marriageTimer = (if s.line.state.feeds then s.marriageTimer.map (· - 1) else s.marriageTimer) ∧
    t.press = { s.press with idleTimer := s.press.idleTimer.map (· - 1) } ∧
    (∀ st, t.ports.get st = ⟨(s.ports.get st).errors, (s.ports.get st).quiet.map (· - 1)⟩) ∧
    t.drive = ⟨s.drive.stopDue.map (· - 1), s.drive.waiting⟩ ∧
    (∀ l, Instr.purgeTimeout l ∈ t.pending ↔ (t.lanes.get l).left = some 0) ∧
    (Instr.marriageWaitExpiry ∈ t.pending ↔ t.line.state.feeds = true ∧ t.marriageTimer = some 0) ∧
    (Instr.idleTimerExpiry ∈ t.pending ↔ t.press.idleTimer = some 0) ∧
    (∀ st, Instr.portQuietTime st ∈ t.pending ↔ (t.ports.get st).quiet = some 0) ∧
    (Instr.driveStopAfterReset ∈ t.pending ↔ t.drive.stopDue = some 0) ∧ t.pending.Nodup ∧
    (∀ c ∈ t.pending, c = .driveStopAfterReset ∨ c = .marriageWaitExpiry ∨ c = .idleTimerExpiry ∨
      (∃ st, c = .portQuietTime st) ∨ ∃ l, c = .purgeTimeout l) ∧
    SameBooks s t ∧ SameTitles s t ∧ SameTracks s t ∧ t.head = s.head ∧ t.openChoices = s.openChoices ∧
    t.pace = s.pace ∧ t.jackets = s.jackets ∧ t.line = s.line ∧ t.params = s.params ∧ t.link = s.link ∧
    t.out = [] ∧ t.sentFrame = [] ∧ t.dataOut = s.dataOut

/-- Every command answers a next state in every state: nothing stops the part (no rule of spec/ names an event that does). A command
leaves the queue of waiting commands to the step, and only a frame sent shows words on the link. -/
def Obligations.EveryCommandAnswersNext : Prop :=
  ∀ (c : Instr) (s : State), ∃ t, exec c s = .next t ∧ t.pending = s.pending ∧
    ((∀ p, c ≠ .answerSent p) → c ≠ .noticeSent → t.sentFrame = [])

/-! ### Device reset and the ports -/

/-- R32: device reset empties the Title Table and the Pending Title List, and no answer or notice reports the counts lost. -/
def Obligations.DeviceResetEmptiesTitles : Prop :=
  ∀ s : State, ∃ t, exec .deviceReset s = .next t ∧
    (∀ (i : Fin 32) (w : Way), (t.titles.get i).get w = ⟨false, 0, ⟨0, 0, 0, 0, 0, none⟩, 0, 0, false, 0⟩) ∧
    (∀ i : Fin 32, (t.titles.get i).lru = .w0) ∧ t.pendingTitles = [] ∧
    t.link.answers = [] ∧ t.link.refusal = none ∧ t.link.notices = [] ∧ t.link.held = .empty ∧ t.sentFrame = []

/-- R25, R55, R71, R73, R78, R122, R138, R158, R159, R189, R197, R199 to R201: what every other block holds after device reset; data
out carries idle words, 0000h. The commands that wait stay, and so does the model's own counter (log 24, DESIGN CHOICE). -/
def Obligations.DeviceResetOfTheOtherBlocks : Prop :=
  ∀ s : State, ∃ t, exec .deviceReset s = .next t ∧
    t.records = [] ∧ t.retiring = [] ∧
    t.tracks = ⟨none, none, [], none, none, [], []⟩ ∧ (∀ i, t.readers.get i = ⟨none, none, none⟩) ∧
    t.lanes = ⟨.unknown, .unknown⟩ ∧ t.head = .idle ∧ t.marriageTimer = none ∧
    t.press = ⟨.cold, none, ⟨none, none, none, none, none, none⟩, .clamp, none, none, 0⟩ ∧ factor t = 150 ∧
    (∀ c, t.pace.floors.get c = ⟨0, false, 0, false⟩) ∧ t.pace.target = none ∧ t.pace.commanded = 6000 ∧
    t.pace.source = none ∧ t.pace.inForce = none ∧
    t.jackets = ⟨[], .normal, 0, .free⟩ ∧ t.line = ⟨.halted, none⟩ ∧
    t.params = ⟨2, 45, ⟨2500, 4200, 6000⟩, ⟨40, 60, 90⟩, ⟨18, 12, 24⟩, 9000, 65, 300, 10, 1000, 6000, 50, 2⟩ ∧
    t.link.assembly = [] ∧ t.link.requests = [] ∧ t.link.overrun = 0 ∧ t.link.nextArrival = 0 ∧ t.link.nextNotice = 0 ∧
    t.link.attn = false ∧ t.dataOut = some 0 ∧ (∀ st, t.ports.get st = ⟨0, some 20⟩) ∧ t.drive = ⟨some 20, []⟩ ∧ t.out = [] ∧
    t.pending = s.pending ∧ t.openChoices = s.openChoices

/-- R50, R201: the drive port sends STOP as its first command after reset; the drive commands produced before it follow it (log 19). A
command is otherwise sent in the order of production; before that STOP a drive command waits behind it. -/
def Obligations.CommandsKeepTheirOrder : Prop :=
  (∀ (s : State) (n : Nat), s.drive.stopDue = some n →
    exec .driveStopAfterReset s = .next (noteSending
      { s with out := .driveStop :: s.drive.waiting, sentFrame := [], drive := ⟨none, []⟩ })) ∧
  (∀ (c : PortCommand) (s : State),
    (c.toDrive = false ∨ s.drive.stopDue = none → send c s = { s with out := s.out ++ [c] }) ∧
    (c.toDrive = true → s.drive.stopDue ≠ none →
      send c s = { s with drive := ⟨s.drive.stopDue, s.drive.waiting ++ [c]⟩ }) ∧
    (c.toDrive = true ↔ c = .driveRun ∨ c = .driveStop ∨ ∃ p, c = .drivePace p))

/-- R200: once its line has been quiet for 20 ms a port takes messages, and no error is counted. A message that arrives before then is
discarded without a count, and the quiet time begins again. -/
def Obligations.PortsWaitForAQuietLine : Prop :=
  (∀ (st : Station) (s : State),
    exec (.portQuietTime st) s = .next (noteSending
      { s with out := [], sentFrame := [], ports := s.ports.put st ⟨(s.ports.get st).errors, none⟩ })) ∧
  (∀ (c : Instr) (st : Station) (n : Nat) (s : State), messageStation c = some st → (s.ports.get st).quiet = some n →
    exec c s = .next (noteSending
      { s with out := [], sentFrame := [], ports := s.ports.put st ⟨(s.ports.get st).errors, some 20⟩ }))

/-- R49, R196: a message that fails a check of the port, and one whose characters stop, raise the station's error count by 1,
saturating at 65535, and do nothing else. What the characters of any other message spell: kind, length and body as R196 lays them
out and a sum byte that makes 256; a ticket of order 0 and copy 0, and a key of 0, are UNREADABLE. (What a key above 1 048 575 is taken
as is open: log 23.) The message joins the commands that wait. -/
def Obligations.DamagedMessagesAreCounted : Prop :=
  ∀ (st : Station) (s : State), Listens st s →
    let counted : State := { s with
      out := [], sentFrame := [], ports := s.ports.put st ⟨min ((s.ports.get st).errors + 1) 65535, none⟩ }
    exec (.messageCharacterTimeout st) s = .next (noteSending counted) ∧
    (∀ bytes, messageOk st bytes = false → exec (.damagedMessage st bytes) s = .next (noteSending counted) ∧
      arriveMessage st bytes s = { s with pending := s.pending ++ [.damagedMessage st bytes] }) ∧
    (∀ (c : Instr) (kind : Byte) (body : List Byte),
      let number (bs : List Byte) : Nat := (bs.map BitVec.toNat).foldl (fun n b => 256 * n + b) 0
      let ticket (f : Reading Ticket → Instr) : Prop :=
        (∀ o2 o1 o0 cp, body = [o2, o1, o0, cp] → number body ≠ 0 → c = f (.named ⟨BitVec.ofNat 24 (number [o2, o1, o0]), cp⟩)) ∧
        (body = [0, 0, 0, 0] → c = f .unreadable) ∧ body.length = 4
      let key (f : Reading TitleKey → Instr) : Prop :=
        (number body ≠ 0 → c = f (.named (BitVec.ofNat 20 (number body)))) ∧ (number body = 0 → c = f .unreadable) ∧
          body.length = 3 ∧ number body < 2 ^ 20
      let word (i : Nat) : Word := BitVec.ofNat 16 (number ((body.drop i).take 2))
      (st = .s1 ∧ kind = 0x11 ∧ body.length = 5 ∧ (c = .blockReadS1 .unreadable (body.getD 4 0) ∧ number (body.take 4) = 0 ∨
            number (body.take 4) ≠ 0 ∧ c = .blockReadS1
              (.named ⟨BitVec.ofNat 24 (number (body.take 3)), body.getD 3 0⟩) (body.getD 4 0)) ∨
          st = .s2 ∧ kind = 0x12 ∧ key .caseRead ∨
          st = .s2 ∧ kind = 0x13 ∧ body.length = 1 ∧ c = .purgeDone (body.getD 0 0) ∨
          st = .s3 ∧ kind = 0x11 ∧ ticket .blockReadS3 ∨ st = .s3 ∧ kind = 0x14 ∧ ticket .married ∨
          st = .s4 ∧ kind = 0x15 ∧ ticket .exitRead ∨ st = .s4 ∧ kind = 0x16 ∧ body = [] ∧ c = .indexReady ∨
          st = .s4 ∧ kind = 0x17 ∧ body.length = 4 ∧ c = .indexDone (word 0) (word 2) ∨
          st = .s4 ∧ kind = 0x18 ∧ body.length = 2 ∧ c = .temperature (word 0) ∨
          st = .s5 ∧ kind = 0x19 ∧ ticket .bookArrived ∨ st = .s5 ∧ kind = 0x1A ∧ key .jacketRead ∨
          st = .s5 ∧ kind = 0x1B ∧ ticket .applied ∨ st = .s6 ∧ kind = 0x1C ∧ ticket .passed ∨
          st = .s6 ∧ kind = 0x1E ∧ ticket .bookRead ∨
          st ≠ .s4 ∧ kind = 0x1D ∧ body.length = 2 ∧ c = .floor st (word 0)) →
        ∀ sum : Byte, (kind.toNat + body.length + (body.map BitVec.toNat).sum + sum.toNat) % 256 = 0 →
          arriveMessage st (kind :: BitVec.ofNat 8 body.length :: (body ++ [sum])) s = { s with pending := s.pending ++ [c] })

/-! ### Frames taken and sent -/

/-- R175, R177, R179: a frame that completes with no other frame in assembly and passes the checks enters the tail of the request
queue with its arrival number, when fewer than 8 places are taken; idle words between frames are discarded. The port's own refusals,
with the arrival number of the frame: BAD_LENGTH at once for a header of count 0 or above 40; UNKNOWN_REQUEST before BAD_LENGTH for a
whole frame; BUSY when 8 places are taken. -/
def Obligations.FramesAreQueuedOrRefused : Prop :=
  ((∀ (header : Word) (rest : List Word) (r : Request) (s : State),
    s.link.assembly = [] → loByte header = rest.length + 1 → rest.length + 1 ≤ 40 →
    frameRequest (header :: rest) = some (rest.length + 1, r) → s.link.requests.length + s.link.answers.length < 8 →
    exec (.requestFrame (frameWords header rest)) s = .next (noteSending
      { s with
        out := [], sentFrame := []
        link := { s.link with
          requests := s.link.requests ++ [⟨r, s.link.nextArrival⟩], nextArrival := s.link.nextArrival + 1 } })) ∧
  (∀ (words : List Word) (s : State), s.link.assembly = [] →
    exec (.requestFrame (words.map (⟨false, ·⟩))) s = .next (noteSending { s with out := [], sentFrame := [] }))) ∧
  (∀ (header : Word) (rest : List Word) (s : State), s.link.assembly = [] →
    let refused (st : Status) : State := { s with
      out := [], sentFrame := [], link := s.link.refused (hiByte header) st }
    (loByte header = 0 ∨ 40 < loByte header →
      exec (.requestFrame [⟨true, header⟩]) s = .next (noteSending (refused .badLength))) ∧
    (loByte header = rest.length + 1 → rest.length + 1 ≤ 40 →
      (frameRequest (header :: rest) = none →
        exec (.requestFrame (frameWords header rest)) s = .next (noteSending (refused .unknownRequest))) ∧
      (∀ n r, frameRequest (header :: rest) = some (n, r) → n ≠ rest.length + 1 →
        exec (.requestFrame (frameWords header rest)) s = .next (noteSending (refused .badLength))) ∧
      (∀ r, frameRequest (header :: rest) = some (rest.length + 1, r) →
        8 ≤ s.link.requests.length + s.link.answers.length →
        exec (.requestFrame (frameWords header rest)) s = .next (noteSending (refused .busy)))))

/-- R176: a frame sync before a frame's last word cuts the frame short: it is answered FRAMING with its own kind and arrival number,
and the word that carried the sync is the header of a new frame. A new header of count 2 to 40 stays in assembly; one of any other
count completes at once and, the refusal place being taken, only raises the overrun count. -/
def Obligations.FrameCutShortIsAnsweredFraming : Prop :=
  ∀ (header next : Word) (rest : List Word) (s : State), s.link.assembly = [] →
    rest.length + 1 < loByte header → loByte header ≤ 40 →
    let cut : Link := s.link.refused (hiByte header) .framing
    exec (.frameCutShort (frameWords header rest) next) s = .next (noteSending
      { s with
        out := [], sentFrame := []
        link := if 2 ≤ loByte next ∧ loByte next ≤ 40 then { cut with assembly := [next] }
          else { cut with overrun := min (cut.overrun + 1) 65535, nextArrival := cut.nextArrival + 1 } })

/-- R181, R190: the frame of the refusal place, and the oldest answer, go out with their three-word header, and their places are free
when the last word has been sent. -/
def Obligations.AnswersLeaveTheirPlaces : Prop :=
  (∀ (a : Answer) (s : State), s.link.refusal = some a → s.link.sending.refusal = true →
    exec (.answerSent .refusal) s = .next (noteSending
      { s with
        out := []
        sentFrame := [pairWord 1 (3 + a.body.length), pairWord a.kind.toNat a.status.code, a.arrival] ++ a.body
        link := { s.link with refusal := none, sending := ⟨false, false, false⟩ } })) ∧
  (∀ (a : Answer) (rest : List Answer) (s : State), s.link.answers = a :: rest → s.link.sending.answer = true →
    exec (.answerSent .answer) s = .next (noteSending
      { s with
        out := []
        sentFrame := [pairWord 1 (3 + a.body.length), pairWord a.kind.toNat a.status.code, a.arrival] ++ a.body
        link := { s.link with answers := rest, sending := ⟨false, false, false⟩ } }))

/-- R181, R185, R190: the notice at the head of the queue goes out, its header reporting the occupied held places (log 10), and the
freed place is filled by the Book Retired notice of the oldest record in RETIRING, which frees it, or by the first held notice in the
order of R185; ATTN is negated when no notice is left. That the Book Retired notice takes its number as it enters the queue is the
model's choice (log 33, DEDUCED). -/
def Obligations.NoticesLeaveAndTheQueueRefills : Prop :=
  ∀ (e : NoticeEntry) (rest : List NoticeEntry) (s : State),
    s.link.notices = e :: rest → s.link.sending.notice = true → ∃ t, exec .noticeSent s = .next t ∧
    t.sentFrame =
      [pairWord 2 (3 + e.notice.body.length), pairWord e.notice.kindCode s.link.held.count, e.number] ++ e.notice.body ∧
    (s.retiring = [] → SameBooks s t ∧ t.titles = s.titles ∧ t.link.nextNotice = s.link.nextNotice ∧
      (s.link.held.any = false → t.link.notices = rest ∧ t.link.held = s.link.held) ∧
      (∀ h held, s.link.held.take = some (h, held) → t.link.notices = rest ++ [h] ∧ t.link.held = held)) ∧
    (∀ tk tks r, s.retiring = tk :: tks → findRecord tk s = some r →
      t.link.notices = rest ++ [⟨s.link.nextNotice, retiredNotice r⟩] ∧ t.link.nextNotice = s.link.nextNotice + 1 ∧
      t.link.held = s.link.held ∧ t.records = s.records.filter (fun x => !(x.ticket == tk)) ∧
      t.retiring = s.retiring.filter (fun x => !(x == tk)) ∧ t.titles = (freeRecord r s).titles) ∧
    t.link.attn = !t.link.notices.isEmpty ∧
    t.pendingTitles = s.pendingTitles ∧ SameTracks s t ∧ SameLanes s t ∧ SamePress s t ∧ SamePace s t ∧ SameLine s t ∧
    SameRequests s t ∧ Sent [] s t

/-- R183, R184: a notice takes the next number, and enters the tail of the queue when it finds room and none waits, asserting ATTN; else
it takes the held place of its kind, replacing what is held there, and every other held place keeps its notice. -/
def Obligations.NoticesAreQueuedOrHeld : Prop :=
  ∀ (n : Notice) (s : State),
    let e : NoticeEntry := ⟨s.link.nextNotice, n⟩
    ((s.link.notices.length < 32 ∧ s.retiring = [] ∧ s.link.held.any = false) →
      produce n s = { s with link := { s.link with
        notices := s.link.notices ++ [e], attn := true, nextNotice := s.link.nextNotice + 1 } }) ∧
    (¬(s.link.notices.length < 32 ∧ s.retiring = [] ∧ s.link.held.any = false) →
      produce n s = { s with link := { s.link with held := s.link.held.put e, nextNotice := s.link.nextNotice + 1 } } ∧
      (n.kindCode = 0x81 → s.link.held.put e = { s.link.held with titleRequest := some e }) ∧
      (n.kindCode = 0x83 → s.link.held.put e = { s.link.held with paceChanged := some e }) ∧
      (n.kindCode = 0x84 → s.link.held.put e = { s.link.held with paceFault := some e }) ∧
      (n.kindCode = 0x85 → s.link.held.put e = { s.link.held with lineState := some e }) ∧
      (n.kindCode = 0x86 → s.link.held.put e = { s.link.held with fault := some e }) ∧
      (n.kindCode = 0x87 → s.link.held.put e = { s.link.held with stray := some e }) ∧
      (n.kindCode = 0x88 → s.link.held.put e = { s.link.held with pressState := some e }) ∧
      (n.kindCode = 0x89 → s.link.held.put e = { s.link.held with jacketFault := some e }))

/-- R180: the request at the head of the queue is executed by its own row: it leaves the queue, its answer takes the next answer place
with its kind, a status and its arrival number, in one step; a refusal (any status but OK) changes nothing else. -/
def Obligations.EveryRequestIsAnswered : Prop :=
  ∀ (q : QueuedRequest) (rest : List QueuedRequest) (s : State), s.link.requests = q :: rest →
    ∃ t status body, exec (commandOf q.request) s = .next t ∧ Answered q rest status body s t ∧
      (status ≠ .ok → t = noteSending (answered q rest status body s))

/-- R118, R169, R181: what closes a step. A complete run-out stops the line with its notice and STOP; the idle timer starts from the
idle time when its conditions hold and it stood, goes on when it ran, and stops otherwise; and the frame that the arbiter may begin,
refusal before answer before notice, is noted; when none waits data out carries idle words, 0000h. -/
def Obligations.EndOfStep : Prop :=
  ∀ s : State,
    (s.line.state = .runningOut → lineEmpty s = true →
      runOutTest s = produce (.lineState .stopped .runOutDone)
        { send .driveStop s with line := ⟨.stopped, some .runOutDone⟩ }) ∧
    (s.line.state ≠ .runningOut ∨ lineEmpty s = false → runOutTest s = s) ∧
    settleLine s = { runOutTest s with press := { s.press with
      idleTimer := if idleRuns s then some (s.press.idleTimer.getD (s.params.idleTime * 60000)) else none } } ∧
    noteSending s = { s with
      dataOut := if s.link.refusal = none ∧ s.link.answers = [] ∧ s.link.notices = [] then some 0 else none
      link := { s.link with sending :=
        if s.link.refusal.isSome then { s.link.sending with refusal := true }
        else if s.link.answers ≠ [] then { s.link.sending with answer := true }
        else if s.link.notices ≠ [] then { s.link.sending with notice := true }
        else s.link.sending } } ∧
    finish s = noteSending (settleLine s)

/-! ### Book records -/

/-- R8, R10, R11, R12, R70: a record that retires leaves its place, its reader and its waiting list. With the notice queue full it joins
the tail of the retirement order with its outcome fixed; with room and none waiting it is freed in the same step, with its Book
Retired notice queued, and a resolved TABLE record unpins its entry and counts its outcome there. That a record which waits takes no
notice number yet, also at the head of the order, is the model's choice (log 33, DEDUCED). -/
def Obligations.RetirementOfARecord : Prop :=
  ∀ (tk : Ticket) (o : BookOutcome) (eject : Option Reason) (r : BookRecord) (s : State), liveRecord tk s = some r →
    let x := retire tk o eject s
    let reasons := if o = .diverted then r.flags.map Reason.flag ++ eject.toList else []
    (32 ≤ s.link.notices.length →
      x.retiring = s.retiring ++ [tk] ∧ x.titles = s.titles ∧ x.link = s.link ∧
      findRecord tk x = some { r with stage := .retiring, outcome := some o, reasons := reasons, position := none } ∧
      ∀ u, u ≠ tk → findRecord u x = findRecord u s) ∧
    (s.link.notices.length < 32 → s.retiring = [] →
      x.retiring = [] ∧ x.records = s.records.filter (fun y => !(y.ticket == tk)) ∧
      x.link = { s.link with
        notices := s.link.notices ++ [⟨s.link.nextNotice, .bookRetired tk o reasons (r.dwell.getD 0) (r.eff.getD 0)⟩]
        attn := true, nextNotice := s.link.nextNotice + 1 } ∧
      (r.source = .oneOff ∨ r.resolved = false → x.titles = s.titles) ∧
      (∀ e, r.source = .table → r.resolved = true → titleEntry r.key s = some e →
        titleEntry r.key x = some (countOutcome (some o) { e with pin := e.pin - 1 }) ∧
        ∀ i, i ≠ setOf r.key → x.titles.get i = s.titles.get i)) ∧
    x.pendingTitles = (if r.source = .table ∧ r.resolved = false then stopWaiting r.key s else s).pendingTitles ∧
    (∀ st, st ≠ .head → standing x st = (standing s st).filter (fun u => !(u == tk))) ∧
    (∀ i, (x.readers.get i).last = dropTicket tk (s.readers.get i).last ∧
      (x.readers.get i).waiting = dropTicket tk (s.readers.get i).waiting ∧
      (x.readers.get i).unresolved = (s.readers.get i).unresolved) ∧
    x.tracks.lastGated = dropTicket tk s.tracks.lastGated ∧
    x.press = { s.press with positions := s.press.positions.drop tk } ∧
    SameLanes s x ∧ SamePace s x ∧ SameLine s x ∧ x.jackets = s.jackets ∧ SameRequests s x ∧ x.out = s.out ∧ x.drive = s.drive

/-- R2, R14, R15, R29, R34: the checks of Admit Book in their order, a refused one changing no state. An accepted one creates its record at
the tail of the admission order, ADMITTED, with the fields of the request, and answers OK with the ticket and whether it is resolved.
A ONE_OFF record touches no title; a TABLE record whose key is valid pins the entry and uses its way; a key listed counts one more;
another key joins the list with a Title Request notice. That options bit 2 of a TABLE Admit Book is ignored, so that such a request
with the bit set is accepted too, is the model's choice (log 14, DEDUCED, unsafe), not a rule of the spec. -/
def Obligations.AdmitBookIsCheckedAndCreatesTheRecord : Prop :=
  (∀ (tk : Ticket) (k : TitleKey) (o : Word) (override : Option Nat) (oneOff : Option TitleParams) (n : Word)
    (rest : List QueuedRequest) (s : State),
    let q : QueuedRequest := ⟨.admitBook tk k o override oneOff, n⟩
    s.link.requests = q :: rest →
    (admitInRange tk k o override oneOff = false →
      exec .admitBook s = .next (noteSending (answered q rest .range [] s))) ∧
    (admitInRange tk k o override oneOff = true →
      (clearedLeft s ≠ 0 → exec .admitBook s = .next (noteSending (answered q rest .wrongState [] s))) ∧
      (clearedLeft s = 0 →
        (findRecord tk s ≠ none → exec .admitBook s = .next (noteSending (answered q rest .duplicate [] s))) ∧
        (findRecord tk s = none →
          (64 ≤ s.records.length → exec .admitBook s = .next (noteSending (answered q rest .tableFull [] s))) ∧
          (s.records.length < 64 → oneOff = none → titleWay k s = none → isListed k s = false →
            8 ≤ s.pendingTitles.length →
            exec .admitBook s = .next (noteSending (answered q rest .titleBacklog [] s))))))) ∧
  (∀ (tk : Ticket) (k : TitleKey) (o : Word) (override : Option Nat) (oneOff : Option TitleParams) (n : Word)
    (rest : List QueuedRequest) (s : State),
    let q : QueuedRequest := ⟨.admitBook tk k o override oneOff, n⟩
    s.link.requests = q :: rest → admitInRange tk k o override oneOff = true → clearedLeft s = 0 →
    findRecord tk s = none → s.records.length < 64 →
    (oneOff ≠ none ∨ titleWay k s ≠ none ∨ isListed k s = true ∨ s.pendingTitles.length < 8) →
    let resolved : Bool := oneOff.isSome || (titleWay k s).isSome
    ∃ t, exec .admitBook s = .next t ∧
      Answered q rest .ok (ticketWords tk ++ [if resolved then 1 else 0]) s t ∧
      t.records = s.records ++
        [⟨tk, k, if oneOff.isSome then .oneOff else .table, oneOff, resolved, override, .admitted, none, none, none, none, none,
          none, [], none, []⟩] ∧
      t.retiring = s.retiring ∧
      (oneOff ≠ none → SameTitles s t ∧ SameNotices s t) ∧
      (∀ w, oneOff = none → titleWay k s = some w →
        SameNotices s t ∧ t.pendingTitles = s.pendingTitles ∧
        titleEntry k t = (titleEntry k s).map (fun e => { e with pin := e.pin + 1 }) ∧
        (titleSet k t).lru = w.other ∧ (titleSet k t).get w.other = (titleSet k s).get w.other ∧
        ∀ i, i ≠ setOf k → t.titles.get i = s.titles.get i) ∧
      (oneOff = none → titleWay k s = none → isListed k s = true →
        SameNotices s t ∧ t.titles = s.titles ∧
        t.pendingTitles = s.pendingTitles.map (fun p => if p.key = k then ⟨p.key, p.count + 1⟩ else p)) ∧
      (oneOff = none → titleWay k s = none → isListed k s = false →
        SameNotices (produce (.titleRequest k) s) t ∧ t.titles = s.titles ∧
        t.pendingTitles = s.pendingTitles ++ [⟨k, 1⟩]) ∧
      SameTracks s t ∧ SameLanes s t ∧ SamePress s t ∧ SamePace s t ∧ SameLine s t ∧ Sent [] s t)

/-- R13, R16: Withdraw Book retires an ADMITTED record WITHDRAWN and answers OK; a record further on is TOO_LATE, no record, or one in
RETIRING, NO_RECORD. -/
def Obligations.WithdrawBookRetiresTheRecord : Prop :=
  ∀ (tk : Ticket) (n : Word) (rest : List QueuedRequest) (s : State),
    let q : QueuedRequest := ⟨.withdrawBook tk, n⟩
    s.link.requests = q :: rest → ticketInRange tk = true →
    (∀ r, liveRecord tk s = some r → r.stage = .admitted → ∃ t, exec .withdrawBook s = .next t ∧
      Answered q rest .ok [] s t ∧
      SameBooks (retire tk .withdrawn none s) t ∧ SameTitles (retire tk .withdrawn none s) t ∧
      SameTracks (retire tk .withdrawn none s) t ∧ SameNotices (retire tk .withdrawn none s) t ∧
      SamePress (retire tk .withdrawn none s) t ∧
      SameLanes s t ∧ SamePace s t ∧ SameLine s t ∧ Sent [] s t) ∧
    (∀ r, liveRecord tk s = some r → r.stage ≠ .admitted →
      exec .withdrawBook s = .next (noteSending (answered q rest .tooLate [] s))) ∧
    (liveRecord tk s = none → exec .withdrawBook s = .next (noteSending (answered q rest .noRecord [] s)))

/-- R5, R19, R35, R57, R61, R83: Attach Parameters makes an unresolved TABLE record not yet married a resolved ONE_OFF record with the
supplied parameters; it stops waiting on its key, and its resolution is announced. What an announcement brings: a failed thickness
check refuses the block at the gate, marks it in the infeed track or ejects it at the head; a record that the head holds in WAIT_TITLE
and that passes takes the lane decision; else nothing follows. -/
def Obligations.AttachParametersResolvesTheRecord : Prop :=
  (∀ (tk : Ticket) (o : Word) (p : TitleParams) (n : Word) (rest : List QueuedRequest) (r : BookRecord) (s : State),
    let q : QueuedRequest := ⟨.attachParameters tk o p, n⟩
    s.link.requests = q :: rest → ticketInRange tk = true → onlyMarks 4 o = true → paramsInRange p = true →
    liveRecord tk s = some r → r.stage.unmarried = true → r.source = .table → r.resolved = false →
    let u : State := { stopWaiting r.key s with
      out := [], sentFrame := []
      records := s.records.map (fun x =>
        if x.ticket = tk then { r with source := .oneOff, oneOff := some p, resolved := true } else x) }
    (∃ t, exec .attachParameters s = .next t ∧ Answered q rest .ok [] s t ∧
      SameBooks (settleLine (announceResolved tk u)) t ∧ SameTitles (settleLine (announceResolved tk u)) t ∧
      SameTracks (settleLine (announceResolved tk u)) t ∧ SameLanes (settleLine (announceResolved tk u)) t ∧
      SamePress (settleLine (announceResolved tk u)) t ∧ SameLine (settleLine (announceResolved tk u)) t ∧
      SamePace s t ∧ SameNotices (settleLine (announceResolved tk u)) t ∧
      t.out = (settleLine (announceResolved tk u)).out ∧ t.drive = (settleLine (announceResolved tk u)).drive) ∧
    ((∀ m, r.thickness = some m → m ≤ p.s + s.params.tolerance ∧ p.s ≤ m + s.params.tolerance) →
      s.head ≠ .waitTitle tk → announceResolved tk u = u)) ∧
  (∀ (tk : Ticket) (r : BookRecord) (p : TitleParams) (m : Nat) (s : State),
    liveRecord tk s = some r → r.thickness = some m → paramsOf r s = some p →
    let fails : Prop := p.s + s.params.tolerance < m ∨ m + s.params.tolerance < p.s
    (¬fails → s.head ≠ .waitTitle tk → announceResolved tk s = s) ∧
    (¬fails → s.head = .waitTitle tk → announceResolved tk s = releaseCheck (laneDecision tk r.key s)) ∧
    (fails → r.stage = .gated →
      announceResolved tk s = retire tk .diverted (some .wrongBlock) (send .s1Refuse s)) ∧
    (fails → r.stage = .infeed → announceResolved tk s =
      { s with tracks := { s.tracks with
          infeed := s.tracks.infeed.map fun e => if e.ticket = tk then ⟨e.ticket, true⟩ else e } }) ∧
    (fails → r.stage = .head → announceResolved tk s =
      actWaitingS3 (releaseCheck (retire tk .diverted (some .wrongBlock)
        { send .s3Eject s with head := .idle, marriageTimer := none }))))

/-- R20: Query Book answers OK with the whole record, in whatever stage it is, or NO_RECORD, and changes no state. In the answer's words the
bits that no layout assigns are 0, the model's choice (log 35). -/
def Obligations.QueryBookAnswersTheRecord : Prop :=
  ∀ (tk : Ticket) (n : Word) (rest : List QueuedRequest) (s : State),
    let q : QueuedRequest := ⟨.queryBook tk, n⟩
    s.link.requests = q :: rest → ticketInRange tk = true →
    (∀ r, findRecord tk s = some r → exec .queryBook s = .next (noteSending (answered q rest .ok
      (ticketWords r.ticket ++ keyWords r.key ++
        [pairWord r.source.code r.stage.code,
          numWord ((if r.resolved then 1 else 0) + (if r.override.isSome then 2 else 0) + (if r.oneOff.isSome then 4 else 0) +
            (if (r.oneOff.bind (·.override)).isSome then 8 else 0) + (if r.thickness.isSome then 16 else 0) +
            (if r.lane.isSome then 32 else 0) + (if r.dwell.isSome then 64 else 0) + (if r.eff.isSome then 128 else 0) +
            (if r.position.isSome then 256 else 0)),
          numWord (r.override.getD 0)] ++
        (match r.oneOff with
          | some p => [numWord p.s, numWord p.h, numWord p.w, numWord p.pc, numWord p.mc, numWord (p.override.getD 0)]
          | none => [0, 0, 0, 0, 0, 0]) ++
        [pairWord (r.thickness.getD 0) (match r.lane with | some .a => 1 | some .b => 2 | none => 0),
          numWord (r.dwell.getD 0), numWord (r.force.getD 0), numWord (r.eff.getD 0),
          pairWord (r.position.getD 0) (match r.outcome with | some o => o.code | none => 0)] ++
        codeWords 2 (r.flags.map Flag.code) ++ codeWords 3 (r.reasons.map Reason.code)) s))) ∧
    (findRecord tk s = none → exec .queryBook s = .next (noteSending (answered q rest .noRecord [] s)))

/-- R21, R22, R51, R54, R66, R95, R97, R99, R152: Force Retire, accepted in STOPPED, HALTED and FAULT_HOLD, retires the record FORCED,
from whatever stage, its place is empty, and the owner of that place acts: at INFEED the gate is tested and the release check made;
at HEAD the head goes IDLE, the release check is made, and a waiting S3 reading is taken; at ENTRY a waiting marriage is taken, PD is
recomputed, and a head that held the book as HOLD_MARRIED goes IDLE and takes a waiting S3 reading (in that order: log 16, DEDUCED, the
model's choice); at PRESS PD is recomputed and a held index tested; at JACKET the jacketing state of the book goes FREE, in APPLYING
with the head key, and a held index is tested; at DELIVERY a waiting S5 reading is taken; at ADMITTED and GATED nothing follows. The
run-out and idle timer tests close the step. The refusals come in the order WRONG_STATE, NO_RECORD. -/
def Obligations.ForceRetireRetiresTheRecord : Prop :=
  ∀ (tk : Ticket) (n : Word) (rest : List QueuedRequest) (s : State),
    let q : QueuedRequest := ⟨.forceRetire tk, n⟩
    s.link.requests = q :: rest → ticketInRange tk = true →
    (s.line.state = .running ∨ s.line.state = .stopping ∨ s.line.state = .runningOut →
      exec .forceRetire s = .next (noteSending (answered q rest .wrongState [] s))) ∧
    (s.line.state = .stopped ∨ s.line.state = .halted ∨ s.line.state = .faultHold →
      (liveRecord tk s = none → exec .forceRetire s = .next (noteSending (answered q rest .noRecord [] s))) ∧
      (∀ r, liveRecord tk s = some r →
        let y := retire tk .forced none { s with out := [], sentFrame := [], link := { s.link with requests := rest } }
        let married : State := recomputeDemand (takeWaiting y)
        let acted : State := match r.stage with
          | .infeed => releaseCheck (gateTest y)
          | .head => actWaitingS3 (releaseCheck { y with head := .idle, marriageTimer := none })
          | .entry => if married.head.married tk then actWaitingS3 { married with head := .idle } else married
          | .press => indexRetest (recomputeDemand y)
          | .jacket => indexRetest { y with jackets :=
              if y.jackets.state = Jacketing.verify tk then { y.jackets with state := .free }
              else if y.jackets.state = Jacketing.applying tk then
                { y.jackets with state := .free, sequence := y.jackets.sequence.tail }
              else y.jackets }
          | .delivery => actWaitingS5 y
          | _ => y
        let x := settleLine acted
        exec .forceRetire s = .next (noteSending
          { x with link := { x.link with answers := x.link.answers ++ [⟨0x25, .ok, n, []⟩] } })) ∧
      (∀ r, liveRecord tk s = some r → ∃ t, exec .forceRetire s = .next t ∧ Answered q rest .ok [] s t ∧
        liveRecord tk t = none ∧
        (32 ≤ s.link.notices.length → (findRecord tk t).bind (·.outcome) = some .forced) ∧
        (s.link.notices.length < 32 → s.retiring = [] → findRecord tk t = none ∧
          ⟨s.link.nextNotice, .bookRetired tk .forced [] (r.dwell.getD 0) (r.eff.getD 0)⟩ ∈ t.link.notices) ∧
        (RecordInv s → PlaceInv s → ∀ st, tk ∉ standing t st) ∧
        t.line = s.line ∧ t.params = s.params ∧ t.ports = s.ports ∧ t.pace.floors = s.pace.floors ∧
        t.pace.inForce = s.pace.inForce ∧ t.press.state = s.press.state ∧ t.press.temp = s.press.temp ∧
        t.press.index = s.press.index ∧ t.press.carried = s.press.carried ∧ t.jackets.mode = s.jackets.mode ∧
        t.jackets.mismatch = s.jackets.mismatch ∧
        (s.readers.s3.waiting = none →
          SameTitles (retire tk .forced none s) t ∧ t.retiring = (retire tk .forced none s).retiring) ∧
        (r.stage = .admitted ∨ r.stage = .gated → SameBooks (retire tk .forced none s) t ∧
          SameTitles (retire tk .forced none s) t ∧ SameTracks (retire tk .forced none s) t ∧
          SameNotices (retire tk .forced none s) t ∧ SameLanes s t ∧ t.jackets = s.jackets ∧ t.pace = s.pace ∧ Sent [] s t) ∧
        (r.stage = .head → s.readers.s3.waiting = none → t.head = .idle ∧ t.marriageTimer = none) ∧
        (r.stage = .entry → s.tracks.waitingMarriage = none → s.readers.s3.waiting = none → s.tracks.entry = some tk →
          t.tracks.entry = none ∧ ∀ l, s.head = .holdMarried tk l → t.head = .idle) ∧
        (r.stage = .press ∨ r.stage = .entry ∧ s.readers.s3.waiting = none → t.press.pd = pressDemand t) ∧
        (r.stage = .jacket → (s.jackets.state = .verify tk → t.jackets = { s.jackets with state := .free }) ∧
          (s.jackets.state = .applying tk → t.jackets = { s.jackets with state := .free, sequence := s.jackets.sequence.tail }))))

/-- R13, R18, R21, R39, R45, R178: a ticket with order or copy 0, a key 0, a parameter outside its range and an options mark that the
request does not read are answered RANGE before any lookup. Attach Parameters then looks for the record, for its stage and for its
resolution, in that order. No refused request changes any state. -/
def Obligations.RequestsAreCheckedBeforeTheyAct : Prop :=
  (∀ p : TitleParams, paramsInRange p = true ↔
    3 ≤ p.s ∧ p.s ≤ 90 ∧ 120 ≤ p.h ∧ p.h ≤ 420 ∧ 80 ≤ p.w ∧ p.w ≤ 320 ∧ 1 ≤ p.pc ∧ p.pc ≤ 3 ∧ 1 ≤ p.mc ∧ p.mc ≤ 3 ∧
      ∀ v, p.override = some v → 300 ≤ v ∧ v ≤ 30000) ∧
  (∀ (q : QueuedRequest) (rest : List QueuedRequest) (s : State), s.link.requests = q :: rest →
    let range : Host.Outcome State Fault Refusal := .next (noteSending (answered q rest .range [] s))
    (∀ tk : Ticket, tk.order = 0 ∨ tk.copy = 0 →
      (q.request = .withdrawBook tk → exec .withdrawBook s = range) ∧
      (q.request = .queryBook tk → exec .queryBook s = range) ∧
      (q.request = .forceRetire tk → exec .forceRetire s = range) ∧
      (∀ o p, q.request = .attachParameters tk o p → exec .attachParameters s = range) ∧
      (∀ k o v p, q.request = .admitBook tk k o v p → exec .admitBook s = range)) ∧
    (∀ (o : Word) (p : TitleParams), o.toNat ≠ 0 ∧ o.toNat ≠ 4 ∨ paramsInRange p = false →
      (∀ tk, q.request = .attachParameters tk o p → exec .attachParameters s = range) ∧
      (∀ k, q.request = .loadTitle k o p → exec .loadTitle s = range)) ∧
    (q.request = .dropTitle 0 → exec .dropTitle s = range) ∧
    (∀ o p, q.request = .loadTitle 0 o p → exec .loadTitle s = range)) ∧
  (∀ (tk : Ticket) (o : Word) (p : TitleParams) (n : Word) (rest : List QueuedRequest) (s : State),
    let q : QueuedRequest := ⟨.attachParameters tk o p, n⟩
    s.link.requests = q :: rest → tk.order ≠ 0 → tk.copy ≠ 0 → o.toNat = 0 ∨ o.toNat = 4 → paramsInRange p = true →
    (liveRecord tk s = none → exec .attachParameters s = .next (noteSending (answered q rest .noRecord [] s))) ∧
    (∀ r, liveRecord tk s = some r →
      let unmarried : Prop := r.stage = .admitted ∨ r.stage = .gated ∨ r.stage = .infeed ∨ r.stage = .head
      (¬unmarried → exec .attachParameters s = .next (noteSending (answered q rest .tooLate [] s))) ∧
      (unmarried → r.source = .oneOff ∨ r.resolved = true →
        exec .attachParameters s = .next (noteSending (answered q rest .wrongState [] s)))))

/-! ### Titles -/

/-- R28, R36, R40 to R44: a Load Title whose key is valid updates its entry in place: the parameters are replaced, counts, dirty mark and
pin count stay, and its way is used. One whose key is not valid installs it in the victim way: the LRU way of two invalid ones, the
one invalid way, else the LRU way when unpinned, else the other when unpinned, else it is refused SET_FULL (the low byte of word 4 of that answer, 0, and the bits of the OK answer's marks that no layout assigns, 0, are the model's
choice: log 35). The new entry is valid with
the request's parameters and counts 0, the way is used, and the key leaves the Pending Title List. Every record that waited on it, in
order of admission, is resolved, pins the entry, and is announced (AttachParametersResolvesTheRecord says what an announcement
brings). A waiting record still ADMITTED only becomes resolved; when all of them are, or none waited, nothing else changes but the
run-out and idle timer tests (log 26). -/
def Obligations.LoadTitleUpdatesOrInstalls : Prop :=
  (∀ (k : TitleKey) (o : Word) (p : TitleParams) (n : Word) (rest : List QueuedRequest) (w : Way) (s : State),
    let q : QueuedRequest := ⟨.loadTitle k o p, n⟩
    s.link.requests = q :: rest → keyInRange k = true → onlyMarks 4 o = true → paramsInRange p = true →
    titleWay k s = some w → ∃ t, exec .loadTitle s = .next t ∧
      Answered q rest .ok [pairWord (k.toNat % 32) w.num, pairWord 2 0, 0, 0, 0, 0, 0] s t ∧
      titleEntry k t = (titleEntry k s).map (fun e => { e with params := p }) ∧
      (titleSet k t).lru = w.other ∧ (titleSet k t).get w.other = (titleSet k s).get w.other ∧
      (∀ i, i ≠ setOf k → t.titles.get i = s.titles.get i) ∧ t.pendingTitles = s.pendingTitles ∧
      SameBooks s t ∧ SameTracks s t ∧ SameLanes s t ∧ SamePress s t ∧ SamePace s t ∧ SameLine s t ∧ SameNotices s t ∧ Sent [] s t) ∧
  (∀ (k : TitleKey) (o : Word) (p : TitleParams) (n : Word) (rest : List QueuedRequest) (s : State),
    let q : QueuedRequest := ⟨.loadTitle k o p, n⟩
    let ts := titleSet k s
    let lruEntry := ts.get ts.lru
    let otherEntry := ts.get ts.lru.other
    s.link.requests = q :: rest → keyInRange k = true → onlyMarks 4 o = true → paramsInRange p = true →
    titleWay k s = none →
    (lruEntry.valid = true → otherEntry.valid = true → lruEntry.pin ≠ 0 → otherEntry.pin ≠ 0 →
      exec .loadTitle s = .next (noteSending (answered q rest .setFull
        ([pairWord (k.toNat % 32) 0] ++ keyWords ts.way0.key ++ [numWord ts.way0.pin] ++ keyWords ts.way1.key ++
          [numWord ts.way1.pin]) s))) ∧
    (∀ w, (w = ts.lru ∧ (lruEntry.valid = false ∨ otherEntry.valid = true ∧ lruEntry.pin = 0) ∨
        w = ts.lru.other ∧ lruEntry.valid = true ∧ (otherEntry.valid = false ∨ lruEntry.pin ≠ 0 ∧ otherEntry.pin = 0)) →
      ∃ t, exec .loadTitle s = .next t ∧
        Answered q rest .ok
          (loadWords (k.toNat % 32) w 1 (s.records.countP (waitsOn k))
            (if (ts.get w).valid then some (ts.get w) else none)) s t ∧
        titleWay k t = some w ∧ (titleSet k t).lru = w.other ∧ isListed k t = false ∧
        (RecordInv s → ∀ r ∈ t.records, waitsOn k r = false) ∧
        (let entered : State := changeSet k (fun x => x.put w ⟨true, k, p, 0, 0, false, 0⟩)
            { s with
              out := [], sentFrame := [], link := { s.link with requests := rest }
              pendingTitles := s.pendingTitles.filter (fun x => !(x.key == k)) }
          let resolve (y : State) (tk : Ticket) : State :=
            match liveRecord tk y with
            | some r =>
              if r.source = .table ∧ r.key = k ∧ r.resolved = false then
                announceResolved tk (changeEntry k (fun e => { e with pin := e.pin + 1 })
                  { y with records := y.records.map fun z => if z.ticket = tk then { r with resolved := true } else z })
              else y
            | none => y
          let x := settleLine (changeSet k (fun x => { x with lru := w.other })
            (((s.records.filter (waitsOn k)).map (·.ticket)).foldl resolve entered));
          t = noteSending { x with link := { x.link with answers := x.link.answers ++ [⟨0x31, .ok, n,
            loadWords (k.toNat % 32) w 1 (s.records.countP (waitsOn k))
              (if (ts.get w).valid then some (ts.get w) else none)⟩] } }) ∧
        (RecordInv s → PlaceInv s → ∀ r ∈ s.records, waitsOn k r = true →
          (r.stage = .admitted → findRecord r.ticket t = some { r with resolved := true }) ∧
          (∀ r', findRecord r.ticket t = some r' → r'.resolved = true ∧ r'.key = k ∧ r'.source = .table)) ∧
        (RecordInv s → PlaceInv s → (∀ r ∈ s.records, waitsOn k r = true → r.stage = .admitted) →
          titleEntry k t = some ⟨true, k, p, 0, 0, false, s.records.countP (waitsOn k)⟩ ∧
          t.records = s.records.map (fun r => if waitsOn k r then { r with resolved := true } else r) ∧
          t.retiring = s.retiring ∧ (titleSet k t).get w.other = ts.get w.other ∧
          (∀ i, i ≠ setOf k → t.titles.get i = s.titles.get i) ∧
          t.pendingTitles = s.pendingTitles.filter (fun x => !(x.key == k)) ∧
          SameTracks s t ∧ SameLanes s t ∧ SamePace s t ∧ SameLine (runOutTest s) t ∧ SameNotices (runOutTest s) t ∧
          t.press = (settleLine s).press ∧ t.jackets = s.jackets ∧
          Sent (if s.line.state = .runningOut ∧ lineEmpty s = true then [.driveStop] else []) s t) ∧
        (s.records.countP (waitsOn k) = 0 →
          titleEntry k t = some ⟨true, k, p, 0, 0, false, 0⟩ ∧ (titleSet k t).get w.other = ts.get w.other ∧
          (∀ i, i ≠ setOf k → t.titles.get i = s.titles.get i) ∧
          t.pendingTitles = s.pendingTitles.filter (fun x => !(x.key == k)) ∧
          SameBooks s t ∧ SameTracks s t ∧ SameLanes s t ∧ SamePace s t ∧ SameLine (runOutTest s) t ∧
          SameNotices (runOutTest s) t ∧ t.press = (settleLine s).press ∧ t.jackets = s.jackets ∧
          Sent (if s.line.state = .runningOut ∧ lineEmpty s = true then [.driveStop] else []) s t)))

/-- R45, R46, R193: Drop Title makes an unpinned valid entry invalid, keeping its contents, and answers its counts; a pinned entry is
IN_USE with its pin count, and a key that is not valid NO_RECORD. In the answer's words the
bits that no layout assigns are 0, the model's choice (log 35). -/
def Obligations.DropTitleFreesTheEntry : Prop :=
  ∀ (k : TitleKey) (n : Word) (rest : List QueuedRequest) (s : State),
    let q : QueuedRequest := ⟨.dropTitle k, n⟩
    s.link.requests = q :: rest → keyInRange k = true →
    (titleWay k s = none → exec .dropTitle s = .next (noteSending (answered q rest .noRecord [] s))) ∧
    (∀ w, titleWay k s = some w →
      let e := (titleSet k s).get w
      (e.pin ≠ 0 → exec .dropTitle s = .next (noteSending (answered q rest .inUse [numWord e.pin] s))) ∧
      (e.pin = 0 → ∃ t, exec .dropTitle s = .next t ∧
        Answered q rest .ok
          [pairWord (k.toNat % 32) w.num, if e.dirty then 1 else 0, numWord e.bound, numWord e.diverted] s t ∧
        (titleSet k t).get w = { e with valid := false } ∧ (titleSet k t).get w.other = (titleSet k s).get w.other ∧
        (titleSet k t).lru = (titleSet k s).lru ∧ (∀ i, i ≠ setOf k → t.titles.get i = s.titles.get i) ∧
        t.pendingTitles = s.pendingTitles ∧
        SameBooks s t ∧ SameTracks s t ∧ SameLanes s t ∧ SamePress s t ∧ SamePace s t ∧ SameLine s t ∧ SameNotices s t ∧
        Sent [] s t))

/-- R47: Query Title answers a valid key with its set, way and entry, a key that is not valid NO_RECORD with its waiting count, or 0
when it is not listed, and a key out of range RANGE; it changes no state. In the answer's words the
bits that no layout assigns are 0, the model's choice (log 35). -/
def Obligations.QueryTitleAnswersTheEntry : Prop :=
  ∀ (k : TitleKey) (n : Word) (rest : List QueuedRequest) (s : State),
    let q : QueuedRequest := ⟨.queryTitle k, n⟩
    s.link.requests = q :: rest →
    (k = 0 → exec .queryTitle s = .next (noteSending (answered q rest .range [] s))) ∧
    (k ≠ 0 →
      (∀ w, titleWay k s = some w →
        let e := (titleSet k s).get w
        exec .queryTitle s = .next (noteSending (answered q rest .ok
          ([pairWord (k.toNat % 32) w.num,
            numWord ((if e.valid then 1 else 0) + (if e.dirty then 2 else 0) +
              (match (titleSet k s).lru with | .w0 => 0 | .w1 => 4))] ++
            keyWords k ++
            [numWord e.params.s, numWord e.params.h, numWord e.params.w, pairWord e.params.pc e.params.mc,
              numWord (e.params.override.getD 0), numWord e.bound, numWord e.diverted, numWord e.pin]) s))) ∧
      (titleWay k s = none → isListed k s = false →
        exec .queryTitle s = .next (noteSending (answered q rest .noRecord [0] s))) ∧
      (∀ p, titleWay k s = none → s.pendingTitles.find? (fun x => x.key == k) = some p →
        exec .queryTitle s = .next (noteSending (answered q rest .noRecord [numWord p.count] s))))

/-- R48, R192: Read Title Slot answers the entry of a set and way, valid or not, and a set above 31 or a way above 1 RANGE; it changes
no state. In the answer's words the
bits that no layout assigns are 0, the model's choice (log 35). -/
def Obligations.ReadTitleSlotAnswersTheEntry : Prop :=
  ∀ (set way : Nat) (n : Word) (rest : List QueuedRequest) (s : State),
    let q : QueuedRequest := ⟨.readTitleSlot set way, n⟩
    s.link.requests = q :: rest →
    (32 ≤ set ∨ 2 ≤ way → exec .readTitleSlot s = .next (noteSending (answered q rest .range [] s))) ∧
    (∀ (h : set < 32) (w : Way), way = w.num →
      exec .readTitleSlot s = .next (noteSending (answered q rest .ok
        (entryWords set w (s.titles.get ⟨set, h⟩).lru ((s.titles.get ⟨set, h⟩).get w)) s)))

/-! ### Settings -/

/-- R188, R189: Set Parameter refuses RANGE a number not in the table, a value outside its range, and a P_min and P_max that would
cross; else it writes that parameter alone, and answers with the number and the value now held. T_ref and T_x bring a recompute of PD and
of the pitch, P_min, P_max and the decrease step one of the pitch, with the PACE and the notice of a change. -/
def Obligations.SetParameterWritesTheValue : Prop :=
  ∀ (number value : Nat) (n : Word) (rest : List QueuedRequest) (s : State),
    let q : QueuedRequest := ⟨.setParameter number value, n⟩
    s.link.requests = q :: rest →
    (parameterRange number = none →
      exec .setParameter s = .next (noteSending (answered q rest .range [] s))) ∧
    (∀ lo hi, parameterRange number = some (lo, hi) →
      (value < lo ∨ hi < value ∨ number = 16 ∧ s.params.pMax < value ∨ number = 17 ∧ value < s.params.pMin →
        exec .setParameter s = .next (noteSending (answered q rest .range [] s))) ∧
      (lo ≤ value → value ≤ hi → (number = 16 → value ≤ s.params.pMax) → (number = 17 → s.params.pMin ≤ value) →
        ∃ t, exec .setParameter s = .next t ∧ Answered q rest .ok [numWord number, numWord value] s t ∧
          t.params.value number = value ∧ (∀ m, m ≠ number → t.params.value m = s.params.value m) ∧
          (number < 13 ∨ number = 19 → SamePress s t ∧ SamePace s t ∧ SameNotices s t ∧ Sent [] s t) ∧
          (number = 13 ∨ number = 14 →
            let x := recomputePitch { s with out := [], params := t.params, press := { s.press with pd := pressDemand t } }
            SamePace x t ∧ SameNotices x t ∧ t.out = x.out ∧ t.drive = x.drive ∧
            t.press = { s.press with pd := pressDemand t }) ∧
          (number = 15 → SamePace s t ∧ SameNotices s t ∧ Sent [] s t ∧
            t.press = { s.press with idleTimer := if idleRuns t then some (value * 60000) else none }) ∧
          (number = 16 ∨ number = 17 ∨ number = 18 →
            let x := recomputePitch { s with out := [], params := t.params }
            SamePress s t ∧ SamePace x t ∧ SameNotices x t ∧ t.out = x.out ∧ t.drive = x.drive) ∧
          SameBooks s t ∧ SameTitles s t ∧ SameTracks s t ∧ SameLanes s t ∧ t.jackets = s.jackets ∧ t.line = s.line ∧
          t.ports = s.ports))

/-- R128 to R132: a recompute stores the target, the demands clamped to P_min and P_max, with its deciding source; the commanded pitch
becomes it by the first row of R129 that applies, and a change, and only a change, sends PACE to the drive and to S4 and produces
Pace Changed. -/
def Obligations.RecomputeOfThePitch : Prop :=
  ∀ s : State,
    let d := largestDemand s
    let target := min s.params.pMax (max s.params.pMin d)
    let taken : Bool := s.params.pMax < s.pace.commanded || s.pace.commanded < s.params.pMin ||
      s.pace.commanded < target || (target ≤ s.pace.commanded && s.params.decrease ≤ s.pace.commanded - target)
    let source := decidingSource s
    (s.press.pd ≤ d ∧ ∀ c v, (s.pace.floors.get c).effective = some v → v ≤ d) ∧
    (d = 0 ∨ d = s.press.pd ∨ ∃ c, (s.pace.floors.get c).effective = some d) ∧
    (s.params.pMax < d → source = .pMax) ∧
    (d ≤ s.params.pMax → s.press.pd = target → source = .press) ∧
    (d ≤ s.params.pMax → s.press.pd ≠ target → ∀ c, source = .contributor c ↔
      (s.pace.floors.get c).effective = some target ∧
        ∀ c', c'.code < c.code → (s.pace.floors.get c').effective ≠ some target) ∧
    (d < s.params.pMin → s.params.pMin ≤ s.params.pMax → source = .pMin) ∧
    (taken = false ∨ target = s.pace.commanded →
      recomputePitch s = { s with pace := { s.pace with target := some (target, source) } }) ∧
    (taken = true → target ≠ s.pace.commanded →
      recomputePitch s = produce (.paceChanged target source) (send (.s4Pace target) (send (.drivePace target)
        { s with pace := { s.pace with target := some (target, source), commanded := target, source := some source } })))

/-- R125, R126, R193: Set Floor refuses RANGE an entry that is none of the six, a value that is neither 0 nor within 300 to 9999, and
marks other than lock and ignore (R178); else it writes the entry, recomputes the pitch, and answers with the entry and the commanded
pitch.The bits of the answer's marks that no layout assigns are 0, the model's choice (log 35). -/
def Obligations.SetFloorWritesTheEntry : Prop :=
  ∀ (entry : Nat) (marks : Byte) (v : Nat) (n : Word) (rest : List QueuedRequest) (s : State),
    let q : QueuedRequest := ⟨.setFloor entry marks v, n⟩
    s.link.requests = q :: rest →
    (entry = 0 ∨ 6 < entry ∨ (0 < v ∧ v < 300) ∨ 9999 < v ∨ 4 ≤ marks.toNat →
      exec .setFloor s = .next (noteSending (answered q rest .range [] s))) ∧
    (∀ c : Contributor, c.code = entry → v = 0 ∨ 300 ≤ v ∧ v ≤ 9999 → marks.toNat < 4 →
      let lock := marks.getLsbD 0
      let written : FloorEntry := ⟨if c = .control then v else (s.pace.floors.get c).reported, lock, if lock then v else 0,
        marks.getLsbD 1⟩
      let x := recomputePitch { s with pace := { s.pace with floors := s.pace.floors.put c written } }
      ∃ t, exec .setFloor s = .next t ∧
        Answered q rest .ok
          [pairWord entry marks.toNat, numWord written.reported, numWord written.locked,
            optNumWord written.effective, numWord t.pace.commanded] s t ∧
        t.pace.floors.get c = written ∧ (∀ c', c' ≠ c → t.pace.floors.get c' = s.pace.floors.get c') ∧
        SamePace x t ∧ SameNotices x t ∧ t.drive = x.drive ∧ x.out = s.out ++ t.out ∧
        SameBooks s t ∧ SameTitles s t ∧ SameTracks s t ∧ SameLanes s t ∧ SamePress s t ∧ SameLine s t)

/-- R123, R124, R128: a FLOOR report is recorded in its station's entry, clamped to 0 or 300 to 9999, and the pitch is recomputed
whatever the entry's marks; the port of S4 discards it and counts an error. -/
def Obligations.FloorReportIsRecorded : Prop :=
  ∀ (st : Station) (value : Word) (s : State), Listens st s →
    (∀ c : Contributor,
      st = .s1 ∧ c = .infeed ∨ st = .s2 ∧ c = .caseInfeed ∨ st = .s3 ∧ c = .head ∨ st = .s5 ∧ c = .jacket ∨
        st = .s6 ∧ c = .delivery →
      exec (.floor st value) s = .next (noteSending (recomputePitch
        { s with
          out := [], sentFrame := []
          pace := { s.pace with floors := s.pace.floors.put c { s.pace.floors.get c with reported :=
            if value.toNat = 0 then 0 else if value.toNat < 300 then 300
            else if value.toNat < 10000 then value.toNat else 9999 } } }))) ∧
    (st = .s4 → exec (.floor st value) s = .next (noteSending
      { s with
        out := [], sentFrame := []
        ports := s.ports.put .s4 ⟨min ((s.ports.get .s4).errors + 1) 65535, none⟩ }))

/-- R140: Load Jackets refuses a list of 0 or more than 16 keys, or with a key 0, RANGE, and one that does not fit in 32 places NO_SPACE;
else it appends the keys at the tail of the sequence and answers with their number, in every line state and both modes. -/
def Obligations.LoadJacketsAppendsTheKeys : Prop :=
  ∀ (keys : List TitleKey) (n : Word) (rest : List QueuedRequest) (s : State),
    let q : QueuedRequest := ⟨.loadJackets keys, n⟩
    s.link.requests = q :: rest →
    (keys = [] ∨ 16 < keys.length ∨ 0 ∈ keys →
      exec .loadJackets s = .next (noteSending (answered q rest .range [] s))) ∧
    (keys ≠ [] → keys.length ≤ 16 → 0 ∉ keys →
      (32 < s.jackets.sequence.length + keys.length →
        exec .loadJackets s = .next (noteSending (answered q rest .noSpace [] s))) ∧
      (s.jackets.sequence.length + keys.length ≤ 32 →
        exec .loadJackets s = .next (noteSending
          { answered q rest .ok [numWord (s.jackets.sequence.length + keys.length)] s with
            jackets := { s.jackets with sequence := s.jackets.sequence ++ keys } })))

/-- R150: Release Jacketer sets the mode NORMAL and the mismatch count 0, and with EMPTY also empties the sequence, which needs the
jacketing state FREE; another choice is RANGE. -/
def Obligations.ReleaseJacketerEndsBypass : Prop :=
  ∀ (choice : Nat) (n : Word) (rest : List QueuedRequest) (s : State),
    let q : QueuedRequest := ⟨.releaseJacketer choice, n⟩
    s.link.requests = q :: rest →
    (choice ≠ 1 → choice ≠ 2 → exec .releaseJacketer s = .next (noteSending (answered q rest .range [] s))) ∧
    (choice = 1 → exec .releaseJacketer s = .next (noteSending
      { answered q rest .ok [pairWord 1 0, numWord s.jackets.sequence.length] s with
        jackets := ⟨s.jackets.sequence, .normal, 0, s.jackets.state⟩ })) ∧
    (choice = 2 → s.jackets.state ≠ .free →
      exec .releaseJacketer s = .next (noteSending (answered q rest .wrongState [] s))) ∧
    (choice = 2 → s.jackets.state = .free → exec .releaseJacketer s = .next (noteSending
      { answered q rest .ok [pairWord 1 0, 0] s with jackets := ⟨[], .normal, 0, .free⟩ }))

/-- R187, R194: Status answers the part of the state that its number names and changes no state; a number above 6 is RANGE. The
request's own place is not counted in words 15 and 16 of part 0 (log 11, DESIGN CHOICE). In the answer's words the
bits that no layout assigns are 0, the model's choice (log 35). -/
def Obligations.StatusAnswersAPartOfTheState : Prop :=
  ∀ (part : Nat) (n : Word) (rest : List QueuedRequest) (s : State),
    let q : QueuedRequest := ⟨.status part, n⟩
    s.link.requests = q :: rest →
    let s' : State := { s with link := { s.link with requests := rest } }
    (6 < part → exec .status s = .next (noteSending (answered q rest .range [] s))) ∧
    (∀ words, part = 0 ∧ words = statusLink s' ∨ part = 1 ∧ words = statusTitles s ∨ part = 2 ∧ words = statusTracks s ∨
        part = 3 ∧ words = statusLanes s ∨ part = 4 ∧ words = statusPress s ∨ part = 5 ∧ words = statusPace s ∨
        part = 6 ∧ words = statusJackets s →
      exec .status s = .next (noteSending (answered q rest .ok (numWord part :: words) s)))

/-! ### The line -/

/-- R161: a Line Command that names no command is answered RANGE (without a body: log 15), and a named one in a line state that the table
of R161 does not give is answered WRONG_STATE with the line state; neither changes any state. -/
def Obligations.LineCommandsAreCheckedByTheLineState : Prop :=
  ∀ (code : Nat) (n : Word) (rest : List QueuedRequest) (s : State),
    let q : QueuedRequest := ⟨.lineCommand code, n⟩
    let wrong : Host.Outcome State Fault Refusal :=
      .next (noteSending (answered q rest .wrongState [numWord s.line.state.code] s))
    s.link.requests = q :: rest →
    (code = 0 ∨ 6 < code → exec .lineCommandNamingNoCommand s = .next (noteSending (answered q rest .range [] s))) ∧
    (code = 1 → s.line.state ≠ .stopped → s.line.state ≠ .halted → exec .run s = wrong) ∧
    (code = 2 → s.line.state ≠ .running → s.line.state ≠ .runningOut → exec .stopSoft s = wrong) ∧
    (code = 3 → s.line.state ≠ .running → s.line.state ≠ .stopping → s.line.state ≠ .runningOut → exec .stopNow s = wrong) ∧
    (code = 4 → s.line.state ≠ .running → exec .runOut s = wrong) ∧
    (code = 5 → s.line.state ≠ .faultHold → exec .release s = wrong) ∧
    (code = 6 → s.line.state ≠ .stopped → s.line.state ≠ .halted → exec .clearLine s = wrong)

/-- R80, R88, R109, R110, R119, R131, R159, R162: RUN makes the line RUNNING, with its Line State notice; PACE goes to the drive ahead of
RUN, and to S4; each UNKNOWN lane is purged, lane A first; a head that waits with no lane decides again when a lane has left UNKNOWN,
and only then; a STANDBY press is woken; a head whose lane holds its case takes it; a held index that is permitted goes, with the
setpoint of the book at the entry place, which is then carried; and a held block is admitted when the other gate conditions hold. -/
def Obligations.RunStartsTheLine : Prop :=
  ∀ (n : Word) (rest : List QueuedRequest) (s : State),
    let q : QueuedRequest := ⟨.lineCommand 1, n⟩
    s.link.requests = q :: rest → s.line.state = .stopped ∨ s.line.state = .halted →
    ∃ t, exec .run s = .next t ∧ Answered q rest .ok [3] s t ∧ t.line = ⟨.running, some .run⟩ ∧
      (s.drive.stopDue = none →
        [.drivePace s.pace.commanded, .s4Pace s.pace.commanded, .driveRun] ++
          (if s.lanes.a = .unknown then [.s2Purge .a] else []) ++
          (if s.lanes.b = .unknown then [.s2Purge .b] else []) <+: t.out) ∧
      (∀ l, s.lanes.get l = .unknown → t.lanes.get l = .purging .initial none 20000) ∧
      (s.press.state = .standby → t.press.state = .warming ∧ .s4Wake ∈ t.out) ∧
      (s.press.state ≠ .standby → t.press.state = s.press.state ∧ .s4Wake ∉ t.out) ∧
      (∀ tk l k c, s.head = .waitCase tk (some l) → s.lanes.get l = .holding k c → keyOf tk s = some k →
        t.head = .pasting tk l ∧ .s3TakeCase l ∈ t.out ∧ t.marriageTimer = none) ∧
      t.press.index = (if s.press.index = .held ∧ s.press.state ≠ .fault ∧
        (s.press.positions.p6 = none ∨ s.tracks.jacket.length < 3) then .moving else s.press.index) ∧
      (let goes : Prop := s.press.index = .held ∧ s.press.state ≠ .fault ∧
          (s.press.positions.p6 = none ∨ s.tracks.jacket.length < 3);
        (goes → t.press.carried = s.tracks.entry ∧
          (s.tracks.entry = none → .s4IndexGo none ∈ t.out) ∧
          (∀ tk r, s.tracks.entry = some tk → liveRecord tk s = some r → .s4IndexGo r.force ∈ t.out)) ∧
        (¬goes → t.press.carried = s.press.carried ∧ ∀ f, .s4IndexGo f ∉ t.out)) ∧
      (∀ tk, s.head = .waitCase tk none → s.lanes.a ≠ .unknown → s.lanes.b ≠ .unknown →
        t.head = s.head ∧ t.lanes = s.lanes) ∧
      (∀ tk k l l' n, s.head = .waitCase tk none → keyOf tk s = some k → s.lanes.get l = .unknown →
        s.lanes.get l' = .purging .exchange none n →
        t.head = .waitCase tk (some l') ∧ t.lanes.get l' = .purging .exchange (some k) n) ∧
      (let e : NoticeEntry := ⟨s.link.nextNotice, .lineState .running .run⟩
        let room : Prop := s.link.notices.length < 32 ∧ s.retiring = [] ∧ s.link.held.any = false;
        (room → s.link.notices ++ [e] <+: t.link.notices) ∧ (¬room → t.link.held.lineState = some e)) ∧
      (∀ tk, s.tracks.gateHold = some tk → s.press.state = .ready → s.lanes.a.pastInitial = true →
        s.lanes.b.pastInitial = true → s.tracks.infeed.length < 3 → t.tracks.gateHold = none ∧ .s1Admit ∈ t.out) ∧
      (RecordInv s → PlaceInv s → t.tracks.entry = s.tracks.entry ∧ t.tracks.jacket = s.tracks.jacket ∧
        t.tracks.delivery = s.tracks.delivery ∧ t.press.positions = s.press.positions) ∧
      t.press.pd = s.press.pd ∧ t.press.temp = s.press.temp ∧
      t.jackets = s.jackets ∧ t.pace = s.pace ∧ t.params = s.params ∧ t.ports = s.ports ∧
      (s.readers.s3.waiting = none → SameTitles s t ∧ t.readers = s.readers ∧ t.retiring = s.retiring)

/-- R96, R159, R160, R164 to R166, R168, R169: STOP_SOFT makes the line STOPPING, and STOPPED when the head is not PASTING and no index is
outstanding; STOP_NOW makes it STOPPED and halts a pasting whose MARRIED is still out, which takes INTERRUPTED, and one that holds
INTERRUPTED already is not told again; RUN_OUT makes it RUNNING_OUT, then the head's TAKE_CASE and a held index are tested, and it is
STOPPED when every place is empty. Each change queues its Line State notice. The drive is sent STOP when, and only when, the line
stands afterwards. -/
def Obligations.StopCommandsChangeTheLine : Prop :=
  ∀ (n : Word) (rest : List QueuedRequest) (s : State),
    (s.link.requests = ⟨.lineCommand 2, n⟩ :: rest → s.line.state = .running ∨ s.line.state = .runningOut →
      let done : Bool := (match s.head with | .pasting _ _ => false | _ => true) && s.press.index != .moving
      ∃ t, exec .stopSoft s = .next t ∧ Answered ⟨.lineCommand 2, n⟩ rest .ok [if done then 2 else 4] s t ∧
        t.line = (if done then ⟨.stopped, some .stopDone⟩ else ⟨.stopping, some .stopSoft⟩) ∧
        SameNotices (if done then produce (.lineState .stopped .stopDone) (produce (.lineState .stopping .stopSoft) s)
          else produce (.lineState .stopping .stopSoft) s) t ∧
        Sent (if done then [.driveStop] else []) s t ∧
        SameBooks s t ∧ SameTitles s t ∧ SameTracks s t ∧ SameLanes s t ∧ SamePress s t ∧ SamePace s t ∧
        t.params = s.params ∧ t.ports = s.ports) ∧
    (s.link.requests = ⟨.lineCommand 3, n⟩ :: rest →
      s.line.state = .running ∨ s.line.state = .stopping ∨ s.line.state = .runningOut →
      ∃ t, exec .stopNow s = .next t ∧ Answered ⟨.lineCommand 3, n⟩ rest .ok [2] s t ∧
        t.line = ⟨.stopped, some .stopNow⟩ ∧ SameNotices (produce (.lineState .stopped .stopNow) s) t ∧
        (∀ tk l r, s.head = .pasting tk l → s.tracks.waitingMarriage ≠ some tk → liveRecord tk s = some r →
          .interrupted ∉ r.flags → Sent [.driveStop, .s3HaltPaste] s t ∧
          t.records = s.records.map fun x => if x.ticket = tk then { r with flags := r.flags ++ [.interrupted] } else x) ∧
        ((∀ tk l, s.head = .pasting tk l → s.tracks.waitingMarriage = some tk) →
          Sent [.driveStop] s t ∧ t.records = s.records) ∧
        ((∀ tk l, s.head = .pasting tk l → s.tracks.waitingMarriage = some tk ∨
            ∀ r, liveRecord tk s = some r → .interrupted ∈ r.flags) →
          Sent [.driveStop] s t ∧ t.records = s.records) ∧
        t.retiring = s.retiring ∧ SameTitles s t ∧ SameTracks s t ∧ SameLanes s t ∧ SamePress s t ∧ SamePace s t ∧
        t.params = s.params ∧ t.ports = s.ports) ∧
    (s.link.requests = ⟨.lineCommand 4, n⟩ :: rest → s.line.state = .running →
      ∃ t, exec .runOut s = .next t ∧ Answered ⟨.lineCommand 4, n⟩ rest .ok [numWord t.line.state.code] s t ∧
        (let x := settleLine (indexRetest (tryTakeCase (produce (.lineState .runningOut .runOut)
            { s with
              out := [], sentFrame := [], line := ⟨.runningOut, some .runOut⟩, link := { s.link with requests := rest } })));
          t = noteSending { x with link := { x.link with
            answers := x.link.answers ++ [⟨0x61, .ok, n, [numWord t.line.state.code]⟩] } }) ∧
        (lineEmpty t = false → t.line = ⟨.runningOut, some .runOut⟩ ∧ .driveStop ∉ t.out ∧ t.drive = s.drive) ∧
        (let e : NoticeEntry := ⟨s.link.nextNotice, .lineState .runningOut .runOut⟩
          let room : Prop := s.link.notices.length < 32 ∧ s.retiring = [] ∧ s.link.held.any = false;
          (room → s.link.notices ++ [e] <+: t.link.notices) ∧
          (¬room → lineEmpty t = false → t.link.held.lineState = some e)) ∧
        (lineEmpty t = false → s.readers.s3.waiting = none → SameNotices (produce (.lineState .runningOut .runOut) s) t) ∧
        (lineEmpty t = true → t.line = ⟨.stopped, some .runOutDone⟩ ∧ (s.drive.stopDue = none → .driveStop ∈ t.out)) ∧
        (lineEmpty s = true → SameNotices
          (produce (.lineState .stopped .runOutDone) (produce (.lineState .runningOut .runOut) s)) t ∧ t.line.state = .stopped) ∧
        (RecordInv s → PlaceInv s → t.tracks.gateHold = s.tracks.gateHold ∧ t.tracks.delivery = s.tracks.delivery ∧
          t.tracks.jacket = s.tracks.jacket ∧ t.press.positions = s.press.positions) ∧
        (s.readers.s3.waiting = none → SameTitles s t ∧ t.readers = s.readers ∧ t.retiring = s.retiring) ∧
        t.jackets = s.jackets ∧ t.pace = s.pace ∧ t.params = s.params ∧
        t.ports = s.ports)

/-- R69, R102, R171: RELEASE makes the line STOPPED, with its notice; a FAULT press whose last temperature is below T_ref + 30 goes
WARMING; then the unresolved reads of S3, S4, S5 and S6 are evaluated again, in that order. Evaluated again, a read is cleared; then, by
the first case of R64, it is ignored, or accepted with the station's effect, or is a sequence fault: it is kept, the line is back in
FAULT_HOLD with cause SEQUENCE, and a Fault notice is produced. No STOP goes to the drive. -/
def Obligations.ReleaseLeavesFaultHold : Prop :=
  (∀ (n : Word) (rest : List QueuedRequest) (s : State),
    let q : QueuedRequest := ⟨.lineCommand 5, n⟩
    s.link.requests = q :: rest → s.line.state = .faultHold →
    ∃ t, exec .release s = .next t ∧ Answered q rest .ok [numWord t.line.state.code] s t ∧
      (let stopped := produce (.lineState .stopped .release)
          { s with
            out := [], sentFrame := [], line := ⟨.stopped, some .release⟩, link := { s.link with requests := rest } }
        let cooled := produce (.pressState .warming s.press.temp) { stopped with press := { s.press with state := .warming } }
        let cools : Prop := s.press.state = .fault ∧ ∀ x, s.press.temp = some x → x < s.params.tRef + 30
        let done (y : State) : State :=
          let x := settleLine (evaluateAgain .s6 (evaluateAgain .s5 (evaluateAgain .s4 (evaluateAgain .s3 y))))
          noteSending { x with link := { x.link with
            answers := x.link.answers ++ [⟨0x61, .ok, n, [numWord x.line.state.code]⟩] } };
        (cools → t = done cooled) ∧ (¬cools → t = done stopped)) ∧
      ((∀ i, (t.readers.get i).unresolved = none) → t.line = ⟨.stopped, some .release⟩) ∧
      (∀ i, (t.readers.get i).unresolved ≠ none →
        t.line = ⟨.faultHold, some .sequence⟩ ∧ (t.readers.get i).unresolved = (s.readers.get i).unresolved) ∧
      (s.press.state = .fault → (∀ x, s.press.temp = some x → x < s.params.tRef + 30) → t.press.state = .warming) ∧
      (s.press.state ≠ .fault ∨ (∃ x, s.press.temp = some x ∧ s.params.tRef + 30 ≤ x) → t.press.state = s.press.state) ∧
      .driveStop ∉ t.out ∧ t.drive = s.drive ∧
      ((∀ i, (s.readers.get i).unresolved = none) → SameBooks s t ∧ SameTitles s t ∧ SameTracks s t ∧ SameLanes s t ∧
        t.jackets = s.jackets ∧ t.out = [] ∧
        SameNotices (if s.press.state = .fault ∧ t.press.state = .warming
          then produce (.pressState .warming s.press.temp) (produce (.lineState .stopped .release) s)
          else produce (.lineState .stopped .release) s) t) ∧
      (RecordInv s → PlaceInv s → t.press.positions = s.press.positions) ∧ t.press.index = s.press.index ∧ t.press.temp = s.press.temp ∧
      SamePace s t ∧ t.params = s.params ∧ t.ports = s.ports) ∧
  (∀ (i : ReaderId) (s : State), (s.readers.get i).unresolved = none → evaluateAgain i s = s) ∧
  (∀ (i : ReaderId) (rd : Reading Ticket) (s : State), (s.readers.get i).unresolved = some rd →
    let x := s.readers.get i
    let e := match i with
      | .s3 => s.tracks.infeed.head?.map (·.ticket)
      | .s4 => s.press.positions.p6
      | .s5 => s.tracks.jacket.head?
      | .s6 => s.tracks.delivery.head?
    let ignored : Prop := (∃ tk, rd = .named tk ∧ (x.last = some tk ∨ x.waiting = some tk)) ∨
      rd = .unreadable ∧ e ≠ none ∧ (x.last = e ∨ x.waiting = e)
    let named : Prop := ∃ tk, rd = .named tk ∧ e = some tk
    (ignored → evaluateAgain i s = { s with readers := s.readers.put i ⟨x.last, x.waiting, none⟩ }) ∧
    (¬ignored → ¬named → (rd = .unreadable → e = none) →
      evaluateAgain i s = produce (.fault .sequence i.station e (some rd)) (enterFault .sequence s)) ∧
    (∀ tk, ¬ignored → e = some tk → rd = .unreadable ∨ rd = .named tk →
      let s1 : State := { s with readers := s.readers.put i ⟨some tk, x.waiting, none⟩ }
      let s2 := if rd = .unreadable then setFlag .unverified tk s1 else s1
      let waits : State := { s2 with readers := s.readers.put i ⟨some tk, some tk, none⟩ }
      (i = .s3 → s.head = .idle → evaluateAgain i s = arrive tk s2) ∧
      (i = .s3 → s.head ≠ .idle → evaluateAgain i s = waits) ∧
      (i = .s4 → evaluateAgain i s = s2) ∧
      (i = .s5 → s.tracks.delivery.length < 2 → evaluateAgain i s = jacketArrival tk s2) ∧
      (i = .s5 → 2 ≤ s.tracks.delivery.length → evaluateAgain i s = waits) ∧
      (∀ r, i = .s6 → liveRecord tk s2 = some r →
        evaluateAgain i s = send (if r.flags = [] then .s6Deliver else .s6Divert) s2)))

/-- R23, R38, R55, R63, R98, R121, R157, R173: CLEAR_LINE retires every live record CLEARED, in order of admission, and empties the
Pending Title List, the tracks, the gate hold, the lanes, the head, the press and the jacket sequence; press state, temperature,
index state, carried ticket, jacketer mode, mismatch count and parameters stay; PD is 0 and the pitch is recomputed. The PACE of a
changed pitch goes out (R131, R137; that the sentence of R173 on commands does not speak of it is the model's choice: log 31, DEDUCED),
and no other command does. With room in the notice queue the Book Retired notices, outcome CLEARED, stand behind the
Line State notice of a change from HALTED, in order of admission; the records that find no room stay in the retirement order. -/
def Obligations.ClearLineEmptiesTheLine : Prop :=
  ∀ (n : Word) (rest : List QueuedRequest) (s : State),
    let q : QueuedRequest := ⟨.lineCommand 6, n⟩
    s.link.requests = q :: rest → s.line.state = .stopped ∨ s.line.state = .halted →
    ∃ t, exec .clearLine s = .next t ∧ Answered q rest .ok [2] s t ∧
      t.line = (if s.line.state = .stopped then s.line else ⟨.stopped, some .clearLine⟩) ∧
      (∀ tk, liveRecord tk t = none) ∧
      ((s.records.map (·.ticket)).Nodup → 32 ≤ s.link.notices.length →
        t.retiring = s.retiring ++ (s.records.filter (fun r => !(r.stage == .retiring))).map (·.ticket) ∧
        t.titles = s.titles ∧
        ∀ tk r, liveRecord tk s = some r → (findRecord tk t).bind (·.outcome) = some .cleared) ∧
      (RecordInv s → s.retiring = [] → s.link.held.any = false → s.link.notices.length < 32 →
        let noticed : List NoticeEntry :=
          if s.line.state = .stopped then [] else [⟨s.link.nextNotice, .lineState .stopped .clearLine⟩]
        let room := 32 - (s.link.notices.length + noticed.length)
        let freed : List NoticeEntry := (s.records.take room).zipIdx.map fun (r, i) =>
          ⟨s.link.nextNotice + BitVec.ofNat 16 (noticed.length + i),
            .bookRetired r.ticket .cleared [] (r.dwell.getD 0) (r.eff.getD 0)⟩
        s.link.notices ++ noticed ++ freed <+: t.link.notices ∧
        t.retiring = (s.records.drop room).map (·.ticket) ∧
        t.records = (s.records.drop room).map fun r =>
          { r with stage := .retiring, outcome := some .cleared, reasons := [], position := none }) ∧
      t.pendingTitles = [] ∧ t.tracks = ⟨none, none, [], none, none, [], []⟩ ∧
      (∀ i, t.readers.get i = ⟨none, none, (s.readers.get i).unresolved⟩) ∧
      t.lanes = ⟨.unknown, .unknown⟩ ∧ t.head = .idle ∧ t.marriageTimer = none ∧
      t.jackets = ⟨[], s.jackets.mode, s.jackets.mismatch, .free⟩ ∧
      t.press = { s.press with
        positions := .empty, pd := 0
        idleTimer := if idleRuns t then some (s.press.idleTimer.getD (s.params.idleTime * 60000)) else none } ∧
      t.pace.floors = s.pace.floors ∧ t.pace.inForce = s.pace.inForce ∧
      t.pace.target = some (targetPitch t, decidingSource t) ∧
      (∀ c ∈ t.out, c = .drivePace t.pace.commanded ∨ c = .s4Pace t.pace.commanded) ∧
      Sent (if t.pace.commanded ≠ s.pace.commanded
        then [.drivePace t.pace.commanded, .s4Pace t.pace.commanded] else []) s t ∧
      t.params = s.params ∧ t.ports = s.ports

/-! ### The gate, the lanes and the head -/

/-- R56 to R59, R119: a BLOCK_READ at S1. A double read is ignored; UNREADABLE, a ticket without a live record, a record not ADMITTED, and
a second block at the gate are refused with a Stray notice; else the record goes GATED with its thickness, a STANDBY press is woken,
and the block is refused when its check fails, admitted when the gate is open, held otherwise. -/
def Obligations.BlockAtTheGate : Prop :=
  ∀ (tk : Ticket) (b : Byte) (s : State), Listens .s1 s →
    let s0 : State := { s with out := [], sentFrame := [] }
    (s.tracks.lastGated = some tk → exec (.blockReadS1 (.named tk) b) s = .next (noteSending s0)) ∧
    (exec (.blockReadS1 .unreadable b) s =
      .next (noteSending (produce (.stray .s1 .unreadable) { s0 with out := [.s1Refuse] }))) ∧
    (s.tracks.lastGated ≠ some tk →
      (liveRecord tk s = none ∨ (∃ r, liveRecord tk s = some r ∧ r.stage ≠ .admitted) ∨ s.tracks.gateHold ≠ none) →
      exec (.blockReadS1 (.named tk) b) s =
        .next (noteSending (produce (.stray .s1 (.named tk)) { s0 with out := [.s1Refuse] }))) ∧
    (∀ r, s.tracks.lastGated ≠ some tk → liveRecord tk s = some r → r.stage = .admitted → r.thickness = none →
      s.tracks.gateHold = none →
      let m := min b.toNat 99
      let fails : Prop := r.resolved = true ∧
        ∃ p, paramsOf r s = some p ∧ (p.s + s.params.tolerance < m ∨ m + s.params.tolerance < p.s)
      let isOpen : Prop := s.line.state = .running ∧ s.press.state = .ready ∧ s.lanes.a.pastInitial = true ∧
        s.lanes.b.pastInitial = true ∧ s.tracks.infeed.length < 3
      let book (st : Stage) : List BookRecord :=
        s.records.map fun x => if x.ticket = tk then { r with stage := st, thickness := some m } else x
      let gated : State := { s0 with
        records := book .gated
        tracks := { s.tracks with gateHold := some tk, lastGated := some tk }
        press := { s.press with idleTimer := none } }
      let woken : State := if s.press.state = .standby
        then produce (.pressState .warming s.press.temp)
          { gated with out := [.s4Wake], press := { gated.press with state := .warming } }
        else gated
      (fails → exec (.blockReadS1 (.named tk) b) s = .next (finish
        (retire tk .diverted (some .wrongBlock) { woken with out := woken.out ++ [.s1Refuse] }))) ∧
      (¬fails → isOpen → exec (.blockReadS1 (.named tk) b) s = .next (finish
        { woken with
          out := [.s1Admit]
          records := book .infeed
          tracks := { s.tracks with lastGated := some tk, infeed := s.tracks.infeed ++ [⟨tk, false⟩] } })) ∧
      (¬fails → ¬isOpen → exec (.blockReadS1 (.named tk) b) s = .next (finish { woken with out := woken.out ++ [.s1Hold] })))

/-- R64, R68: a reading at S3 to S6 is ignored, replaces an unresolved read, or is a sequence fault, by the first case of R64 that applies;
a fault is kept as the unresolved read, puts the line in FAULT_HOLD and produces a Fault notice. An accepted exit reading only marks
the last accepted ticket; an accepted reading at S6 is answered DELIVER for a record without a flag, else DIVERT (R65, R154). -/
def Obligations.ReadingsAreJudgedInOrder : Prop :=
  ∀ (i : ReaderId) (rd : Reading Ticket) (s : State), Listens i.station s →
    let c : Instr := match i with | .s3 => .blockReadS3 rd | .s4 => .exitRead rd | .s5 => .bookArrived rd | .s6 => .bookRead rd
    let x := s.readers.get i
    let e := match i with
      | .s3 => s.tracks.infeed.head?.map (·.ticket)
      | .s4 => s.press.positions.p6
      | .s5 => s.tracks.jacket.head?
      | .s6 => s.tracks.delivery.head?
    let s0 : State := { s with out := [], sentFrame := [] }
    let kept : State := { s0 with readers := s.readers.put i { x with unresolved := some rd } }
    let ignored : Prop := (∃ tk, rd = .named tk ∧ (x.last = some tk ∨ x.waiting = some tk)) ∨
      rd = .unreadable ∧ e ≠ none ∧ (x.last = e ∨ x.waiting = e)
    let named : Prop := ∃ tk, rd = .named tk ∧ e = some tk
    (ignored → exec c s = .next (finish s0)) ∧
    (¬ignored → x.unresolved ≠ none → exec c s = .next (finish kept)) ∧
    (¬ignored → x.unresolved = none → ¬named → (rd = .unreadable → e = none) →
      exec c s = .next (finish (produce (.fault .sequence i.station e (some rd)) (enterFault .sequence kept)))) ∧
    (∀ tk, ¬ignored → x.unresolved = none → e = some tk → (rd = .unreadable ∨ rd = .named tk) →
      let s1 : State := { s0 with readers := s.readers.put i { x with last := some tk } }
      let s2 := if rd = .unreadable then setFlag .unverified tk s1 else s1
      (i = .s4 → exec c s = .next (finish s2)) ∧
      (∀ r, i = .s6 → liveRecord tk s2 = some r →
        exec c s = .next (finish { s2 with out := [if r.flags = [] then .s6Deliver else .s6Divert] })))

/-- R65, R66, R79, R90: a reading accepted at S3 waits while the head holds a record; else the block leaves the infeed track for the
head, a held block may be admitted behind it, and a marked block is ejected, an unresolved one waits for its title, and a resolved one
takes the lane decision, the marriage wait timer starting in the last two cases; the release check follows. A reading that waits at S3
is taken in the same way as soon as the head is IDLE, and not before. -/
def Obligations.BlockArrivesAtTheHead : Prop :=
  (∀ (tk : Ticket) (marked : Bool) (more : List InfeedEntry) (rd : Reading Ticket) (s : State), Listens .s3 s →
    s.tracks.infeed = ⟨tk, marked⟩ :: more → rd = .named tk ∨ rd = .unreadable →
    s.readers.s3.last ≠ some tk → s.readers.s3.waiting ≠ some tk → s.readers.s3.unresolved = none →
    let s1 : State := { s with
      out := [], sentFrame := [], readers := { s.readers with s3 := { s.readers.s3 with last := some tk } } }
    let s2 := if rd = .unreadable then setFlag .unverified tk s1 else s1
    (s.head ≠ .idle → exec (.blockReadS3 rd) s = .next (finish
      { s2 with readers := { s.readers with s3 := ⟨some tk, some tk, none⟩ } })) ∧
    (s.head = .idle → (∀ e ∈ more, e.ticket ≠ tk) →
      let left := gateTest (setStage .head tk { s2 with tracks := { s.tracks with infeed := more } })
      let timed : State := { left with marriageTimer := some (s.params.marriageWait * 1000) }
      (marked = true → exec (.blockReadS3 rd) s = .next (finish
        (releaseCheck (retire tk .diverted (some .wrongBlock) (send .s3Eject left))))) ∧
      (∀ r, marked = false → liveRecord tk s = some r → r.resolved = false → s.tracks.gateHold ≠ some tk →
        exec (.blockReadS3 rd) s = .next (finish (releaseCheck { timed with head := .waitTitle tk }))) ∧
      (∀ r, marked = false → liveRecord tk s = some r → r.resolved = true → s.tracks.gateHold ≠ some tk →
        exec (.blockReadS3 rd) s = .next (finish (releaseCheck (laneDecision tk r.key timed)))))) ∧
  (∀ s : State, s.head ≠ .idle ∨ s.readers.s3.waiting = none → actWaitingS3 s = s) ∧
  (∀ (tk : Ticket) (marked : Bool) (more : List InfeedEntry) (r : BookRecord) (s : State),
    s.head = .idle → s.readers.s3.waiting = some tk → s.tracks.infeed = ⟨tk, marked⟩ :: more → (∀ e ∈ more, e.ticket ≠ tk) →
    s.tracks.gateHold ≠ some tk → liveRecord tk s = some r →
    let left := gateTest (setStage .head tk { s with
      tracks := { s.tracks with infeed := more }
      readers := { s.readers with s3 := ⟨s.readers.s3.last, none, s.readers.s3.unresolved⟩ } })
    let timed : State := { left with marriageTimer := some (s.params.marriageWait * 1000) }
    (marked = true → actWaitingS3 s =
      releaseCheck (retire tk .diverted (some .wrongBlock) (send .s3Eject left))) ∧
    (marked = false → r.resolved = false → actWaitingS3 s = releaseCheck { timed with head := .waitTitle tk }) ∧
    (marked = false → r.resolved = true → actWaitingS3 s = releaseCheck (laneDecision tk r.key timed)))

/-- R80 to R82, R84 (log 12): the lane decision takes the first row that applies: the lane HOLDING the key, then TAKE_CASE when the line
feeds, which writes the record's lane used; the lane RESERVED for it or PURGING with it carried; an EMPTY lane, A first; a lane PURGING of kind EXCHANGE with nothing
carried; the lane chosen by R82, which is purged; none. -/
def Obligations.LaneDecisionTakesTheFirstRow : Prop :=
  ∀ (tk : Ticket) (k : TitleKey) (s : State), LaneInv s →
    let d := laneDecision tk k s
    let infeedHasKey (k' : TitleKey) : Prop := ∃ e ∈ s.tracks.infeed, keyOf e.ticket s = some k'
    (∀ l n, s.lanes.get l = .holding k n →
      d = tryTakeCase { s with head := .waitCase tk (some l) } ∧
      (s.line.state.feeds = false → d = { s with head := .waitCase tk (some l) }) ∧
      (s.line.state.feeds = true → keyOf tk s = some k →
        d.head = .pasting tk l ∧ d.marriageTimer = none ∧ d.out = s.out ++ [.s3TakeCase l] ∧
        (∀ r, liveRecord tk s = some r → r.lane = none →
          d.records = s.records.map fun x => if x.ticket = tk then { r with lane := some l } else x) ∧
        (2 ≤ n → d.lanes.get l = .holding k (n - 1)) ∧
        (n = 1 → infeedHasKey k → d.lanes.get l = .reserved k) ∧
        (n = 1 → ¬infeedHasKey k → d.lanes.get l = .empty))) ∧
    (∀ l, (s.lanes.get l).isKept k = true → d = { s with head := .waitCase tk (some l) }) ∧
    ((∀ l, (s.lanes.get l).holds k = false) →
      (s.lanes.a = .empty →
        d = { s with lanes := { s.lanes with a := .reserved k }, head := .waitCase tk (some .a) }) ∧
      (s.lanes.a ≠ .empty → s.lanes.b = .empty →
        d = { s with lanes := { s.lanes with b := .reserved k }, head := .waitCase tk (some .b) }) ∧
      (s.lanes.a ≠ .empty → s.lanes.b ≠ .empty →
        (∀ n, s.lanes.a = .purging .exchange none n → s.lanes.b.isFreed = false →
          d.lanes = { s.lanes with a := .purging .exchange (some k) n } ∧ d.head = .waitCase tk (some .a) ∧ d.out = s.out) ∧
        (∀ n, s.lanes.b = .purging .exchange none n → s.lanes.a.isFreed = false →
          d.lanes = { s.lanes with b := .purging .exchange (some k) n } ∧ d.head = .waitCase tk (some .b) ∧ d.out = s.out) ∧
        (s.lanes.a.isFreed = false → s.lanes.b.isFreed = false →
          (∀ ka, s.lanes.a.stockKey = some ka → (s.lanes.b.stockKey = none ∨ ¬infeedHasKey ka) →
            d = { send (.s2Purge .a) s with
              lanes := { s.lanes with a := .purging .exchange (some k) 20000 }, head := .waitCase tk (some .a) }) ∧
          (∀ kb, s.lanes.b.stockKey = some kb →
            (s.lanes.a.stockKey = none ∨ ∃ ka, s.lanes.a.stockKey = some ka ∧ infeedHasKey ka ∧ ¬infeedHasKey kb) →
            d = { send (.s2Purge .b) s with
              lanes := { s.lanes with b := .purging .exchange (some k) 20000 }, head := .waitCase tk (some .b) }) ∧
          (∀ ka kb i j, s.lanes.a.stockKey = some ka → s.lanes.b.stockKey = some kb → infeedPlace ka s = some i →
            infeedPlace kb s = some j → j ≠ i → d.head = .waitCase tk (some (if j < i then .a else .b)) ∧
              d.out = s.out ++ [.s2Purge (if j < i then .a else .b)]) ∧
          (s.lanes.a.stockKey = none → s.lanes.b.stockKey = none → d = { s with head := .waitCase tk none }))))

/-- R60, R76: the gate test admits a held block as soon as the conditions of R59 hold, into the tail of the infeed track; the release
check frees a RESERVED lane, and the carried key of a PURGING one, whose key no record of the infeed track and no waiting head wants,
and a lane that becomes EMPTY brings a new lane decision for a head that waits with no lane; when none does, no decision is made. -/
def Obligations.GateTestAndReleaseCheck : Prop :=
  ∀ s : State,
    (∀ tk, s.tracks.gateHold = some tk → gateOpen s = true →
      gateTest s = { setStage .infeed tk (send .s1Admit s) with
        tracks := { s.tracks with gateHold := none, infeed := s.tracks.infeed ++ [⟨tk, false⟩] } }) ∧
    (s.tracks.gateHold = none ∨ gateOpen s = false → gateTest s = s) ∧
    (let freed (l : Lane) : Lane := match l with
      | .reserved k => if wanted k s then .reserved k else .empty
      | .purging kind (some k) n => if wanted k s then .purging kind (some k) n else .purging kind none n
      | l => l
    let x : State := { s with lanes := ⟨freed s.lanes.a, freed s.lanes.b⟩ }
    ((∀ t, s.head ≠ .waitCase t none) → releaseCheck s = x) ∧
    ((∀ l, x.lanes.get l = .empty → s.lanes.get l = .empty) → releaseCheck s = x) ∧
    (∀ t k l, s.head = .waitCase t none → keyOf t s = some k → s.lanes.get l ≠ .empty → x.lanes.get l = .empty →
      releaseCheck s = laneDecision t k x)) ∧
    (∀ k, wanted k s = true ↔ (∃ e ∈ s.tracks.infeed, keyOf e.ticket s = some k) ∨
      ∃ t, keyOf t s = some k ∧ (s.head = .waitTitle t ∨ ∃ l, s.head = .waitCase t l))

/-- R74, R75: a CASE_READ by the first row that applies. A lane HOLDING the key takes the case unless it counts 10; a RESERVED one starts
at 1; a key carried by a purge is recirculated; an EMPTY lane, A first, takes a key that no lane holds; every other case, and
UNREADABLE, is recirculated. A case that joins is offered to a head that waits on that lane. -/
def Obligations.CasesAreSteered : Prop :=
  ∀ (k : TitleKey) (s : State), Listens .s2 s → LaneInv s →
    let s0 : State := { s with out := [], sentFrame := [] }
    let back : Host.Outcome State Fault Refusal := .next (noteSending { s0 with out := [.s2Recirculate] })
    let joined (l : LaneId) (n : Nat) : State := { s0 with out := [.s2Lane l], lanes := s.lanes.put l (.holding k n) }
    exec (.caseRead .unreadable) s = back ∧
    (∀ l, s.lanes.get l = .holding k 10 → exec (.caseRead (.named k)) s = back) ∧
    (∀ l n, s.lanes.get l = .holding k n ∧ n < 10 ∨ s.lanes.get l = .reserved k ∧ n = 0 →
      ((∀ t, s.head ≠ .waitCase t (some l)) →
        exec (.caseRead (.named k)) s = .next (noteSending (joined l (n + 1)))) ∧
      (∀ t, s.head = .waitCase t (some l) →
        exec (.caseRead (.named k)) s = .next (noteSending (tryTakeCase (joined l (n + 1)))))) ∧
    (∀ l kind n, s.lanes.get l = .purging kind (some k) n → exec (.caseRead (.named k)) s = back) ∧
    ((∀ l, (s.lanes.get l).holds k = false) →
      (s.lanes.a = .empty → exec (.caseRead (.named k)) s = .next (noteSending (joined .a 1))) ∧
      (s.lanes.a ≠ .empty → s.lanes.b = .empty → exec (.caseRead (.named k)) s = .next (noteSending (joined .b 1))) ∧
      (s.lanes.a ≠ .empty → s.lanes.b ≠ .empty → exec (.caseRead (.named k)) s = back))

/-- R81, R85, R87, R96, R170: PURGE_DONE ends the purge of the lane it names: RESERVED for the key carried by an EXCHANGE purge, else EMPTY; a
head that waits with no lane decides again, and the gate is tested. A lane not PURGING, or a byte that names none, changes nothing. A
purge timeout makes the lane UNKNOWN, takes it from a head that waits on it, and holds the line with STOP for a running drive and a
Fault notice. Any fault that finds the line not in FAULT_HOLD halts a pasting whose MARRIED is still out: HALT_PASTE goes to S3 and the
record takes INTERRUPTED; one that is INTERRUPTED already, or whose MARRIED waits, is not told. -/
def Obligations.PurgesEnd : Prop :=
  ∀ (l : LaneId) (b : Byte) (s : State),
    let s0 : State := { s with out := [], sentFrame := [] }
    (Listens .s2 s → b = (match l with | .a => 1 | .b => 2) →
      (∀ kind carried n, s.lanes.get l = .purging kind carried n →
        exec (.purgeDone b) s = .next (finish (gateTest (decideAgain { s0 with
          lanes := s.lanes.put l (match kind, carried with | .exchange, some k => .reserved k | _, _ => .empty) })))) ∧
      ((∀ kind carried n, s.lanes.get l ≠ .purging kind carried n) →
        exec (.purgeDone b) s = .next (noteSending s0))) ∧
    (Listens .s2 s → b ≠ 1 → b ≠ 2 → exec (.purgeDone b) s = .next (noteSending s0)) ∧
    (∀ kind carried n, s.lanes.get l = .purging kind carried n →
      exec (.purgeTimeout l) s = .next (finish (decideAgain (produce (.fault .purgeTimeout .s2 none none)
        (enterFault .purgeTimeout { s0 with
          lanes := s.lanes.put l .unknown
          head := match s.head with
            | .waitCase t (some l') => if l' = l then .waitCase t none else .waitCase t (some l')
            | h => h }))))) ∧
    (∀ c, (s.line.state = .faultHold → enterFault c s = s) ∧
      (s.line.state ≠ .faultHold → (∀ t l', s.head ≠ .pasting t l') →
        enterFault c s = produce (.lineState .faultHold c)
          { (if s.line.state.driveRuns then send .driveStop s else s) with line := ⟨.faultHold, some c⟩ }) ∧
      (∀ t l' r, s.line.state ≠ .faultHold → s.head = .pasting t l' → liveRecord t s = some r →
        let stopped := if s.line.state.driveRuns then send .driveStop s else s
        (s.tracks.waitingMarriage ≠ some t → .interrupted ∉ r.flags → enterFault c s = produce (.lineState .faultHold c)
          { send .s3HaltPaste stopped with
            line := ⟨.faultHold, some c⟩
            records := s.records.map fun x => if x.ticket = t then { r with flags := r.flags ++ [.interrupted] } else x }) ∧
        (s.tracks.waitingMarriage = some t ∨ .interrupted ∈ r.flags → enterFault c s = produce (.lineState .faultHold c)
          { stopped with line := ⟨.faultHold, some c⟩ })))

/-- R91, R119: the marriage wait timer can run out only while it runs. The head ejects its record, NO_TITLE when it waited for its title and
NO_CASE when it waited for its case; the head is IDLE, the release check is made, and then a waiting reading is taken. When the idle
timer runs out, STANDBY goes to S4, the press is STANDBY with a Press State notice, and the timer is stopped. -/
def Obligations.TimersRunOut : Prop :=
  (∀ (tk : Ticket) (left : Nat) (s : State), s.marriageTimer = some left → s.line.state.feeds = true →
    let ejected : State := { s with out := [.s3Eject], sentFrame := [], head := .idle, marriageTimer := none }
    (s.head = .waitTitle tk → exec .marriageWaitExpiry s = .next (finish (actWaitingS3 (releaseCheck
      (retire tk .diverted (some .noTitle) ejected))))) ∧
    (∀ l, s.head = .waitCase tk l → exec .marriageWaitExpiry s = .next (finish (actWaitingS3 (releaseCheck
      (retire tk .diverted (some .noCase) ejected)))))) ∧
  (∀ (left : Nat) (s : State), s.press.idleTimer = some left → s.press.state ≠ .standby →
    exec .idleTimerExpiry s = .next (noteSending (produce (.pressState .standby s.press.temp) { s with
      out := [.s4Standby], sentFrame := [], press := { s.press with state := .standby, idleTimer := none } })))

/-- R54, R93, R94, R104 to R106: a MARRIED that names the head's PASTING record takes the entry place when it is empty: the record is in
ENTRY with its D0 and force setpoint fixed, the head goes HOLD_MARRIED, PD is recomputed and a soft stop may complete; with the entry
place occupied it is kept as the waiting marriage. A repeated report is ignored, and any other is a Stray. -/
def Obligations.MarriageTakesTheEntryPlace : Prop :=
  ∀ (tk : Ticket) (s : State), Listens .s3 s →
    let s0 : State := { s with out := [], sentFrame := [] }
    (∀ l r p, s.head = .pasting tk l → s.tracks.waitingMarriage = none → s.tracks.entry = none →
      liveRecord tk s = some r → paramsOf r s = some p → r.dwell = none → r.force = none →
      let d0 := min 30000 ((r.override.or p.override).getD (s.params.base.get p.pc + p.s * s.params.inc.get p.pc))
      let force := (min (p.h * s.params.q.get p.mc) s.params.fMax + 9) / 10
      exec (.married (.named tk)) s = .next (finish (softStopTest (recomputeDemand { s0 with
        records := s.records.map fun x =>
          if x.ticket = tk then { r with stage := .entry, dwell := some d0, force := some force } else x
        tracks := { s.tracks with entry := some tk }
        head := .holdMarried tk l })))) ∧
    (∀ l e, s.head = .pasting tk l → s.tracks.waitingMarriage ≠ some tk → s.tracks.entry = some e →
      exec (.married (.named tk)) s = .next (noteSending
        { s0 with tracks := { s.tracks with waitingMarriage := some tk } })) ∧
    ((∃ l, s.head = .holdMarried tk l) ∨ s.tracks.waitingMarriage = some tk ∨
        s.tracks.entry = some tk ∧ (∀ l, s.head ≠ .pasting tk l) →
      exec (.married (.named tk)) s = .next (noteSending s0)) ∧
    (∀ rd, (∀ t l, s.head = .pasting t l → rd ≠ .named t) → (∀ t l, s.head = .holdMarried t l → rd ≠ .named t) →
      (∀ t, s.tracks.entry = some t ∨ s.tracks.waitingMarriage = some t → rd ≠ .named t) →
      exec (.married rd) s = .next (noteSending (produce (.stray .s3 rd) s0)))

/-! ### The press -/

/-- R100 to R103: a TEMPERATURE report is taken between 0 and 150 and becomes the last temperature; the press state changes by the first
row that applies, with a Press State notice for a change only; READY is told to the gate; an overheat holds the line with its notices
(log 13 for one inside FAULT_HOLD); and PD is recomputed with the new factor. (That the PACE of a pitch which this recompute changes
goes to S4 at an overheat too is the model's choice: log 32, DEDUCED.) -/
def Obligations.TemperatureMovesThePress : Prop :=
  ∀ (value : Word) (s : State), Listens .s4 s →
    let t := min value.toInt.toNat 150
    let taken : State := { s with out := [], sentFrame := [], press := { s.press with temp := some t } }
    let moved (st : PressState) : State := produce (.pressState st (some t)) { taken with press := { taken.press with state := st } }
    let done (x : State) : Host.Outcome State Fault Refusal := .next (finish (recomputeDemand x))
    (s.params.tRef + 30 ≤ t →
      (s.press.state ≠ .fault → exec (.temperature value) s =
        done (produce (.fault .pressOverheat .s4 none none) (enterFault .pressOverheat (moved .fault)))) ∧
      (s.press.state = .fault → s.line.state ≠ .faultHold → exec (.temperature value) s =
        done (produce (.fault .pressOverheat .s4 none none) (enterFault .pressOverheat taken))) ∧
      (s.press.state = .fault → s.line.state = .faultHold → exec (.temperature value) s = done taken)) ∧
    (t < s.params.tRef + 30 →
      (s.press.state = .cold ∨ s.press.state = .warming → s.params.tRef - 15 ≤ t →
        exec (.temperature value) s = done (gateTest (moved .ready))) ∧
      (s.press.state = .cold → t < s.params.tRef - 15 → exec (.temperature value) s = done (moved .warming)) ∧
      (s.press.state = .ready → t < s.params.tRef - 18 → exec (.temperature value) s = done (moved .warming)) ∧
      (s.press.state = .fault → s.line.state ≠ .faultHold →
        exec (.temperature value) s = done (indexRetest (moved .warming))) ∧
      (s.press.state = .standby ∨ s.press.state = .warming ∧ t < s.params.tRef - 15 ∨
          s.press.state = .ready ∧ s.params.tRef - 18 ≤ t ∨ s.press.state = .fault ∧ s.line.state = .faultHold →
        exec (.temperature value) s = done taken))

/-- R95, R108 to R110: INDEX_READY in CLAMP is answered INDEX_GO when the index is permitted, with the setpoint of the book at the entry
place, which is then carried and given up by the head, or EMPTY; else INDEX_WAIT, and the state is HELD. In HELD it is answered
INDEX_WAIT again, and in MOVING it is ignored. A HELD index that is tested again goes in the same way when it is permitted, and stays
HELD when it is not. -/
def Obligations.IndexReadyIsAnswered : Prop :=
  (∀ s : State, Listens .s4 s →
    let s0 : State := { s with out := [], sentFrame := [] }
    let permitted : Prop := (s.line.state = .running ∨ s.line.state = .runningOut) ∧
      (s.press.positions.p6 = none ∨ s.tracks.jacket.length < 3) ∧ s.press.state ≠ .fault
    (s.press.index = .moving → exec .indexReady s = .next (noteSending s0)) ∧
    (s.press.index = .held → exec .indexReady s = .next (noteSending { s0 with out := [.s4IndexWait] })) ∧
    (s.press.index = .clamp → ¬permitted → exec .indexReady s = .next (noteSending
      { s0 with out := [.s4IndexWait], press := { s.press with index := .held } })) ∧
    (s.press.index = .clamp → permitted → s.tracks.entry = none → exec .indexReady s = .next (finish
      { s0 with out := [.s4IndexGo none], press := { s.press with index := .moving, carried := none } })) ∧
    (∀ tk r, s.press.index = .clamp → permitted → s.tracks.entry = some tk → liveRecord tk s = some r →
      let gone : State := { s0 with
        out := [.s4IndexGo r.force], press := { s.press with index := .moving, carried := some tk } }
      ((∀ l, s.head ≠ .holdMarried tk l) → exec .indexReady s = .next (finish gone)) ∧
      (∀ l, s.head = .holdMarried tk l → exec .indexReady s = .next (finish (actWaitingS3 { gone with head := .idle }))))) ∧
  (∀ s : State,
    let goes : Prop := s.press.index = .held ∧ (s.line.state = .running ∨ s.line.state = .runningOut) ∧
      (s.press.positions.p6 = none ∨ s.tracks.jacket.length < 3) ∧ s.press.state ≠ .fault
    (¬goes → indexRetest s = s) ∧
    (goes → s.tracks.entry = none → indexRetest s = { s with
      out := s.out ++ [.s4IndexGo none], press := { s.press with index := .moving, carried := none } }) ∧
    (∀ tk r, goes → s.tracks.entry = some tk → liveRecord tk s = some r →
      let gone : State := { s with
        out := s.out ++ [.s4IndexGo r.force], press := { s.press with index := .moving, carried := some tk } }
      ((∀ l, s.head ≠ .holdMarried tk l) → indexRetest s = gone) ∧
      (∀ l, s.head = .holdMarried tk l → indexRetest s = actWaitingS3 { gone with head := .idle })))

/-- R54, R106, R107, R111 to R118, R128 to R134, R165, R169: an INDEX_DONE that completes an index credits every book in the press with its clamp time at the factor,
lets the book at position 6 out to the jacket track, SHORT_DWELL when its E is below its D0, moves the others up, and lets the carried
book in at position 1 with E 0; the early index check is made against the pitch in force, and the commanded pitch as it stood is then
in force; then PD and the pitch are recomputed, a Pace Fault notice standing before a Pace Changed one, and a soft stop or a run-out
that is complete stops the line with its notice and STOP. A waiting marriage taken at the entry place has its D0 and setpoint fixed.
One with no index outstanding is ignored. That the carried book is the one at the entry place which the head does not hold
as HOLD_MARRIED is the model's choice beside R114 (log 30, DEDUCED). The arithmetic it and every recompute of PD use: the factor is 150 without a
temperature, and else 100 and 2 for each degree that the temperature, taken between T_ref − 25 and T_ref, lies below T_ref; a book's
demand is what it lacks times the factor over 100, over the clamp periods still to come, both rounded up, and T_x; PD is the largest. -/
def Obligations.IndexDoneCompletesTheIndex : Prop :=
  (∀ (m cycle : Word) (s : State), Listens .s4 s →
    (s.press.index ≠ .moving →
      exec (.indexDone m cycle) s = .next (noteSending { s with out := [], sentFrame := [] })) ∧
    (s.press.index = .moving → RecordInv s → PlaceInv s →
      let p := s.press.positions
      let enters : Option Ticket := match s.tracks.entry with
        | some tk => if s.press.carried = some tk ∧ s.head.married tk = false then some tk else none
        | none => none
      let credit (r : BookRecord) : Nat := min (r.eff.getD 0 + m.toNat * 100 / factor s) 65535
      ∃ t, exec (.indexDone m cycle) s = .next t ∧
        t.press = { s.press with
          positions := ⟨enters, p.p1, p.p2, p.p3, p.p4, p.p5⟩, index := .clamp, carried := none, pd := pressDemand t
          idleTimer := if idleRuns t then some (s.press.idleTimer.getD (s.params.idleTime * 60000)) else none } ∧
        t.pace.inForce = some s.pace.commanded ∧ t.pace.floors = s.pace.floors ∧
        t.pace.target = some (targetPitch t, decidingSource t) ∧
        t.tracks.jacket = s.tracks.jacket ++ p.p6.toList ∧ t.tracks.delivery = s.tracks.delivery ∧
        t.tracks.infeed = s.tracks.infeed ∧ t.tracks.gateHold = s.tracks.gateHold ∧
        (∀ tk r, p.p6 = some tk → findRecord tk s = some r → findRecord tk t = some { r with
          stage := .jacket, position := none, eff := some (credit r)
          flags := if credit r < r.dwell.getD 0 then addFlag .shortDwell r.flags else r.flags }) ∧
        (∀ tk r, some tk ∈ [p.p1, p.p2, p.p3, p.p4, p.p5] → findRecord tk s = some r →
          findRecord tk t = some { r with eff := some (credit r), position := r.position.map (· + 1) }) ∧
        (∀ tk r, enters = some tk → findRecord tk s = some r →
          findRecord tk t = some { r with stage := .press, eff := some 0, position := some 1 }) ∧
        (∀ tk r, findRecord tk s = some r → r.stage ≠ .press → r.stage ≠ .entry → r.stage ≠ .head →
          findRecord tk t = some r) ∧
        (∀ tk, s.tracks.waitingMarriage = some tk → enters ≠ none →
          t.tracks.entry = some tk ∧ t.tracks.waitingMarriage = none ∧ (∃ l, t.head = .holdMarried tk l) ∧
          ∀ r b, findRecord tk s = some r → paramsOf r s = some b → r.dwell = none → r.force = none →
            findRecord tk t = some { r with
              stage := .entry
              dwell := some (min 30000 ((r.override.or b.override).getD (s.params.base.get b.pc + b.s * s.params.inc.get b.pc)))
              force := some ((min (b.h * s.params.q.get b.mc) s.params.fMax + 9) / 10) }) ∧
        (s.tracks.waitingMarriage = none ∨ enters = none → t.head = s.head ∧
          t.tracks.entry = (if enters = none then s.tracks.entry else none)) ∧
        (let begun : State := { s with out := [], sentFrame := [] }
          let checked := match s.pace.inForce with
            | some f => if cycle.toNat * 100 < f * 95 then produce (.paceFault cycle.toNat f) begun else begun
            | none => begun
          let paced := recomputePitch { checked with
            press := { s.press with pd := pressDemand t }, pace := { s.pace with inForce := some s.pace.commanded } }
          let pastes : Bool := match t.head with | .pasting _ _ => true | _ => false
          let stands (c : Cause) : State := produce (.lineState .stopped c)
            { send .driveStop paced with line := ⟨.stopped, some c⟩ }
          let closed :=
            if s.line.state = .stopping ∧ pastes = false then stands .stopDone
            else if s.line.state = .runningOut ∧ lineEmpty t = true then stands .runOutDone
            else paced
          SamePace closed t ∧ SameNotices closed t ∧ t.line = closed.line ∧ t.out = closed.out ∧ t.drive = closed.drive) ∧
        t.lanes = s.lanes ∧ t.marriageTimer = s.marriageTimer ∧ t.jackets = s.jackets ∧ t.params = s.params ∧
        t.readers = s.readers ∧ t.retiring = s.retiring ∧ SameTitles s t ∧ SameRequests s t ∧ t.ports = s.ports)) ∧
  (∀ s : State,
    let p := s.press.positions
    let demand (r : Nat) (place : Option Ticket) : Nat :=
      match place.bind (liveRecord · s) with
      | some b => (((b.dwell.getD 0 - b.eff.getD 0) * factor s + 99) / 100 + (r - 1)) / r + s.params.tX
      | none => 0
    (s.press.temp = none → factor s = 150) ∧
    (∀ v, s.press.temp = some v →
      (s.params.tRef ≤ v → factor s = 100) ∧
      (v < s.params.tRef → s.params.tRef ≤ v + 25 → factor s = 100 + 2 * (s.params.tRef - v)) ∧
      (25 ≤ s.params.tRef → v + 25 ≤ s.params.tRef → factor s = 150)) ∧
    pressDemand s = max (demand 6 s.tracks.entry) (max (demand 6 p.p1) (max (demand 5 p.p2) (max (demand 4 p.p3)
      (max (demand 3 p.p4) (max (demand 2 p.p5) (demand 1 p.p6)))))))

/-! ### Jacketing and delivery -/

/-- R65, R66, R142 to R144: a reading accepted at S5 waits while the delivery track is full; else the first row of R142 decides: in BYPASS
or with an empty sequence PASS; APPLY when the head is the book's key; SKIP n and APPLY when the key stands n places behind it, n at
most the skip limit; PASS otherwise. A passed book takes NO_JACKET and is handed into the delivery track, and a held index is tested. A
reading that waits at S5 is taken in the same way as soon as the delivery track has room, and not before. -/
def Obligations.BookArrivesAtTheJacketer : Prop :=
  (∀ (tk : Ticket) (more : List Ticket) (k : TitleKey) (rd : Reading Ticket) (s : State), Listens .s5 s →
    s.tracks.jacket = tk :: more → keyOf tk s = some k → rd = .named tk ∨ rd = .unreadable →
    s.readers.s5.last ≠ some tk → s.readers.s5.waiting ≠ some tk → s.readers.s5.unresolved = none →
    let s1 : State := { s with
      out := [], sentFrame := [], readers := { s.readers with s5 := { s.readers.s5 with last := some tk } } }
    let s2 := if rd = .unreadable then setFlag .unverified tk s1 else s1
    let passed : Host.Outcome State Fault Refusal := .next (finish (indexRetest
      { setStage .delivery tk (setFlag .noJacket tk s2) with
        out := [.s5Pass]
        tracks := { s.tracks with jacket := more.filter (fun x => !(x == tk)), delivery := s.tracks.delivery ++ [tk] }
        jackets := { s.jackets with state := .free } }))
    (2 ≤ s.tracks.delivery.length → exec (.bookArrived rd) s = .next (finish
      { s2 with readers := { s.readers with s5 := ⟨some tk, some tk, none⟩ } })) ∧
    (s.tracks.delivery.length < 2 →
      (s.jackets.mode = .bypass ∨ s.jackets.sequence = [] → exec (.bookArrived rd) s = passed) ∧
      (s.jackets.mode = .normal → s.jackets.sequence.head? = some k → exec (.bookArrived rd) s = .next (finish
        { s2 with out := [.s5Apply], jackets := { s.jackets with state := .verify tk } })) ∧
      (∀ n, s.jackets.mode = .normal → 1 ≤ n → n ≤ s.params.skipLimit → s.jackets.sequence[n]? = some k →
        (∀ j, j < n → s.jackets.sequence[j]? ≠ some k) → exec (.bookArrived rd) s = .next (finish
        { s2 with
          out := [.s5Skip n, .s5Apply]
          jackets := { s.jackets with sequence := s.jackets.sequence.drop n, state := .verify tk } })) ∧
      ((∀ j, j ≤ s.params.skipLimit → s.jackets.sequence[j]? ≠ some k) → exec (.bookArrived rd) s = passed))) ∧
  (∀ s : State, 2 ≤ s.tracks.delivery.length ∨ s.readers.s5.waiting = none → actWaitingS5 s = s) ∧
  (∀ (tk : Ticket) (k : TitleKey) (s : State), s.tracks.delivery.length < 2 → s.readers.s5.waiting = some tk →
    keyOf tk s = some k →
    let s1 : State := { s with readers := { s.readers with s5 := ⟨s.readers.s5.last, none, s.readers.s5.unresolved⟩ } }
    let passed : State := indexRetest
      { setStage .delivery tk (setFlag .noJacket tk s1) with
        out := s.out ++ [.s5Pass]
        tracks := { s.tracks with
          jacket := s.tracks.jacket.filter (fun x => !(x == tk)), delivery := s.tracks.delivery ++ [tk] }
        jackets := { s.jackets with state := .free } }
    (s.jackets.mode = .bypass ∨ s.jackets.sequence = [] → actWaitingS5 s = passed) ∧
    (s.jackets.mode = .normal → s.jackets.sequence.head? = some k → actWaitingS5 s =
      { s1 with out := s.out ++ [.s5Apply], jackets := { s.jackets with state := .verify tk } }) ∧
    (∀ n, s.jackets.mode = .normal → 1 ≤ n → n ≤ s.params.skipLimit → s.jackets.sequence[n]? = some k →
      (∀ j, j < n → s.jackets.sequence[j]? ≠ some k) → actWaitingS5 s =
      { s1 with
        out := s.out ++ [.s5Skip n, .s5Apply]
        jackets := { s.jackets with sequence := s.jackets.sequence.drop n, state := .verify tk } }) ∧
    ((∀ j, j ≤ s.params.skipLimit → s.jackets.sequence[j]? ≠ some k) → actWaitingS5 s = passed))

/-- R145 to R149: a JACKET_READ in VERIFY that names the head of the sequence sends GO; another sends SPOIL and raises the mismatch count,
and the third in a row puts the jacketer in BYPASS, with a Jacket Fault notice, and passes the book; outside VERIFY it is ignored. An
APPLIED for the book in APPLYING takes the head key out and hands the book over; a repeated one is ignored, any other is a Stray. -/
def Obligations.JacketsAreVerifiedAndApplied : Prop :=
  (∀ (rd : Reading TitleKey) (s : State), Listens .s5 s →
    let s0 : State := { s with out := [], sentFrame := [] }
    ((∀ tk, s.jackets.state ≠ .verify tk) → exec (.jacketRead rd) s = .next (noteSending s0)) ∧
    (∀ tk, s.jackets.state = .verify tk →
      (∀ k, s.jackets.sequence.head? = some k → rd = .named k → exec (.jacketRead rd) s = .next (noteSending
        { s0 with out := [.s5Go], jackets := { s.jackets with mismatch := 0, state := .applying tk } })) ∧
      ((∀ k, s.jackets.sequence.head? = some k → rd ≠ .named k) →
        (s.jackets.mismatch < 2 → exec (.jacketRead rd) s = .next (finish
          { s0 with out := [.s5Spoil], jackets := { s.jackets with mismatch := s.jackets.mismatch + 1 } })) ∧
        (2 ≤ s.jackets.mismatch → exec (.jacketRead rd) s = .next (finish (indexRetest
          { setStage .delivery tk (setFlag .noJacket tk (produce (.jacketFault s.jackets.sequence.head? rd) s0)) with
            out := [.s5Spoil, .s5Pass]
            tracks := { s.tracks with
              jacket := s.tracks.jacket.filter (fun x => !(x == tk)), delivery := s.tracks.delivery ++ [tk] }
            jackets := ⟨s.jackets.sequence, .bypass, 3, .free⟩ })))))) ∧
  (∀ (rd : Reading Ticket) (s : State), Listens .s5 s →
    let s0 : State := { s with out := [], sentFrame := [] }
    (∀ tk, rd = .named tk → s.jackets.state = .applying tk → exec (.applied rd) s = .next (finish (indexRetest
      { setStage .delivery tk s0 with
        tracks := { s.tracks with
          jacket := s.tracks.jacket.filter (fun x => !(x == tk)), delivery := s.tracks.delivery ++ [tk] }
        jackets := { s.jackets with sequence := s.jackets.sequence.tail, state := .free } }))) ∧
    (∀ tk r, rd = .named tk → s.jackets.state ≠ .applying tk → liveRecord tk s = some r → r.stage = .delivery →
      .noJacket ∉ r.flags → exec (.applied rd) s = .next (noteSending s0)) ∧
    ((∀ tk, rd = .named tk → s.jackets.state ≠ .applying tk ∧
        ∀ r, liveRecord tk s = some r → r.stage ≠ .delivery ∨ .noJacket ∈ r.flags) →
      exec (.applied rd) s = .next (noteSending (produce (.stray .s5 rd) s0))))

/-- R67, R155: a PASSED that names the head of the delivery track after its S6 reading was accepted retires the record, DELIVERED without
flags and else DIVERTED with them as reasons, and a waiting reading at S5 is taken; any other is a Stray. -/
def Obligations.PassedRetiresTheBook : Prop :=
  ∀ (rd : Reading Ticket) (s : State), Listens .s6 s →
    let s0 : State := { s with out := [], sentFrame := [] }
    (∀ tk r, rd = .named tk → s.tracks.delivery.head? = some tk → s.readers.s6.last = some tk → liveRecord tk s = some r →
      exec (.passed rd) s = .next (finish (actWaitingS5
        (retire tk (if r.flags = [] then .delivered else .diverted) none s0)))) ∧
    ((∀ tk, rd = .named tk →
        s.tracks.delivery.head? ≠ some tk ∨ s.readers.s6.last ≠ some tk ∨ liveRecord tk s = none) →
      exec (.passed rd) s = .next (noteSending (produce (.stray .s6 rd) s0)))

/-! ### What every step keeps -/

/-- The invariants of the part hold right after reset. -/
def Obligations.InvariantsHoldAtReset : Prop := Inv State.reset

/-- R8, R179, R181, R183 to R185: the queues of the line link stay within their places, ATTN follows the notice queue, notices wait only
while it is full, and the transmit arbiter sends what waits and nothing else: idle words, 0000h, when nothing waits. -/
def Obligations.LinkInvariantIsKept : Prop :=
  ∀ s t : State, step s = .next t → (LinkInv s → LinkInv t) ∧ (ArbiterInv s → ArbiterInv t)

/-- R1, R4, R8, R9, R10: at most 64 records of different tickets; the retirement order holds the records in RETIRING, each once; those
alone have an outcome, and divert reasons only with DIVERTED; no flag twice. -/
def Obligations.RecordInvariantIsKept : Prop :=
  ∀ s t : State, RecordInv s → step s = .next t → RecordInv t

/-- R27, R29, R33: every pin count is the number of records that rely on the entry, and every resolved TABLE record finds its entry; the
Pending Title List holds at most 8 keys, none twice and none valid, with the number of records that wait on each. -/
def Obligations.TitleInvariantsAreKept : Prop :=
  (∀ s t : State, RecordInv s → TitleInv s → step s = .next t → TitleInv t) ∧
  (∀ s t : State, RecordInv s → TitleInv s → PendingInv s → step s = .next t → PendingInv t)

/-- R51, R53, R72, R129, R135, R139, R146, R189: a HOLDING lane counts 1 to 10 cases, no key is held by both lanes, and an INITIAL purge
carries no key; tracks and jacket sequence stay within their capacities, the mismatch count reaches 3 only in BYPASS, every parameter
stays in its range, and the commanded pitch between P_min and P_max. -/
def Obligations.LanesAndBoundsAreKept : Prop :=
  (∀ s t : State, LaneInv s → step s = .next t → LaneInv t) ∧
  (∀ s t : State, step s = .next t →
    (TrackInv s → TrackInv t) ∧ (JacketInv s → JacketInv t) ∧ (PaceInv s → PaceInv t))

/-- R6, R54, R66, R93, R141: every record stands at exactly the place of its stage, once. -/
def Obligations.PlaceInvariantIsKept : Prop :=
  ∀ s t : State, RecordInv s → TrackInv s → PlaceInv s → step s = .next t → PlaceInv t

/-- R117, R118: the idle timer runs exactly while its conditions hold, and the press demand held is that of the books as they stand. -/
def Obligations.IdleTimerAndDemandAreKept : Prop :=
  ∀ s t : State, RecordInv s → PlaceInv s → step s = .next t →
    (IdleInv s → IdleInv t) ∧ (DemandInv s → DemandInv t)
end

