-- ==== Sys2Proof/Laws/Frames.lean ====
section
/-! SUPPORT. Frames: for each shared operation, every part of the state that it leaves as it was. -/

namespace Sys2Proof.Machine

/-- What `send` leaves as it was (R50). -/
@[simp] theorem send_frame (c : PortCommand) (s : State) :
    (send c s).pending = s.pending ∧ (send c s).records = s.records ∧ (send c s).retiring = s.retiring ∧
    (send c s).titles = s.titles ∧ (send c s).pendingTitles = s.pendingTitles ∧ (send c s).tracks = s.tracks ∧
    (send c s).readers = s.readers ∧ (send c s).lanes = s.lanes ∧ (send c s).head = s.head ∧
    (send c s).marriageTimer = s.marriageTimer ∧ (send c s).press = s.press ∧ (send c s).pace = s.pace ∧
    (send c s).jackets = s.jackets ∧ (send c s).line = s.line ∧ (send c s).params = s.params ∧ (send c s).link = s.link ∧
    (send c s).ports = s.ports ∧ (send c s).sentFrame = s.sentFrame ∧ (send c s).openChoices = s.openChoices := by
  generalize hx : send c s = x
  unfold send at hx
  split at hx <;> subst hx <;> simp

/-- What `openStep` leaves as it was (log 5). -/
@[simp] theorem openStep_frame (s : State) :
    (openStep s).pending = s.pending ∧ (openStep s).records = s.records ∧ (openStep s).retiring = s.retiring ∧
    (openStep s).titles = s.titles ∧ (openStep s).pendingTitles = s.pendingTitles ∧ (openStep s).tracks = s.tracks ∧
    (openStep s).readers = s.readers ∧ (openStep s).lanes = s.lanes ∧ (openStep s).head = s.head ∧
    (openStep s).marriageTimer = s.marriageTimer ∧ (openStep s).press = s.press ∧ (openStep s).pace = s.pace ∧
    (openStep s).jackets = s.jackets ∧ (openStep s).line = s.line ∧ (openStep s).params = s.params ∧
    (openStep s).link = s.link ∧ (openStep s).ports = s.ports ∧ (openStep s).drive = s.drive ∧
    (openStep s).openChoices = s.openChoices := by
  simp [openStep]

/-- What `enqueueNotice` leaves as it was (R183). -/
@[simp] theorem enqueueNotice_frame (e : NoticeEntry) (s : State) :
    (enqueueNotice e s).pending = s.pending ∧ (enqueueNotice e s).records = s.records ∧
    (enqueueNotice e s).retiring = s.retiring ∧ (enqueueNotice e s).titles = s.titles ∧
    (enqueueNotice e s).pendingTitles = s.pendingTitles ∧ (enqueueNotice e s).tracks = s.tracks ∧
    (enqueueNotice e s).readers = s.readers ∧ (enqueueNotice e s).lanes = s.lanes ∧ (enqueueNotice e s).head = s.head ∧
    (enqueueNotice e s).marriageTimer = s.marriageTimer ∧ (enqueueNotice e s).press = s.press ∧
    (enqueueNotice e s).pace = s.pace ∧ (enqueueNotice e s).jackets = s.jackets ∧ (enqueueNotice e s).line = s.line ∧
    (enqueueNotice e s).params = s.params ∧ (enqueueNotice e s).ports = s.ports ∧ (enqueueNotice e s).drive = s.drive ∧
    (enqueueNotice e s).out = s.out ∧ (enqueueNotice e s).sentFrame = s.sentFrame ∧
    (enqueueNotice e s).openChoices = s.openChoices := by
  simp [enqueueNotice]

/-- What `produce` leaves as it was (R183, R184). -/
@[simp] theorem produce_frame (n : Notice) (s : State) :
    (produce n s).pending = s.pending ∧ (produce n s).records = s.records ∧ (produce n s).retiring = s.retiring ∧
    (produce n s).titles = s.titles ∧ (produce n s).pendingTitles = s.pendingTitles ∧ (produce n s).tracks = s.tracks ∧
    (produce n s).readers = s.readers ∧ (produce n s).lanes = s.lanes ∧ (produce n s).head = s.head ∧
    (produce n s).marriageTimer = s.marriageTimer ∧ (produce n s).press = s.press ∧ (produce n s).pace = s.pace ∧
    (produce n s).jackets = s.jackets ∧ (produce n s).line = s.line ∧ (produce n s).params = s.params ∧
    (produce n s).ports = s.ports ∧ (produce n s).drive = s.drive ∧ (produce n s).out = s.out ∧
    (produce n s).sentFrame = s.sentFrame ∧ (produce n s).openChoices = s.openChoices := by
  generalize hx : produce n s = x
  unfold produce at hx
  split at hx <;> subst hx <;> simp

/-- What `putRecord` leaves as it was (R7). -/
@[simp] theorem putRecord_frame (r : BookRecord) (s : State) :
    (putRecord r s).pending = s.pending ∧ (putRecord r s).retiring = s.retiring ∧ (putRecord r s).titles = s.titles ∧
    (putRecord r s).pendingTitles = s.pendingTitles ∧ (putRecord r s).tracks = s.tracks ∧
    (putRecord r s).readers = s.readers ∧ (putRecord r s).lanes = s.lanes ∧ (putRecord r s).head = s.head ∧
    (putRecord r s).marriageTimer = s.marriageTimer ∧ (putRecord r s).press = s.press ∧ (putRecord r s).pace = s.pace ∧
    (putRecord r s).jackets = s.jackets ∧ (putRecord r s).line = s.line ∧ (putRecord r s).params = s.params ∧
    (putRecord r s).link = s.link ∧ (putRecord r s).ports = s.ports ∧ (putRecord r s).drive = s.drive ∧
    (putRecord r s).out = s.out ∧ (putRecord r s).sentFrame = s.sentFrame ∧ (putRecord r s).openChoices = s.openChoices := by
  simp [putRecord]

/-- What `changeRecord` leaves as it was (R7). -/
@[simp] theorem changeRecord_frame (t : Ticket) (f : BookRecord → BookRecord) (s : State) :
    (changeRecord t f s).pending = s.pending ∧ (changeRecord t f s).retiring = s.retiring ∧
    (changeRecord t f s).titles = s.titles ∧ (changeRecord t f s).pendingTitles = s.pendingTitles ∧
    (changeRecord t f s).tracks = s.tracks ∧ (changeRecord t f s).readers = s.readers ∧
    (changeRecord t f s).lanes = s.lanes ∧ (changeRecord t f s).head = s.head ∧
    (changeRecord t f s).marriageTimer = s.marriageTimer ∧ (changeRecord t f s).press = s.press ∧
    (changeRecord t f s).pace = s.pace ∧ (changeRecord t f s).jackets = s.jackets ∧ (changeRecord t f s).line = s.line ∧
    (changeRecord t f s).params = s.params ∧ (changeRecord t f s).link = s.link ∧ (changeRecord t f s).ports = s.ports ∧
    (changeRecord t f s).drive = s.drive ∧ (changeRecord t f s).out = s.out ∧ (changeRecord t f s).sentFrame = s.sentFrame ∧
    (changeRecord t f s).openChoices = s.openChoices := by
  generalize hx : changeRecord t f s = x
  unfold changeRecord at hx
  split at hx <;> subst hx <;> simp

/-- What `setFlag` leaves as it was (R4). -/
@[simp] theorem setFlag_frame (f : Flag) (t : Ticket) (s : State) :
    (setFlag f t s).pending = s.pending ∧ (setFlag f t s).retiring = s.retiring ∧ (setFlag f t s).titles = s.titles ∧
    (setFlag f t s).pendingTitles = s.pendingTitles ∧ (setFlag f t s).tracks = s.tracks ∧
    (setFlag f t s).readers = s.readers ∧ (setFlag f t s).lanes = s.lanes ∧ (setFlag f t s).head = s.head ∧
    (setFlag f t s).marriageTimer = s.marriageTimer ∧ (setFlag f t s).press = s.press ∧ (setFlag f t s).pace = s.pace ∧
    (setFlag f t s).jackets = s.jackets ∧ (setFlag f t s).line = s.line ∧ (setFlag f t s).params = s.params ∧
    (setFlag f t s).link = s.link ∧ (setFlag f t s).ports = s.ports ∧ (setFlag f t s).drive = s.drive ∧
    (setFlag f t s).out = s.out ∧ (setFlag f t s).sentFrame = s.sentFrame ∧ (setFlag f t s).openChoices = s.openChoices := by
  simp [setFlag]

/-- What `setStage` leaves as it was (R6). -/
@[simp] theorem setStage_frame (st : Stage) (t : Ticket) (s : State) :
    (setStage st t s).pending = s.pending ∧ (setStage st t s).retiring = s.retiring ∧ (setStage st t s).titles = s.titles ∧
    (setStage st t s).pendingTitles = s.pendingTitles ∧ (setStage st t s).tracks = s.tracks ∧
    (setStage st t s).readers = s.readers ∧ (setStage st t s).lanes = s.lanes ∧ (setStage st t s).head = s.head ∧
    (setStage st t s).marriageTimer = s.marriageTimer ∧ (setStage st t s).press = s.press ∧
    (setStage st t s).pace = s.pace ∧ (setStage st t s).jackets = s.jackets ∧ (setStage st t s).line = s.line ∧
    (setStage st t s).params = s.params ∧ (setStage st t s).link = s.link ∧ (setStage st t s).ports = s.ports ∧
    (setStage st t s).drive = s.drive ∧ (setStage st t s).out = s.out ∧ (setStage st t s).sentFrame = s.sentFrame ∧
    (setStage st t s).openChoices = s.openChoices := by
  simp [setStage]

/-- What `changeSet` leaves as it was (R27). -/
@[simp] theorem changeSet_frame (k : TitleKey) (f : TitleSet → TitleSet) (s : State) :
    (changeSet k f s).pending = s.pending ∧ (changeSet k f s).records = s.records ∧
    (changeSet k f s).retiring = s.retiring ∧ (changeSet k f s).pendingTitles = s.pendingTitles ∧
    (changeSet k f s).tracks = s.tracks ∧ (changeSet k f s).readers = s.readers ∧ (changeSet k f s).lanes = s.lanes ∧
    (changeSet k f s).head = s.head ∧ (changeSet k f s).marriageTimer = s.marriageTimer ∧
    (changeSet k f s).press = s.press ∧ (changeSet k f s).pace = s.pace ∧ (changeSet k f s).jackets = s.jackets ∧
    (changeSet k f s).line = s.line ∧ (changeSet k f s).params = s.params ∧ (changeSet k f s).link = s.link ∧
    (changeSet k f s).ports = s.ports ∧ (changeSet k f s).drive = s.drive ∧ (changeSet k f s).out = s.out ∧
    (changeSet k f s).sentFrame = s.sentFrame ∧ (changeSet k f s).openChoices = s.openChoices := by
  simp [changeSet]

/-- What `changeEntry` leaves as it was (R26). -/
@[simp] theorem changeEntry_frame (k : TitleKey) (f : TitleEntry → TitleEntry) (s : State) :
    (changeEntry k f s).pending = s.pending ∧ (changeEntry k f s).records = s.records ∧
    (changeEntry k f s).retiring = s.retiring ∧ (changeEntry k f s).pendingTitles = s.pendingTitles ∧
    (changeEntry k f s).tracks = s.tracks ∧ (changeEntry k f s).readers = s.readers ∧ (changeEntry k f s).lanes = s.lanes ∧
    (changeEntry k f s).head = s.head ∧ (changeEntry k f s).marriageTimer = s.marriageTimer ∧
    (changeEntry k f s).press = s.press ∧ (changeEntry k f s).pace = s.pace ∧ (changeEntry k f s).jackets = s.jackets ∧
    (changeEntry k f s).line = s.line ∧ (changeEntry k f s).params = s.params ∧ (changeEntry k f s).link = s.link ∧
    (changeEntry k f s).ports = s.ports ∧ (changeEntry k f s).drive = s.drive ∧ (changeEntry k f s).out = s.out ∧
    (changeEntry k f s).sentFrame = s.sentFrame ∧ (changeEntry k f s).openChoices = s.openChoices := by
  generalize hx : changeEntry k f s = x
  unfold changeEntry at hx
  split at hx <;> subst hx <;> simp

/-- What `pinTitle` leaves as it was (R29). -/
@[simp] theorem pinTitle_frame (k : TitleKey) (s : State) :
    (pinTitle k s).pending = s.pending ∧ (pinTitle k s).records = s.records ∧ (pinTitle k s).retiring = s.retiring ∧
    (pinTitle k s).pendingTitles = s.pendingTitles ∧ (pinTitle k s).tracks = s.tracks ∧ (pinTitle k s).readers = s.readers ∧
    (pinTitle k s).lanes = s.lanes ∧ (pinTitle k s).head = s.head ∧ (pinTitle k s).marriageTimer = s.marriageTimer ∧
    (pinTitle k s).press = s.press ∧ (pinTitle k s).pace = s.pace ∧ (pinTitle k s).jackets = s.jackets ∧
    (pinTitle k s).line = s.line ∧ (pinTitle k s).params = s.params ∧ (pinTitle k s).link = s.link ∧
    (pinTitle k s).ports = s.ports ∧ (pinTitle k s).drive = s.drive ∧ (pinTitle k s).out = s.out ∧
    (pinTitle k s).sentFrame = s.sentFrame ∧ (pinTitle k s).openChoices = s.openChoices := by
  simp [pinTitle]

/-- What `useTitle` leaves as it was (R28). -/
@[simp] theorem useTitle_frame (k : TitleKey) (s : State) :
    (useTitle k s).pending = s.pending ∧ (useTitle k s).records = s.records ∧ (useTitle k s).retiring = s.retiring ∧
    (useTitle k s).pendingTitles = s.pendingTitles ∧ (useTitle k s).tracks = s.tracks ∧ (useTitle k s).readers = s.readers ∧
    (useTitle k s).lanes = s.lanes ∧ (useTitle k s).head = s.head ∧ (useTitle k s).marriageTimer = s.marriageTimer ∧
    (useTitle k s).press = s.press ∧ (useTitle k s).pace = s.pace ∧ (useTitle k s).jackets = s.jackets ∧
    (useTitle k s).line = s.line ∧ (useTitle k s).params = s.params ∧ (useTitle k s).link = s.link ∧
    (useTitle k s).ports = s.ports ∧ (useTitle k s).drive = s.drive ∧ (useTitle k s).out = s.out ∧
    (useTitle k s).sentFrame = s.sentFrame ∧ (useTitle k s).openChoices = s.openChoices := by
  generalize hx : useTitle k s = x
  unfold useTitle at hx
  split at hx <;> subst hx <;> simp

/-- What `missTitle` leaves as it was (R34). -/
@[simp] theorem missTitle_frame (k : TitleKey) (s : State) :
    (missTitle k s).pending = s.pending ∧ (missTitle k s).records = s.records ∧ (missTitle k s).retiring = s.retiring ∧
    (missTitle k s).titles = s.titles ∧ (missTitle k s).tracks = s.tracks ∧ (missTitle k s).readers = s.readers ∧
    (missTitle k s).lanes = s.lanes ∧ (missTitle k s).head = s.head ∧ (missTitle k s).marriageTimer = s.marriageTimer ∧
    (missTitle k s).press = s.press ∧ (missTitle k s).pace = s.pace ∧ (missTitle k s).jackets = s.jackets ∧
    (missTitle k s).line = s.line ∧ (missTitle k s).params = s.params ∧ (missTitle k s).ports = s.ports ∧
    (missTitle k s).drive = s.drive ∧ (missTitle k s).out = s.out ∧ (missTitle k s).sentFrame = s.sentFrame ∧
    (missTitle k s).openChoices = s.openChoices := by
  generalize hx : missTitle k s = x
  unfold missTitle at hx
  split at hx <;> subst hx <;> simp

/-- What `stopWaiting` leaves as it was (R35). -/
@[simp] theorem stopWaiting_frame (k : TitleKey) (s : State) :
    (stopWaiting k s).pending = s.pending ∧ (stopWaiting k s).records = s.records ∧
    (stopWaiting k s).retiring = s.retiring ∧ (stopWaiting k s).titles = s.titles ∧ (stopWaiting k s).tracks = s.tracks ∧
    (stopWaiting k s).readers = s.readers ∧ (stopWaiting k s).lanes = s.lanes ∧ (stopWaiting k s).head = s.head ∧
    (stopWaiting k s).marriageTimer = s.marriageTimer ∧ (stopWaiting k s).press = s.press ∧
    (stopWaiting k s).pace = s.pace ∧ (stopWaiting k s).jackets = s.jackets ∧ (stopWaiting k s).line = s.line ∧
    (stopWaiting k s).params = s.params ∧ (stopWaiting k s).link = s.link ∧ (stopWaiting k s).ports = s.ports ∧
    (stopWaiting k s).drive = s.drive ∧ (stopWaiting k s).out = s.out ∧ (stopWaiting k s).sentFrame = s.sentFrame ∧
    (stopWaiting k s).openChoices = s.openChoices := by
  simp [stopWaiting]

/-- What `freeRecord` leaves as it was (R12). -/
@[simp] theorem freeRecord_frame (r : BookRecord) (s : State) :
    (freeRecord r s).pending = s.pending ∧ (freeRecord r s).pendingTitles = s.pendingTitles ∧
    (freeRecord r s).tracks = s.tracks ∧ (freeRecord r s).readers = s.readers ∧ (freeRecord r s).lanes = s.lanes ∧
    (freeRecord r s).head = s.head ∧ (freeRecord r s).marriageTimer = s.marriageTimer ∧ (freeRecord r s).press = s.press ∧
    (freeRecord r s).pace = s.pace ∧ (freeRecord r s).jackets = s.jackets ∧ (freeRecord r s).line = s.line ∧
    (freeRecord r s).params = s.params ∧ (freeRecord r s).link = s.link ∧ (freeRecord r s).ports = s.ports ∧
    (freeRecord r s).drive = s.drive ∧ (freeRecord r s).out = s.out ∧ (freeRecord r s).sentFrame = s.sentFrame ∧
    (freeRecord r s).openChoices = s.openChoices := by
  generalize hx : freeRecord r s = x
  unfold freeRecord at hx
  split at hx <;> subst hx <;> simp

/-- What `offerRetired` leaves as it was (R11). -/
@[simp] theorem offerRetired_frame (t : Ticket) (s : State) :
    (offerRetired t s).pending = s.pending ∧ (offerRetired t s).pendingTitles = s.pendingTitles ∧
    (offerRetired t s).tracks = s.tracks ∧ (offerRetired t s).readers = s.readers ∧ (offerRetired t s).lanes = s.lanes ∧
    (offerRetired t s).head = s.head ∧ (offerRetired t s).marriageTimer = s.marriageTimer ∧
    (offerRetired t s).press = s.press ∧ (offerRetired t s).pace = s.pace ∧ (offerRetired t s).jackets = s.jackets ∧
    (offerRetired t s).line = s.line ∧ (offerRetired t s).params = s.params ∧ (offerRetired t s).ports = s.ports ∧
    (offerRetired t s).drive = s.drive ∧ (offerRetired t s).out = s.out ∧ (offerRetired t s).sentFrame = s.sentFrame ∧
    (offerRetired t s).openChoices = s.openChoices := by
  generalize hx : offerRetired t s = x
  unfold offerRetired at hx
  split at hx <;> subst hx <;> simp

/-- What `offerAll` leaves as it was (R11). -/
@[simp] theorem offerAll_frame (ts : List Ticket) (s : State) :
    (offerAll ts s).pending = s.pending ∧ (offerAll ts s).pendingTitles = s.pendingTitles ∧
    (offerAll ts s).tracks = s.tracks ∧ (offerAll ts s).readers = s.readers ∧ (offerAll ts s).lanes = s.lanes ∧
    (offerAll ts s).head = s.head ∧ (offerAll ts s).marriageTimer = s.marriageTimer ∧ (offerAll ts s).press = s.press ∧
    (offerAll ts s).pace = s.pace ∧ (offerAll ts s).jackets = s.jackets ∧ (offerAll ts s).line = s.line ∧
    (offerAll ts s).params = s.params ∧ (offerAll ts s).ports = s.ports ∧ (offerAll ts s).drive = s.drive ∧
    (offerAll ts s).out = s.out ∧ (offerAll ts s).sentFrame = s.sentFrame ∧ (offerAll ts s).openChoices = s.openChoices := by
  induction ts generalizing s with
  | nil => simp [offerAll]
  | cons t ts ih => unfold offerAll; split <;> simp [ih]

/-- What `vacate` leaves as it was (R8). -/
@[simp] theorem vacate_frame (t : Ticket) (s : State) :
    (vacate t s).pending = s.pending ∧ (vacate t s).records = s.records ∧ (vacate t s).retiring = s.retiring ∧
    (vacate t s).titles = s.titles ∧ (vacate t s).pendingTitles = s.pendingTitles ∧ (vacate t s).readers = s.readers ∧
    (vacate t s).lanes = s.lanes ∧ (vacate t s).head = s.head ∧ (vacate t s).marriageTimer = s.marriageTimer ∧
    (vacate t s).pace = s.pace ∧ (vacate t s).jackets = s.jackets ∧ (vacate t s).line = s.line ∧
    (vacate t s).params = s.params ∧ (vacate t s).link = s.link ∧ (vacate t s).ports = s.ports ∧
    (vacate t s).drive = s.drive ∧ (vacate t s).out = s.out ∧ (vacate t s).sentFrame = s.sentFrame ∧
    (vacate t s).openChoices = s.openChoices := by
  simp [vacate]

/-- What `forgetTicket` leaves as it was (R66, R70). -/
@[simp] theorem forgetTicket_frame (t : Ticket) (s : State) :
    (forgetTicket t s).pending = s.pending ∧ (forgetTicket t s).records = s.records ∧
    (forgetTicket t s).retiring = s.retiring ∧ (forgetTicket t s).titles = s.titles ∧
    (forgetTicket t s).pendingTitles = s.pendingTitles ∧ (forgetTicket t s).lanes = s.lanes ∧
    (forgetTicket t s).head = s.head ∧ (forgetTicket t s).marriageTimer = s.marriageTimer ∧
    (forgetTicket t s).press = s.press ∧ (forgetTicket t s).pace = s.pace ∧ (forgetTicket t s).jackets = s.jackets ∧
    (forgetTicket t s).line = s.line ∧ (forgetTicket t s).params = s.params ∧ (forgetTicket t s).link = s.link ∧
    (forgetTicket t s).ports = s.ports ∧ (forgetTicket t s).drive = s.drive ∧ (forgetTicket t s).out = s.out ∧
    (forgetTicket t s).sentFrame = s.sentFrame ∧ (forgetTicket t s).openChoices = s.openChoices := by
  simp [forgetTicket]

/-- What `enterRetiring` leaves as it was (R8). -/
@[simp] theorem enterRetiring_frame (t : Ticket) (o : BookOutcome) (e : Option Reason) (s : State) :
    (enterRetiring t o e s).pending = s.pending ∧ (enterRetiring t o e s).titles = s.titles ∧
    (enterRetiring t o e s).lanes = s.lanes ∧ (enterRetiring t o e s).head = s.head ∧
    (enterRetiring t o e s).marriageTimer = s.marriageTimer ∧ (enterRetiring t o e s).pace = s.pace ∧
    (enterRetiring t o e s).jackets = s.jackets ∧ (enterRetiring t o e s).line = s.line ∧
    (enterRetiring t o e s).params = s.params ∧ (enterRetiring t o e s).link = s.link ∧
    (enterRetiring t o e s).ports = s.ports ∧ (enterRetiring t o e s).drive = s.drive ∧
    (enterRetiring t o e s).out = s.out ∧ (enterRetiring t o e s).sentFrame = s.sentFrame ∧
    (enterRetiring t o e s).openChoices = s.openChoices := by
  generalize hx : enterRetiring t o e s = x
  unfold enterRetiring at hx
  repeat' split at hx
  all_goals subst hx
  all_goals simp

/-- What `retire` leaves as it was (R8, R11). -/
@[simp] theorem retire_frame (t : Ticket) (o : BookOutcome) (e : Option Reason) (s : State) :
    (retire t o e s).pending = s.pending ∧ (retire t o e s).lanes = s.lanes ∧ (retire t o e s).head = s.head ∧
    (retire t o e s).marriageTimer = s.marriageTimer ∧ (retire t o e s).pace = s.pace ∧
    (retire t o e s).jackets = s.jackets ∧ (retire t o e s).line = s.line ∧ (retire t o e s).params = s.params ∧
    (retire t o e s).ports = s.ports ∧ (retire t o e s).drive = s.drive ∧ (retire t o e s).out = s.out ∧
    (retire t o e s).sentFrame = s.sentFrame ∧ (retire t o e s).openChoices = s.openChoices := by
  simp [retire]

/-- What `noteSending` leaves as it was (R181). -/
@[simp] theorem noteSending_frame (s : State) :
    (noteSending s).pending = s.pending ∧ (noteSending s).records = s.records ∧ (noteSending s).retiring = s.retiring ∧
    (noteSending s).titles = s.titles ∧ (noteSending s).pendingTitles = s.pendingTitles ∧
    (noteSending s).tracks = s.tracks ∧ (noteSending s).readers = s.readers ∧ (noteSending s).lanes = s.lanes ∧
    (noteSending s).head = s.head ∧ (noteSending s).marriageTimer = s.marriageTimer ∧ (noteSending s).press = s.press ∧
    (noteSending s).pace = s.pace ∧ (noteSending s).jackets = s.jackets ∧ (noteSending s).line = s.line ∧
    (noteSending s).params = s.params ∧ (noteSending s).ports = s.ports ∧ (noteSending s).drive = s.drive ∧
    (noteSending s).out = s.out ∧ (noteSending s).sentFrame = s.sentFrame ∧ (noteSending s).openChoices = s.openChoices := by
  generalize hx : noteSending s = x
  unfold noteSending at hx
  repeat' split at hx
  all_goals subst hx
  all_goals simp

/-- What `recomputePitch` leaves as it was (R128 to R132). -/
@[simp] theorem recomputePitch_frame (s : State) :
    (recomputePitch s).pending = s.pending ∧ (recomputePitch s).records = s.records ∧
    (recomputePitch s).retiring = s.retiring ∧ (recomputePitch s).titles = s.titles ∧
    (recomputePitch s).pendingTitles = s.pendingTitles ∧ (recomputePitch s).tracks = s.tracks ∧
    (recomputePitch s).readers = s.readers ∧ (recomputePitch s).lanes = s.lanes ∧ (recomputePitch s).head = s.head ∧
    (recomputePitch s).marriageTimer = s.marriageTimer ∧ (recomputePitch s).press = s.press ∧
    (recomputePitch s).jackets = s.jackets ∧ (recomputePitch s).line = s.line ∧ (recomputePitch s).params = s.params ∧
    (recomputePitch s).ports = s.ports ∧ (recomputePitch s).sentFrame = s.sentFrame ∧
    (recomputePitch s).openChoices = s.openChoices := by
  generalize hx : recomputePitch s = x
  unfold recomputePitch at hx
  dsimp only at hx
  split at hx <;> subst hx <;> simp

/-- What `recomputeDemand` leaves as it was (R117). -/
@[simp] theorem recomputeDemand_frame (s : State) :
    (recomputeDemand s).pending = s.pending ∧ (recomputeDemand s).records = s.records ∧
    (recomputeDemand s).retiring = s.retiring ∧ (recomputeDemand s).titles = s.titles ∧
    (recomputeDemand s).pendingTitles = s.pendingTitles ∧ (recomputeDemand s).tracks = s.tracks ∧
    (recomputeDemand s).readers = s.readers ∧ (recomputeDemand s).lanes = s.lanes ∧ (recomputeDemand s).head = s.head ∧
    (recomputeDemand s).marriageTimer = s.marriageTimer ∧ (recomputeDemand s).jackets = s.jackets ∧
    (recomputeDemand s).line = s.line ∧ (recomputeDemand s).params = s.params ∧ (recomputeDemand s).ports = s.ports ∧
    (recomputeDemand s).sentFrame = s.sentFrame ∧ (recomputeDemand s).openChoices = s.openChoices := by
  simp [recomputeDemand]

/-- What `resendPace` leaves as it was (R131). -/
@[simp] theorem resendPace_frame (s : State) :
    (resendPace s).pending = s.pending ∧ (resendPace s).records = s.records ∧ (resendPace s).retiring = s.retiring ∧
    (resendPace s).titles = s.titles ∧ (resendPace s).pendingTitles = s.pendingTitles ∧ (resendPace s).tracks = s.tracks ∧
    (resendPace s).readers = s.readers ∧ (resendPace s).lanes = s.lanes ∧ (resendPace s).head = s.head ∧
    (resendPace s).marriageTimer = s.marriageTimer ∧ (resendPace s).press = s.press ∧ (resendPace s).pace = s.pace ∧
    (resendPace s).jackets = s.jackets ∧ (resendPace s).line = s.line ∧ (resendPace s).params = s.params ∧
    (resendPace s).link = s.link ∧ (resendPace s).ports = s.ports ∧ (resendPace s).sentFrame = s.sentFrame ∧
    (resendPace s).openChoices = s.openChoices := by
  simp [resendPace]

/-- What `checkEarlyIndex` leaves as it was (R133). -/
@[simp] theorem checkEarlyIndex_frame (cycle : Nat) (s : State) :
    (checkEarlyIndex cycle s).pending = s.pending ∧ (checkEarlyIndex cycle s).records = s.records ∧
    (checkEarlyIndex cycle s).retiring = s.retiring ∧ (checkEarlyIndex cycle s).titles = s.titles ∧
    (checkEarlyIndex cycle s).pendingTitles = s.pendingTitles ∧ (checkEarlyIndex cycle s).tracks = s.tracks ∧
    (checkEarlyIndex cycle s).readers = s.readers ∧ (checkEarlyIndex cycle s).lanes = s.lanes ∧
    (checkEarlyIndex cycle s).head = s.head ∧ (checkEarlyIndex cycle s).marriageTimer = s.marriageTimer ∧
    (checkEarlyIndex cycle s).press = s.press ∧ (checkEarlyIndex cycle s).jackets = s.jackets ∧
    (checkEarlyIndex cycle s).line = s.line ∧ (checkEarlyIndex cycle s).params = s.params ∧
    (checkEarlyIndex cycle s).ports = s.ports ∧ (checkEarlyIndex cycle s).drive = s.drive ∧
    (checkEarlyIndex cycle s).out = s.out ∧ (checkEarlyIndex cycle s).sentFrame = s.sentFrame ∧
    (checkEarlyIndex cycle s).openChoices = s.openChoices := by
  generalize hx : checkEarlyIndex cycle s = x
  unfold checkEarlyIndex at hx
  repeat' split at hx
  all_goals subst hx
  all_goals simp

/-- What `setLine` leaves as it was (R159). -/
@[simp] theorem setLine_frame (st : LineState) (c : Cause) (s : State) :
    (setLine st c s).pending = s.pending ∧ (setLine st c s).records = s.records ∧ (setLine st c s).retiring = s.retiring ∧
    (setLine st c s).titles = s.titles ∧ (setLine st c s).pendingTitles = s.pendingTitles ∧
    (setLine st c s).tracks = s.tracks ∧ (setLine st c s).readers = s.readers ∧ (setLine st c s).lanes = s.lanes ∧
    (setLine st c s).head = s.head ∧ (setLine st c s).marriageTimer = s.marriageTimer ∧ (setLine st c s).press = s.press ∧
    (setLine st c s).pace = s.pace ∧ (setLine st c s).jackets = s.jackets ∧ (setLine st c s).params = s.params ∧
    (setLine st c s).ports = s.ports ∧ (setLine st c s).drive = s.drive ∧ (setLine st c s).out = s.out ∧
    (setLine st c s).sentFrame = s.sentFrame ∧ (setLine st c s).openChoices = s.openChoices := by
  simp [setLine]

/-- What `stopDrive` leaves as it was (R160). -/
@[simp] theorem stopDrive_frame (s : State) :
    (stopDrive s).pending = s.pending ∧ (stopDrive s).records = s.records ∧ (stopDrive s).retiring = s.retiring ∧
    (stopDrive s).titles = s.titles ∧ (stopDrive s).pendingTitles = s.pendingTitles ∧ (stopDrive s).tracks = s.tracks ∧
    (stopDrive s).readers = s.readers ∧ (stopDrive s).lanes = s.lanes ∧ (stopDrive s).head = s.head ∧
    (stopDrive s).marriageTimer = s.marriageTimer ∧ (stopDrive s).press = s.press ∧ (stopDrive s).pace = s.pace ∧
    (stopDrive s).jackets = s.jackets ∧ (stopDrive s).line = s.line ∧ (stopDrive s).params = s.params ∧
    (stopDrive s).link = s.link ∧ (stopDrive s).ports = s.ports ∧ (stopDrive s).sentFrame = s.sentFrame ∧
    (stopDrive s).openChoices = s.openChoices := by
  generalize hx : stopDrive s = x
  unfold stopDrive at hx
  split at hx <;> subst hx <;> simp

/-- What `haltPaste` leaves as it was (R96). -/
@[simp] theorem haltPaste_frame (s : State) :
    (haltPaste s).pending = s.pending ∧ (haltPaste s).retiring = s.retiring ∧ (haltPaste s).titles = s.titles ∧
    (haltPaste s).pendingTitles = s.pendingTitles ∧ (haltPaste s).tracks = s.tracks ∧ (haltPaste s).readers = s.readers ∧
    (haltPaste s).lanes = s.lanes ∧ (haltPaste s).head = s.head ∧ (haltPaste s).marriageTimer = s.marriageTimer ∧
    (haltPaste s).press = s.press ∧ (haltPaste s).pace = s.pace ∧ (haltPaste s).jackets = s.jackets ∧
    (haltPaste s).line = s.line ∧ (haltPaste s).params = s.params ∧ (haltPaste s).link = s.link ∧
    (haltPaste s).ports = s.ports ∧ (haltPaste s).sentFrame = s.sentFrame ∧ (haltPaste s).openChoices = s.openChoices := by
  generalize hx : haltPaste s = x
  unfold haltPaste at hx
  repeat' split at hx
  all_goals subst hx
  all_goals simp

/-- What `enterFault` leaves as it was (R170). -/
@[simp] theorem enterFault_frame (c : Cause) (s : State) :
    (enterFault c s).pending = s.pending ∧ (enterFault c s).retiring = s.retiring ∧ (enterFault c s).titles = s.titles ∧
    (enterFault c s).pendingTitles = s.pendingTitles ∧ (enterFault c s).tracks = s.tracks ∧
    (enterFault c s).readers = s.readers ∧ (enterFault c s).lanes = s.lanes ∧ (enterFault c s).head = s.head ∧
    (enterFault c s).marriageTimer = s.marriageTimer ∧ (enterFault c s).press = s.press ∧ (enterFault c s).pace = s.pace ∧
    (enterFault c s).jackets = s.jackets ∧ (enterFault c s).params = s.params ∧ (enterFault c s).ports = s.ports ∧
    (enterFault c s).sentFrame = s.sentFrame ∧ (enterFault c s).openChoices = s.openChoices := by
  generalize hx : enterFault c s = x
  unfold enterFault at hx
  split at hx <;> subst hx <;> simp

/-- What `softStopTest` leaves as it was (R165). -/
@[simp] theorem softStopTest_frame (s : State) :
    (softStopTest s).pending = s.pending ∧ (softStopTest s).records = s.records ∧ (softStopTest s).retiring = s.retiring ∧
    (softStopTest s).titles = s.titles ∧ (softStopTest s).pendingTitles = s.pendingTitles ∧
    (softStopTest s).tracks = s.tracks ∧ (softStopTest s).readers = s.readers ∧ (softStopTest s).lanes = s.lanes ∧
    (softStopTest s).head = s.head ∧ (softStopTest s).marriageTimer = s.marriageTimer ∧ (softStopTest s).press = s.press ∧
    (softStopTest s).pace = s.pace ∧ (softStopTest s).jackets = s.jackets ∧ (softStopTest s).params = s.params ∧
    (softStopTest s).ports = s.ports ∧ (softStopTest s).sentFrame = s.sentFrame ∧
    (softStopTest s).openChoices = s.openChoices := by
  generalize hx : softStopTest s = x
  unfold softStopTest at hx
  repeat' split at hx
  all_goals subst hx
  all_goals simp

/-- What `runOutTest` leaves as it was (R169). -/
@[simp] theorem runOutTest_frame (s : State) :
    (runOutTest s).pending = s.pending ∧ (runOutTest s).records = s.records ∧ (runOutTest s).retiring = s.retiring ∧
    (runOutTest s).titles = s.titles ∧ (runOutTest s).pendingTitles = s.pendingTitles ∧ (runOutTest s).tracks = s.tracks ∧
    (runOutTest s).readers = s.readers ∧ (runOutTest s).lanes = s.lanes ∧ (runOutTest s).head = s.head ∧
    (runOutTest s).marriageTimer = s.marriageTimer ∧ (runOutTest s).press = s.press ∧ (runOutTest s).pace = s.pace ∧
    (runOutTest s).jackets = s.jackets ∧ (runOutTest s).params = s.params ∧ (runOutTest s).ports = s.ports ∧
    (runOutTest s).sentFrame = s.sentFrame ∧ (runOutTest s).openChoices = s.openChoices := by
  generalize hx : runOutTest s = x
  unfold runOutTest at hx
  split at hx <;> subst hx <;> simp

/-- What `idleRefresh` leaves as it was (R118). -/
@[simp] theorem idleRefresh_frame (s : State) :
    (idleRefresh s).pending = s.pending ∧ (idleRefresh s).records = s.records ∧ (idleRefresh s).retiring = s.retiring ∧
    (idleRefresh s).titles = s.titles ∧ (idleRefresh s).pendingTitles = s.pendingTitles ∧
    (idleRefresh s).tracks = s.tracks ∧ (idleRefresh s).readers = s.readers ∧ (idleRefresh s).lanes = s.lanes ∧
    (idleRefresh s).head = s.head ∧ (idleRefresh s).marriageTimer = s.marriageTimer ∧ (idleRefresh s).pace = s.pace ∧
    (idleRefresh s).jackets = s.jackets ∧ (idleRefresh s).line = s.line ∧ (idleRefresh s).params = s.params ∧
    (idleRefresh s).link = s.link ∧ (idleRefresh s).ports = s.ports ∧ (idleRefresh s).drive = s.drive ∧
    (idleRefresh s).out = s.out ∧ (idleRefresh s).sentFrame = s.sentFrame ∧ (idleRefresh s).openChoices = s.openChoices := by
  simp [idleRefresh]

/-- What `settleLine` leaves as it was (R118, R169). -/
@[simp] theorem settleLine_frame (s : State) :
    (settleLine s).pending = s.pending ∧ (settleLine s).records = s.records ∧ (settleLine s).retiring = s.retiring ∧
    (settleLine s).titles = s.titles ∧ (settleLine s).pendingTitles = s.pendingTitles ∧ (settleLine s).tracks = s.tracks ∧
    (settleLine s).readers = s.readers ∧ (settleLine s).lanes = s.lanes ∧ (settleLine s).head = s.head ∧
    (settleLine s).marriageTimer = s.marriageTimer ∧ (settleLine s).pace = s.pace ∧ (settleLine s).jackets = s.jackets ∧
    (settleLine s).params = s.params ∧ (settleLine s).ports = s.ports ∧ (settleLine s).sentFrame = s.sentFrame ∧
    (settleLine s).openChoices = s.openChoices := by
  simp [settleLine]

/-- What `setPress` leaves as it was (R103). -/
@[simp] theorem setPress_frame (st : PressState) (s : State) :
    (setPress st s).pending = s.pending ∧ (setPress st s).records = s.records ∧ (setPress st s).retiring = s.retiring ∧
    (setPress st s).titles = s.titles ∧ (setPress st s).pendingTitles = s.pendingTitles ∧
    (setPress st s).tracks = s.tracks ∧ (setPress st s).readers = s.readers ∧ (setPress st s).lanes = s.lanes ∧
    (setPress st s).head = s.head ∧ (setPress st s).marriageTimer = s.marriageTimer ∧ (setPress st s).pace = s.pace ∧
    (setPress st s).jackets = s.jackets ∧ (setPress st s).line = s.line ∧ (setPress st s).params = s.params ∧
    (setPress st s).ports = s.ports ∧ (setPress st s).drive = s.drive ∧ (setPress st s).out = s.out ∧
    (setPress st s).sentFrame = s.sentFrame ∧ (setPress st s).openChoices = s.openChoices := by
  generalize hx : setPress st s = x
  unfold setPress at hx
  split at hx <;> subst hx <;> simp

/-- What `wakePress` leaves as it was (R119). -/
@[simp] theorem wakePress_frame (s : State) :
    (wakePress s).pending = s.pending ∧ (wakePress s).records = s.records ∧ (wakePress s).retiring = s.retiring ∧
    (wakePress s).titles = s.titles ∧ (wakePress s).pendingTitles = s.pendingTitles ∧ (wakePress s).tracks = s.tracks ∧
    (wakePress s).readers = s.readers ∧ (wakePress s).lanes = s.lanes ∧ (wakePress s).head = s.head ∧
    (wakePress s).marriageTimer = s.marriageTimer ∧ (wakePress s).pace = s.pace ∧ (wakePress s).jackets = s.jackets ∧
    (wakePress s).line = s.line ∧ (wakePress s).params = s.params ∧ (wakePress s).ports = s.ports ∧
    (wakePress s).sentFrame = s.sentFrame ∧ (wakePress s).openChoices = s.openChoices := by
  generalize hx : wakePress s = x
  unfold wakePress at hx
  split at hx <;> subst hx <;> simp

/-- What `admitHeld` leaves as it was (R60). -/
@[simp] theorem admitHeld_frame (t : Ticket) (s : State) :
    (admitHeld t s).pending = s.pending ∧ (admitHeld t s).retiring = s.retiring ∧ (admitHeld t s).titles = s.titles ∧
    (admitHeld t s).pendingTitles = s.pendingTitles ∧ (admitHeld t s).readers = s.readers ∧
    (admitHeld t s).lanes = s.lanes ∧ (admitHeld t s).head = s.head ∧ (admitHeld t s).marriageTimer = s.marriageTimer ∧
    (admitHeld t s).press = s.press ∧ (admitHeld t s).pace = s.pace ∧ (admitHeld t s).jackets = s.jackets ∧
    (admitHeld t s).line = s.line ∧ (admitHeld t s).params = s.params ∧ (admitHeld t s).link = s.link ∧
    (admitHeld t s).ports = s.ports ∧ (admitHeld t s).sentFrame = s.sentFrame ∧ (admitHeld t s).openChoices = s.openChoices := by
  simp [admitHeld]

/-- What `gateTest` leaves as it was (R60). -/
@[simp] theorem gateTest_frame (s : State) :
    (gateTest s).pending = s.pending ∧ (gateTest s).retiring = s.retiring ∧ (gateTest s).titles = s.titles ∧
    (gateTest s).pendingTitles = s.pendingTitles ∧ (gateTest s).readers = s.readers ∧ (gateTest s).lanes = s.lanes ∧
    (gateTest s).head = s.head ∧ (gateTest s).marriageTimer = s.marriageTimer ∧ (gateTest s).press = s.press ∧
    (gateTest s).pace = s.pace ∧ (gateTest s).jackets = s.jackets ∧ (gateTest s).line = s.line ∧
    (gateTest s).params = s.params ∧ (gateTest s).link = s.link ∧ (gateTest s).ports = s.ports ∧
    (gateTest s).sentFrame = s.sentFrame ∧ (gateTest s).openChoices = s.openChoices := by
  generalize hx : gateTest s = x
  unfold gateTest at hx
  repeat' split at hx
  all_goals subst hx
  all_goals simp

/-- What `setLane` leaves as it was (R72). -/
@[simp] theorem setLane_frame (i : LaneId) (x : Lane) (s : State) :
    (setLane i x s).pending = s.pending ∧ (setLane i x s).records = s.records ∧ (setLane i x s).retiring = s.retiring ∧
    (setLane i x s).titles = s.titles ∧ (setLane i x s).pendingTitles = s.pendingTitles ∧
    (setLane i x s).tracks = s.tracks ∧ (setLane i x s).readers = s.readers ∧ (setLane i x s).head = s.head ∧
    (setLane i x s).marriageTimer = s.marriageTimer ∧ (setLane i x s).press = s.press ∧ (setLane i x s).pace = s.pace ∧
    (setLane i x s).jackets = s.jackets ∧ (setLane i x s).line = s.line ∧ (setLane i x s).params = s.params ∧
    (setLane i x s).link = s.link ∧ (setLane i x s).ports = s.ports ∧ (setLane i x s).drive = s.drive ∧
    (setLane i x s).out = s.out ∧ (setLane i x s).sentFrame = s.sentFrame ∧ (setLane i x s).openChoices = s.openChoices := by
  simp [setLane]

/-- What `releaseLanes` leaves as it was (R76). -/
@[simp] theorem releaseLanes_frame (s : State) :
    (releaseLanes s).pending = s.pending ∧ (releaseLanes s).records = s.records ∧ (releaseLanes s).retiring = s.retiring ∧
    (releaseLanes s).titles = s.titles ∧ (releaseLanes s).pendingTitles = s.pendingTitles ∧
    (releaseLanes s).tracks = s.tracks ∧ (releaseLanes s).readers = s.readers ∧ (releaseLanes s).head = s.head ∧
    (releaseLanes s).marriageTimer = s.marriageTimer ∧ (releaseLanes s).press = s.press ∧ (releaseLanes s).pace = s.pace ∧
    (releaseLanes s).jackets = s.jackets ∧ (releaseLanes s).line = s.line ∧ (releaseLanes s).params = s.params ∧
    (releaseLanes s).link = s.link ∧ (releaseLanes s).ports = s.ports ∧ (releaseLanes s).drive = s.drive ∧
    (releaseLanes s).out = s.out ∧ (releaseLanes s).sentFrame = s.sentFrame ∧ (releaseLanes s).openChoices = s.openChoices := by
  simp [releaseLanes]

/-- What `takeCase` leaves as it was (R81). -/
@[simp] theorem takeCase_frame (t : Ticket) (l : LaneId) (k : TitleKey) (n : Nat) (s : State) :
    (takeCase t l k n s).pending = s.pending ∧ (takeCase t l k n s).retiring = s.retiring ∧
    (takeCase t l k n s).titles = s.titles ∧ (takeCase t l k n s).pendingTitles = s.pendingTitles ∧
    (takeCase t l k n s).tracks = s.tracks ∧ (takeCase t l k n s).readers = s.readers ∧
    (takeCase t l k n s).press = s.press ∧ (takeCase t l k n s).pace = s.pace ∧ (takeCase t l k n s).jackets = s.jackets ∧
    (takeCase t l k n s).line = s.line ∧ (takeCase t l k n s).params = s.params ∧ (takeCase t l k n s).link = s.link ∧
    (takeCase t l k n s).ports = s.ports ∧ (takeCase t l k n s).sentFrame = s.sentFrame ∧
    (takeCase t l k n s).openChoices = s.openChoices := by
  simp [takeCase]

/-- What `tryTakeCase` leaves as it was (R81). -/
@[simp] theorem tryTakeCase_frame (s : State) :
    (tryTakeCase s).pending = s.pending ∧ (tryTakeCase s).retiring = s.retiring ∧ (tryTakeCase s).titles = s.titles ∧
    (tryTakeCase s).pendingTitles = s.pendingTitles ∧ (tryTakeCase s).tracks = s.tracks ∧
    (tryTakeCase s).readers = s.readers ∧ (tryTakeCase s).press = s.press ∧ (tryTakeCase s).pace = s.pace ∧
    (tryTakeCase s).jackets = s.jackets ∧ (tryTakeCase s).line = s.line ∧ (tryTakeCase s).params = s.params ∧
    (tryTakeCase s).link = s.link ∧ (tryTakeCase s).ports = s.ports ∧ (tryTakeCase s).sentFrame = s.sentFrame ∧
    (tryTakeCase s).openChoices = s.openChoices := by
  generalize hx : tryTakeCase s = x
  unfold tryTakeCase at hx
  repeat' split at hx
  all_goals subst hx
  all_goals simp

/-- What `startPurge` leaves as it was (R84). -/
@[simp] theorem startPurge_frame (l : LaneId) (kind : PurgeKind) (c : Option TitleKey) (s : State) :
    (startPurge l kind c s).pending = s.pending ∧ (startPurge l kind c s).records = s.records ∧
    (startPurge l kind c s).retiring = s.retiring ∧ (startPurge l kind c s).titles = s.titles ∧
    (startPurge l kind c s).pendingTitles = s.pendingTitles ∧ (startPurge l kind c s).tracks = s.tracks ∧
    (startPurge l kind c s).readers = s.readers ∧ (startPurge l kind c s).head = s.head ∧
    (startPurge l kind c s).marriageTimer = s.marriageTimer ∧ (startPurge l kind c s).press = s.press ∧
    (startPurge l kind c s).pace = s.pace ∧ (startPurge l kind c s).jackets = s.jackets ∧
    (startPurge l kind c s).line = s.line ∧ (startPurge l kind c s).params = s.params ∧
    (startPurge l kind c s).link = s.link ∧ (startPurge l kind c s).ports = s.ports ∧
    (startPurge l kind c s).sentFrame = s.sentFrame ∧ (startPurge l kind c s).openChoices = s.openChoices := by
  simp [startPurge]

/-- What `laneDecision` leaves as it was (R80). -/
@[simp] theorem laneDecision_frame (t : Ticket) (k : TitleKey) (s : State) :
    (laneDecision t k s).pending = s.pending ∧ (laneDecision t k s).retiring = s.retiring ∧
    (laneDecision t k s).titles = s.titles ∧ (laneDecision t k s).pendingTitles = s.pendingTitles ∧
    (laneDecision t k s).tracks = s.tracks ∧ (laneDecision t k s).readers = s.readers ∧
    (laneDecision t k s).press = s.press ∧ (laneDecision t k s).pace = s.pace ∧ (laneDecision t k s).jackets = s.jackets ∧
    (laneDecision t k s).line = s.line ∧ (laneDecision t k s).params = s.params ∧ (laneDecision t k s).link = s.link ∧
    (laneDecision t k s).ports = s.ports ∧ (laneDecision t k s).sentFrame = s.sentFrame := by
  generalize hx : laneDecision t k s = x
  unfold laneDecision at hx
  repeat' split at hx
  all_goals subst hx
  all_goals simp

/-- What `decideAgain` leaves as it was (R80). -/
@[simp] theorem decideAgain_frame (s : State) :
    (decideAgain s).pending = s.pending ∧ (decideAgain s).retiring = s.retiring ∧ (decideAgain s).titles = s.titles ∧
    (decideAgain s).pendingTitles = s.pendingTitles ∧ (decideAgain s).tracks = s.tracks ∧
    (decideAgain s).readers = s.readers ∧ (decideAgain s).press = s.press ∧ (decideAgain s).pace = s.pace ∧
    (decideAgain s).jackets = s.jackets ∧ (decideAgain s).line = s.line ∧ (decideAgain s).params = s.params ∧
    (decideAgain s).link = s.link ∧ (decideAgain s).ports = s.ports ∧ (decideAgain s).sentFrame = s.sentFrame := by
  generalize hx : decideAgain s = x
  unfold decideAgain at hx
  repeat' split at hx
  all_goals subst hx
  all_goals simp

/-- What `releaseCheck` leaves as it was (R76). -/
@[simp] theorem releaseCheck_frame (s : State) :
    (releaseCheck s).pending = s.pending ∧ (releaseCheck s).retiring = s.retiring ∧ (releaseCheck s).titles = s.titles ∧
    (releaseCheck s).pendingTitles = s.pendingTitles ∧ (releaseCheck s).tracks = s.tracks ∧
    (releaseCheck s).readers = s.readers ∧ (releaseCheck s).press = s.press ∧ (releaseCheck s).pace = s.pace ∧
    (releaseCheck s).jackets = s.jackets ∧ (releaseCheck s).line = s.line ∧ (releaseCheck s).params = s.params ∧
    (releaseCheck s).link = s.link ∧ (releaseCheck s).ports = s.ports ∧ (releaseCheck s).sentFrame = s.sentFrame := by
  generalize hx : releaseCheck s = x
  unfold releaseCheck at hx
  dsimp only at hx
  split at hx <;> subst hx <;> simp

/-- What `leaveInfeed` leaves as it was (R79). -/
@[simp] theorem leaveInfeed_frame (t : Ticket) (s : State) :
    (leaveInfeed t s).pending = s.pending ∧ (leaveInfeed t s).retiring = s.retiring ∧ (leaveInfeed t s).titles = s.titles ∧
    (leaveInfeed t s).pendingTitles = s.pendingTitles ∧ (leaveInfeed t s).readers = s.readers ∧
    (leaveInfeed t s).lanes = s.lanes ∧ (leaveInfeed t s).head = s.head ∧
    (leaveInfeed t s).marriageTimer = s.marriageTimer ∧ (leaveInfeed t s).press = s.press ∧
    (leaveInfeed t s).pace = s.pace ∧ (leaveInfeed t s).jackets = s.jackets ∧ (leaveInfeed t s).line = s.line ∧
    (leaveInfeed t s).params = s.params ∧ (leaveInfeed t s).link = s.link ∧ (leaveInfeed t s).ports = s.ports ∧
    (leaveInfeed t s).sentFrame = s.sentFrame ∧ (leaveInfeed t s).openChoices = s.openChoices := by
  simp [leaveInfeed]

/-- What `startWait` leaves as it was (R90). -/
@[simp] theorem startWait_frame (s : State) :
    (startWait s).pending = s.pending ∧ (startWait s).records = s.records ∧ (startWait s).retiring = s.retiring ∧
    (startWait s).titles = s.titles ∧ (startWait s).pendingTitles = s.pendingTitles ∧ (startWait s).tracks = s.tracks ∧
    (startWait s).readers = s.readers ∧ (startWait s).lanes = s.lanes ∧ (startWait s).head = s.head ∧
    (startWait s).press = s.press ∧ (startWait s).pace = s.pace ∧ (startWait s).jackets = s.jackets ∧
    (startWait s).line = s.line ∧ (startWait s).params = s.params ∧ (startWait s).link = s.link ∧
    (startWait s).ports = s.ports ∧ (startWait s).drive = s.drive ∧ (startWait s).out = s.out ∧
    (startWait s).sentFrame = s.sentFrame ∧ (startWait s).openChoices = s.openChoices := by
  simp [startWait]

/-- What `arrive` leaves as it was (R79). -/
@[simp] theorem arrive_frame (t : Ticket) (s : State) :
    (arrive t s).pending = s.pending ∧ (arrive t s).pace = s.pace ∧ (arrive t s).jackets = s.jackets ∧
    (arrive t s).line = s.line ∧ (arrive t s).params = s.params ∧ (arrive t s).ports = s.ports ∧
    (arrive t s).sentFrame = s.sentFrame := by
  generalize hx : arrive t s = x
  unfold arrive at hx
  dsimp only at hx
  repeat' split at hx
  all_goals subst hx
  all_goals simp

/-- What `actWaitingS3` leaves as it was (R66). -/
@[simp] theorem actWaitingS3_frame (s : State) :
    (actWaitingS3 s).pending = s.pending ∧ (actWaitingS3 s).pace = s.pace ∧ (actWaitingS3 s).jackets = s.jackets ∧
    (actWaitingS3 s).line = s.line ∧ (actWaitingS3 s).params = s.params ∧ (actWaitingS3 s).ports = s.ports ∧
    (actWaitingS3 s).sentFrame = s.sentFrame := by
  generalize hx : actWaitingS3 s = x
  unfold actWaitingS3 at hx
  repeat' split at hx
  all_goals subst hx
  all_goals simp

/-- What `clearHead` leaves as it was (R91). -/
@[simp] theorem clearHead_frame (s : State) :
    (clearHead s).pending = s.pending ∧ (clearHead s).records = s.records ∧ (clearHead s).retiring = s.retiring ∧
    (clearHead s).titles = s.titles ∧ (clearHead s).pendingTitles = s.pendingTitles ∧ (clearHead s).tracks = s.tracks ∧
    (clearHead s).readers = s.readers ∧ (clearHead s).lanes = s.lanes ∧ (clearHead s).press = s.press ∧
    (clearHead s).pace = s.pace ∧ (clearHead s).jackets = s.jackets ∧ (clearHead s).line = s.line ∧
    (clearHead s).params = s.params ∧ (clearHead s).link = s.link ∧ (clearHead s).ports = s.ports ∧
    (clearHead s).drive = s.drive ∧ (clearHead s).out = s.out ∧ (clearHead s).sentFrame = s.sentFrame ∧
    (clearHead s).openChoices = s.openChoices := by
  simp [clearHead]

/-- What `ejectHead` leaves as it was (R91). -/
@[simp] theorem ejectHead_frame (t : Ticket) (why : Reason) (s : State) :
    (ejectHead t why s).pending = s.pending ∧ (ejectHead t why s).pace = s.pace ∧ (ejectHead t why s).jackets = s.jackets ∧
    (ejectHead t why s).line = s.line ∧ (ejectHead t why s).params = s.params ∧ (ejectHead t why s).ports = s.ports ∧
    (ejectHead t why s).sentFrame = s.sentFrame := by
  simp [ejectHead]

/-- What `refuseGated` leaves as it was (R58). -/
@[simp] theorem refuseGated_frame (t : Ticket) (s : State) :
    (refuseGated t s).pending = s.pending ∧ (refuseGated t s).lanes = s.lanes ∧ (refuseGated t s).head = s.head ∧
    (refuseGated t s).marriageTimer = s.marriageTimer ∧ (refuseGated t s).pace = s.pace ∧
    (refuseGated t s).jackets = s.jackets ∧ (refuseGated t s).line = s.line ∧ (refuseGated t s).params = s.params ∧
    (refuseGated t s).ports = s.ports ∧ (refuseGated t s).sentFrame = s.sentFrame ∧
    (refuseGated t s).openChoices = s.openChoices := by
  simp [refuseGated]

/-- What `markWrong` leaves as it was (R61). -/
@[simp] theorem markWrong_frame (t : Ticket) (s : State) :
    (markWrong t s).pending = s.pending ∧ (markWrong t s).records = s.records ∧ (markWrong t s).retiring = s.retiring ∧
    (markWrong t s).titles = s.titles ∧ (markWrong t s).pendingTitles = s.pendingTitles ∧
    (markWrong t s).readers = s.readers ∧ (markWrong t s).lanes = s.lanes ∧ (markWrong t s).head = s.head ∧
    (markWrong t s).marriageTimer = s.marriageTimer ∧ (markWrong t s).press = s.press ∧ (markWrong t s).pace = s.pace ∧
    (markWrong t s).jackets = s.jackets ∧ (markWrong t s).line = s.line ∧ (markWrong t s).params = s.params ∧
    (markWrong t s).link = s.link ∧ (markWrong t s).ports = s.ports ∧ (markWrong t s).drive = s.drive ∧
    (markWrong t s).out = s.out ∧ (markWrong t s).sentFrame = s.sentFrame ∧ (markWrong t s).openChoices = s.openChoices := by
  simp [markWrong]

/-- What `announceResolved` leaves as it was (R5). -/
@[simp] theorem announceResolved_frame (t : Ticket) (s : State) :
    (announceResolved t s).pending = s.pending ∧ (announceResolved t s).pace = s.pace ∧
    (announceResolved t s).jackets = s.jackets ∧ (announceResolved t s).line = s.line ∧
    (announceResolved t s).params = s.params ∧ (announceResolved t s).ports = s.ports ∧
    (announceResolved t s).sentFrame = s.sentFrame := by
  generalize hx : announceResolved t s = x
  unfold announceResolved at hx
  repeat' split at hx
  all_goals subst hx
  all_goals simp

/-- What `headGivesUp` leaves as it was (R95). -/
@[simp] theorem headGivesUp_frame (t : Ticket) (s : State) :
    (headGivesUp t s).pending = s.pending ∧ (headGivesUp t s).pace = s.pace ∧ (headGivesUp t s).jackets = s.jackets ∧
    (headGivesUp t s).line = s.line ∧ (headGivesUp t s).params = s.params ∧ (headGivesUp t s).ports = s.ports ∧
    (headGivesUp t s).sentFrame = s.sentFrame := by
  generalize hx : headGivesUp t s = x
  unfold headGivesUp at hx
  repeat' split at hx
  all_goals subst hx
  all_goals simp

/-- What `sendIndexGo` leaves as it was (R110). -/
@[simp] theorem sendIndexGo_frame (s : State) :
    (sendIndexGo s).pending = s.pending ∧ (sendIndexGo s).pace = s.pace ∧ (sendIndexGo s).jackets = s.jackets ∧
    (sendIndexGo s).line = s.line ∧ (sendIndexGo s).params = s.params ∧ (sendIndexGo s).ports = s.ports ∧
    (sendIndexGo s).sentFrame = s.sentFrame := by
  generalize hx : sendIndexGo s = x
  unfold sendIndexGo at hx
  split at hx <;> subst hx <;> simp

/-- What `indexRetest` leaves as it was (R108). -/
@[simp] theorem indexRetest_frame (s : State) :
    (indexRetest s).pending = s.pending ∧ (indexRetest s).pace = s.pace ∧ (indexRetest s).jackets = s.jackets ∧
    (indexRetest s).line = s.line ∧ (indexRetest s).params = s.params ∧ (indexRetest s).ports = s.ports ∧
    (indexRetest s).sentFrame = s.sentFrame := by
  generalize hx : indexRetest s = x
  unfold indexRetest at hx
  split at hx <;> subst hx <;> simp

/-- What `takeMarriage` leaves as it was (R93). -/
@[simp] theorem takeMarriage_frame (t : Ticket) (l : LaneId) (s : State) :
    (takeMarriage t l s).pending = s.pending ∧ (takeMarriage t l s).retiring = s.retiring ∧
    (takeMarriage t l s).titles = s.titles ∧ (takeMarriage t l s).pendingTitles = s.pendingTitles ∧
    (takeMarriage t l s).readers = s.readers ∧ (takeMarriage t l s).lanes = s.lanes ∧
    (takeMarriage t l s).marriageTimer = s.marriageTimer ∧ (takeMarriage t l s).press = s.press ∧
    (takeMarriage t l s).pace = s.pace ∧ (takeMarriage t l s).jackets = s.jackets ∧ (takeMarriage t l s).line = s.line ∧
    (takeMarriage t l s).params = s.params ∧ (takeMarriage t l s).link = s.link ∧ (takeMarriage t l s).ports = s.ports ∧
    (takeMarriage t l s).drive = s.drive ∧ (takeMarriage t l s).out = s.out ∧ (takeMarriage t l s).sentFrame = s.sentFrame ∧
    (takeMarriage t l s).openChoices = s.openChoices := by
  simp [takeMarriage]

/-- What `takeWaiting` leaves as it was (R54). -/
@[simp] theorem takeWaiting_frame (s : State) :
    (takeWaiting s).pending = s.pending ∧ (takeWaiting s).retiring = s.retiring ∧ (takeWaiting s).titles = s.titles ∧
    (takeWaiting s).pendingTitles = s.pendingTitles ∧ (takeWaiting s).readers = s.readers ∧
    (takeWaiting s).lanes = s.lanes ∧ (takeWaiting s).marriageTimer = s.marriageTimer ∧ (takeWaiting s).press = s.press ∧
    (takeWaiting s).pace = s.pace ∧ (takeWaiting s).jackets = s.jackets ∧ (takeWaiting s).line = s.line ∧
    (takeWaiting s).params = s.params ∧ (takeWaiting s).link = s.link ∧ (takeWaiting s).ports = s.ports ∧
    (takeWaiting s).drive = s.drive ∧ (takeWaiting s).out = s.out ∧ (takeWaiting s).sentFrame = s.sentFrame ∧
    (takeWaiting s).openChoices = s.openChoices := by
  generalize hx : takeWaiting s = x
  unfold takeWaiting at hx
  repeat' split at hx
  all_goals subst hx
  all_goals simp

/-- What `changeEach` leaves as it was (R7). -/
@[simp] theorem changeEach_frame (ts : List Ticket) (f : BookRecord → BookRecord) (s : State) :
    (changeEach ts f s).pending = s.pending ∧ (changeEach ts f s).retiring = s.retiring ∧
    (changeEach ts f s).titles = s.titles ∧ (changeEach ts f s).pendingTitles = s.pendingTitles ∧
    (changeEach ts f s).tracks = s.tracks ∧ (changeEach ts f s).readers = s.readers ∧ (changeEach ts f s).lanes = s.lanes ∧
    (changeEach ts f s).head = s.head ∧ (changeEach ts f s).marriageTimer = s.marriageTimer ∧
    (changeEach ts f s).press = s.press ∧ (changeEach ts f s).pace = s.pace ∧ (changeEach ts f s).jackets = s.jackets ∧
    (changeEach ts f s).line = s.line ∧ (changeEach ts f s).params = s.params ∧ (changeEach ts f s).link = s.link ∧
    (changeEach ts f s).ports = s.ports ∧ (changeEach ts f s).drive = s.drive ∧ (changeEach ts f s).out = s.out ∧
    (changeEach ts f s).sentFrame = s.sentFrame ∧ (changeEach ts f s).openChoices = s.openChoices := by
  induction ts generalizing s with
  | nil => simp [changeEach]
  | cons t ts ih => simpa [changeEach] using ih (changeRecord t f s)

/-- What `creditStep` leaves as it was (R112). -/
@[simp] theorem creditStep_frame (m : Nat) (s : State) :
    (creditStep m s).pending = s.pending ∧ (creditStep m s).retiring = s.retiring ∧ (creditStep m s).titles = s.titles ∧
    (creditStep m s).pendingTitles = s.pendingTitles ∧ (creditStep m s).tracks = s.tracks ∧
    (creditStep m s).readers = s.readers ∧ (creditStep m s).lanes = s.lanes ∧ (creditStep m s).head = s.head ∧
    (creditStep m s).marriageTimer = s.marriageTimer ∧ (creditStep m s).press = s.press ∧ (creditStep m s).pace = s.pace ∧
    (creditStep m s).jackets = s.jackets ∧ (creditStep m s).line = s.line ∧ (creditStep m s).params = s.params ∧
    (creditStep m s).link = s.link ∧ (creditStep m s).ports = s.ports ∧ (creditStep m s).drive = s.drive ∧
    (creditStep m s).out = s.out ∧ (creditStep m s).sentFrame = s.sentFrame ∧ (creditStep m s).openChoices = s.openChoices := by
  simp [creditStep]

/-- What `exitStep` leaves as it was (R113). -/
@[simp] theorem exitStep_frame (s : State) :
    (exitStep s).pending = s.pending ∧ (exitStep s).retiring = s.retiring ∧ (exitStep s).titles = s.titles ∧
    (exitStep s).pendingTitles = s.pendingTitles ∧ (exitStep s).readers = s.readers ∧ (exitStep s).lanes = s.lanes ∧
    (exitStep s).head = s.head ∧ (exitStep s).marriageTimer = s.marriageTimer ∧ (exitStep s).pace = s.pace ∧
    (exitStep s).jackets = s.jackets ∧ (exitStep s).line = s.line ∧ (exitStep s).params = s.params ∧
    (exitStep s).link = s.link ∧ (exitStep s).ports = s.ports ∧ (exitStep s).drive = s.drive ∧ (exitStep s).out = s.out ∧
    (exitStep s).sentFrame = s.sentFrame ∧ (exitStep s).openChoices = s.openChoices := by
  generalize hx : exitStep s = x
  unfold exitStep at hx
  split at hx <;> subst hx <;> simp

/-- What `moveStep` leaves as it was (R114). -/
@[simp] theorem moveStep_frame (s : State) :
    (moveStep s).pending = s.pending ∧ (moveStep s).retiring = s.retiring ∧ (moveStep s).titles = s.titles ∧
    (moveStep s).pendingTitles = s.pendingTitles ∧ (moveStep s).readers = s.readers ∧ (moveStep s).lanes = s.lanes ∧
    (moveStep s).marriageTimer = s.marriageTimer ∧ (moveStep s).pace = s.pace ∧ (moveStep s).jackets = s.jackets ∧
    (moveStep s).line = s.line ∧ (moveStep s).params = s.params ∧ (moveStep s).link = s.link ∧
    (moveStep s).ports = s.ports ∧ (moveStep s).drive = s.drive ∧ (moveStep s).out = s.out ∧
    (moveStep s).sentFrame = s.sentFrame ∧ (moveStep s).openChoices = s.openChoices := by
  generalize hx : moveStep s = x
  unfold moveStep at hx
  split at hx <;> subst hx <;> simp

/-- What `handOver` leaves as it was (R144, R149). -/
@[simp] theorem handOver_frame (t : Ticket) (s : State) :
    (handOver t s).pending = s.pending ∧ (handOver t s).pace = s.pace ∧ (handOver t s).line = s.line ∧
    (handOver t s).params = s.params ∧ (handOver t s).ports = s.ports ∧ (handOver t s).sentFrame = s.sentFrame := by
  simp [handOver]

/-- What `passBook` leaves as it was (R144). -/
@[simp] theorem passBook_frame (t : Ticket) (s : State) :
    (passBook t s).pending = s.pending ∧ (passBook t s).pace = s.pace ∧ (passBook t s).line = s.line ∧
    (passBook t s).params = s.params ∧ (passBook t s).ports = s.ports ∧ (passBook t s).sentFrame = s.sentFrame := by
  simp [passBook]

/-- What `beginVerify` leaves as it was (R142). -/
@[simp] theorem beginVerify_frame (t : Ticket) (s : State) :
    (beginVerify t s).pending = s.pending ∧ (beginVerify t s).records = s.records ∧
    (beginVerify t s).retiring = s.retiring ∧ (beginVerify t s).titles = s.titles ∧
    (beginVerify t s).pendingTitles = s.pendingTitles ∧ (beginVerify t s).tracks = s.tracks ∧
    (beginVerify t s).readers = s.readers ∧ (beginVerify t s).lanes = s.lanes ∧ (beginVerify t s).head = s.head ∧
    (beginVerify t s).marriageTimer = s.marriageTimer ∧ (beginVerify t s).press = s.press ∧
    (beginVerify t s).pace = s.pace ∧ (beginVerify t s).line = s.line ∧ (beginVerify t s).params = s.params ∧
    (beginVerify t s).link = s.link ∧ (beginVerify t s).ports = s.ports ∧ (beginVerify t s).sentFrame = s.sentFrame ∧
    (beginVerify t s).openChoices = s.openChoices := by
  simp [beginVerify]

/-- What `jacketArrival` leaves as it was (R142). -/
@[simp] theorem jacketArrival_frame (t : Ticket) (s : State) :
    (jacketArrival t s).pending = s.pending ∧ (jacketArrival t s).pace = s.pace ∧ (jacketArrival t s).line = s.line ∧
    (jacketArrival t s).params = s.params ∧ (jacketArrival t s).ports = s.ports ∧ (jacketArrival t s).sentFrame = s.sentFrame := by
  generalize hx : jacketArrival t s = x
  unfold jacketArrival at hx
  repeat' split at hx
  all_goals subst hx
  all_goals simp

/-- What `actWaitingS5` leaves as it was (R66). -/
@[simp] theorem actWaitingS5_frame (s : State) :
    (actWaitingS5 s).pending = s.pending ∧ (actWaitingS5 s).pace = s.pace ∧ (actWaitingS5 s).line = s.line ∧
    (actWaitingS5 s).params = s.params ∧ (actWaitingS5 s).ports = s.ports ∧ (actWaitingS5 s).sentFrame = s.sentFrame := by
  generalize hx : actWaitingS5 s = x
  unfold actWaitingS5 at hx
  repeat' split at hx
  all_goals subst hx
  all_goals simp

/-- What `enterBypass` leaves as it was (R147). -/
@[simp] theorem enterBypass_frame (t : Ticket) (x : Reading TitleKey) (s : State) :
    (enterBypass t x s).pending = s.pending ∧ (enterBypass t x s).pace = s.pace ∧ (enterBypass t x s).line = s.line ∧
    (enterBypass t x s).params = s.params ∧ (enterBypass t x s).ports = s.ports ∧ (enterBypass t x s).sentFrame = s.sentFrame := by
  simp [enterBypass]

/-- What `jacketMismatch` leaves as it was (R146). -/
@[simp] theorem jacketMismatch_frame (t : Ticket) (x : Reading TitleKey) (s : State) :
    (jacketMismatch t x s).pending = s.pending ∧ (jacketMismatch t x s).pace = s.pace ∧
    (jacketMismatch t x s).line = s.line ∧ (jacketMismatch t x s).params = s.params ∧
    (jacketMismatch t x s).ports = s.ports ∧ (jacketMismatch t x s).sentFrame = s.sentFrame := by
  generalize hx : jacketMismatch t x s = x
  unfold jacketMismatch at hx
  dsimp only at hx
  split at hx <;> subst hx <;> simp

/-- What `setReader` leaves as it was (R63). -/
@[simp] theorem setReader_frame (i : ReaderId) (r : Reader) (s : State) :
    (setReader i r s).pending = s.pending ∧ (setReader i r s).records = s.records ∧
    (setReader i r s).retiring = s.retiring ∧ (setReader i r s).titles = s.titles ∧
    (setReader i r s).pendingTitles = s.pendingTitles ∧ (setReader i r s).tracks = s.tracks ∧
    (setReader i r s).lanes = s.lanes ∧ (setReader i r s).head = s.head ∧
    (setReader i r s).marriageTimer = s.marriageTimer ∧ (setReader i r s).press = s.press ∧
    (setReader i r s).pace = s.pace ∧ (setReader i r s).jackets = s.jackets ∧ (setReader i r s).line = s.line ∧
    (setReader i r s).params = s.params ∧ (setReader i r s).link = s.link ∧ (setReader i r s).ports = s.ports ∧
    (setReader i r s).drive = s.drive ∧ (setReader i r s).out = s.out ∧ (setReader i r s).sentFrame = s.sentFrame ∧
    (setReader i r s).openChoices = s.openChoices := by
  simp [setReader]

/-- What `keepWaiting` leaves as it was (R66). -/
@[simp] theorem keepWaiting_frame (i : ReaderId) (t : Ticket) (s : State) :
    (keepWaiting i t s).pending = s.pending ∧ (keepWaiting i t s).records = s.records ∧
    (keepWaiting i t s).retiring = s.retiring ∧ (keepWaiting i t s).titles = s.titles ∧
    (keepWaiting i t s).pendingTitles = s.pendingTitles ∧ (keepWaiting i t s).tracks = s.tracks ∧
    (keepWaiting i t s).lanes = s.lanes ∧ (keepWaiting i t s).head = s.head ∧
    (keepWaiting i t s).marriageTimer = s.marriageTimer ∧ (keepWaiting i t s).press = s.press ∧
    (keepWaiting i t s).pace = s.pace ∧ (keepWaiting i t s).jackets = s.jackets ∧ (keepWaiting i t s).line = s.line ∧
    (keepWaiting i t s).params = s.params ∧ (keepWaiting i t s).link = s.link ∧ (keepWaiting i t s).ports = s.ports ∧
    (keepWaiting i t s).drive = s.drive ∧ (keepWaiting i t s).out = s.out ∧ (keepWaiting i t s).sentFrame = s.sentFrame ∧
    (keepWaiting i t s).openChoices = s.openChoices := by
  simp [keepWaiting]

/-- What `acceptedEffect` leaves as it was (R65). -/
@[simp] theorem acceptedEffect_frame (i : ReaderId) (t : Ticket) (s : State) :
    (acceptedEffect i t s).pending = s.pending ∧ (acceptedEffect i t s).pace = s.pace ∧
    (acceptedEffect i t s).line = s.line ∧ (acceptedEffect i t s).params = s.params ∧
    (acceptedEffect i t s).ports = s.ports ∧ (acceptedEffect i t s).sentFrame = s.sentFrame := by
  generalize hx : acceptedEffect i t s = x
  unfold acceptedEffect at hx
  repeat' split at hx
  all_goals subst hx
  all_goals simp

/-- What `acceptReading` leaves as it was (R65). -/
@[simp] theorem acceptReading_frame (i : ReaderId) (t : Ticket) (u : Bool) (s : State) :
    (acceptReading i t u s).pending = s.pending ∧ (acceptReading i t u s).pace = s.pace ∧
    (acceptReading i t u s).line = s.line ∧ (acceptReading i t u s).params = s.params ∧
    (acceptReading i t u s).ports = s.ports ∧ (acceptReading i t u s).sentFrame = s.sentFrame := by
  generalize hx : acceptReading i t u s = x
  unfold acceptReading at hx
  split at hx <;> subst hx <;> simp

/-- What `sequenceFault` leaves as it was (R68). -/
@[simp] theorem sequenceFault_frame (i : ReaderId) (x : Reading Ticket) (s : State) :
    (sequenceFault i x s).pending = s.pending ∧ (sequenceFault i x s).retiring = s.retiring ∧
    (sequenceFault i x s).titles = s.titles ∧ (sequenceFault i x s).pendingTitles = s.pendingTitles ∧
    (sequenceFault i x s).tracks = s.tracks ∧ (sequenceFault i x s).lanes = s.lanes ∧ (sequenceFault i x s).head = s.head ∧
    (sequenceFault i x s).marriageTimer = s.marriageTimer ∧ (sequenceFault i x s).press = s.press ∧
    (sequenceFault i x s).pace = s.pace ∧ (sequenceFault i x s).jackets = s.jackets ∧
    (sequenceFault i x s).params = s.params ∧ (sequenceFault i x s).ports = s.ports ∧
    (sequenceFault i x s).sentFrame = s.sentFrame ∧ (sequenceFault i x s).openChoices = s.openChoices := by
  simp [sequenceFault]

/-- What `takeReading` leaves as it was (R64). -/
@[simp] theorem takeReading_frame (i : ReaderId) (x : Reading Ticket) (s : State) :
    (takeReading i x s).pending = s.pending ∧ (takeReading i x s).pace = s.pace ∧ (takeReading i x s).params = s.params ∧
    (takeReading i x s).ports = s.ports ∧ (takeReading i x s).sentFrame = s.sentFrame := by
  generalize hx : takeReading i x s = x
  unfold takeReading at hx
  split at hx <;> subst hx <;> simp

/-- What `evaluateAgain` leaves as it was (R69). -/
@[simp] theorem evaluateAgain_frame (i : ReaderId) (s : State) :
    (evaluateAgain i s).pending = s.pending ∧ (evaluateAgain i s).pace = s.pace ∧ (evaluateAgain i s).params = s.params ∧
    (evaluateAgain i s).ports = s.ports ∧ (evaluateAgain i s).sentFrame = s.sentFrame := by
  generalize hx : evaluateAgain i s = x
  unfold evaluateAgain at hx
  split at hx <;> subst hx <;> simp

end Sys2Proof.Machine
end

