-- ==== Sys2Proof/Laws/Requests.lean ====
section
/-! SUPPORT. The line link in the shared operations: what produces notices leaves requests, answers, refusal place, frame in
assembly, overrun count, arrival number and the frames under way as they were. -/

namespace Sys2Proof.Machine

/-- What `enqueueNotice` leaves of the link (R183). -/
@[simp] theorem enqueueNotice_requests (e : NoticeEntry) (s : State) :
    (enqueueNotice e s).link.assembly = s.link.assembly ∧ (enqueueNotice e s).link.requests = s.link.requests ∧
    (enqueueNotice e s).link.answers = s.link.answers ∧ (enqueueNotice e s).link.refusal = s.link.refusal ∧
    (enqueueNotice e s).link.overrun = s.link.overrun ∧ (enqueueNotice e s).link.nextArrival = s.link.nextArrival ∧
    (enqueueNotice e s).link.sending = s.link.sending := by
  simp [enqueueNotice]

/-- What `produce` leaves of the link (R183, R184). -/
@[simp] theorem produce_requests (n : Notice) (s : State) :
    (produce n s).link.assembly = s.link.assembly ∧ (produce n s).link.requests = s.link.requests ∧
    (produce n s).link.answers = s.link.answers ∧ (produce n s).link.refusal = s.link.refusal ∧
    (produce n s).link.overrun = s.link.overrun ∧ (produce n s).link.nextArrival = s.link.nextArrival ∧
    (produce n s).link.sending = s.link.sending := by
  generalize hx : produce n s = x
  unfold produce at hx
  split at hx <;> subst hx <;> simp

/-- What `missTitle` leaves of the link (R34). -/
@[simp] theorem missTitle_requests (k : TitleKey) (s : State) :
    (missTitle k s).link.assembly = s.link.assembly ∧ (missTitle k s).link.requests = s.link.requests ∧
    (missTitle k s).link.answers = s.link.answers ∧ (missTitle k s).link.refusal = s.link.refusal ∧
    (missTitle k s).link.overrun = s.link.overrun ∧ (missTitle k s).link.nextArrival = s.link.nextArrival ∧
    (missTitle k s).link.sending = s.link.sending := by
  generalize hx : missTitle k s = x
  unfold missTitle at hx
  split at hx <;> subst hx <;> simp

/-- What `offerRetired` leaves of the link (R11). -/
@[simp] theorem offerRetired_requests (t : Ticket) (s : State) :
    (offerRetired t s).link.assembly = s.link.assembly ∧ (offerRetired t s).link.requests = s.link.requests ∧
    (offerRetired t s).link.answers = s.link.answers ∧ (offerRetired t s).link.refusal = s.link.refusal ∧
    (offerRetired t s).link.overrun = s.link.overrun ∧ (offerRetired t s).link.nextArrival = s.link.nextArrival ∧
    (offerRetired t s).link.sending = s.link.sending := by
  generalize hx : offerRetired t s = x
  unfold offerRetired at hx
  split at hx <;> subst hx <;> simp

/-- What `offerAll` leaves of the link (R11). -/
@[simp] theorem offerAll_requests (ts : List Ticket) (s : State) :
    (offerAll ts s).link.assembly = s.link.assembly ∧ (offerAll ts s).link.requests = s.link.requests ∧
    (offerAll ts s).link.answers = s.link.answers ∧ (offerAll ts s).link.refusal = s.link.refusal ∧
    (offerAll ts s).link.overrun = s.link.overrun ∧ (offerAll ts s).link.nextArrival = s.link.nextArrival ∧
    (offerAll ts s).link.sending = s.link.sending := by
  induction ts generalizing s with
  | nil => simp [offerAll]
  | cons t ts ih => unfold offerAll; split <;> simp [ih]

/-- What `retire` leaves of the link (R8, R11). -/
@[simp] theorem retire_requests (t : Ticket) (o : BookOutcome) (e : Option Reason) (s : State) :
    (retire t o e s).link.assembly = s.link.assembly ∧ (retire t o e s).link.requests = s.link.requests ∧
    (retire t o e s).link.answers = s.link.answers ∧ (retire t o e s).link.refusal = s.link.refusal ∧
    (retire t o e s).link.overrun = s.link.overrun ∧ (retire t o e s).link.nextArrival = s.link.nextArrival ∧
    (retire t o e s).link.sending = s.link.sending := by
  simp [retire]

/-- What `noteSending` leaves of the link (R181). -/
@[simp] theorem noteSending_requests (s : State) :
    (noteSending s).link.assembly = s.link.assembly ∧ (noteSending s).link.requests = s.link.requests ∧
    (noteSending s).link.answers = s.link.answers ∧ (noteSending s).link.refusal = s.link.refusal ∧
    (noteSending s).link.overrun = s.link.overrun ∧ (noteSending s).link.nextArrival = s.link.nextArrival := by
  generalize hx : noteSending s = x
  unfold noteSending at hx
  repeat' split at hx
  all_goals subst hx
  all_goals simp

/-- What `recomputePitch` leaves of the link (R128 to R132). -/
@[simp] theorem recomputePitch_requests (s : State) :
    (recomputePitch s).link.assembly = s.link.assembly ∧ (recomputePitch s).link.requests = s.link.requests ∧
    (recomputePitch s).link.answers = s.link.answers ∧ (recomputePitch s).link.refusal = s.link.refusal ∧
    (recomputePitch s).link.overrun = s.link.overrun ∧ (recomputePitch s).link.nextArrival = s.link.nextArrival ∧
    (recomputePitch s).link.sending = s.link.sending := by
  generalize hx : recomputePitch s = x
  unfold recomputePitch at hx
  dsimp only at hx
  split at hx <;> subst hx <;> simp

/-- What `recomputeDemand` leaves of the link (R117). -/
@[simp] theorem recomputeDemand_requests (s : State) :
    (recomputeDemand s).link.assembly = s.link.assembly ∧ (recomputeDemand s).link.requests = s.link.requests ∧
    (recomputeDemand s).link.answers = s.link.answers ∧ (recomputeDemand s).link.refusal = s.link.refusal ∧
    (recomputeDemand s).link.overrun = s.link.overrun ∧ (recomputeDemand s).link.nextArrival = s.link.nextArrival ∧
    (recomputeDemand s).link.sending = s.link.sending := by
  simp [recomputeDemand]

/-- What `checkEarlyIndex` leaves of the link (R133). -/
@[simp] theorem checkEarlyIndex_requests (cycle : Nat) (s : State) :
    (checkEarlyIndex cycle s).link.assembly = s.link.assembly ∧ (checkEarlyIndex cycle s).link.requests = s.link.requests ∧
    (checkEarlyIndex cycle s).link.answers = s.link.answers ∧ (checkEarlyIndex cycle s).link.refusal = s.link.refusal ∧
    (checkEarlyIndex cycle s).link.overrun = s.link.overrun ∧
    (checkEarlyIndex cycle s).link.nextArrival = s.link.nextArrival ∧ (checkEarlyIndex cycle s).link.sending = s.link.sending := by
  generalize hx : checkEarlyIndex cycle s = x
  unfold checkEarlyIndex at hx
  repeat' split at hx
  all_goals subst hx
  all_goals simp

/-- What `setLine` leaves of the link (R159). -/
@[simp] theorem setLine_requests (st : LineState) (c : Cause) (s : State) :
    (setLine st c s).link.assembly = s.link.assembly ∧ (setLine st c s).link.requests = s.link.requests ∧
    (setLine st c s).link.answers = s.link.answers ∧ (setLine st c s).link.refusal = s.link.refusal ∧
    (setLine st c s).link.overrun = s.link.overrun ∧ (setLine st c s).link.nextArrival = s.link.nextArrival ∧
    (setLine st c s).link.sending = s.link.sending := by
  simp [setLine]

/-- What `enterFault` leaves of the link (R170). -/
@[simp] theorem enterFault_requests (c : Cause) (s : State) :
    (enterFault c s).link.assembly = s.link.assembly ∧ (enterFault c s).link.requests = s.link.requests ∧
    (enterFault c s).link.answers = s.link.answers ∧ (enterFault c s).link.refusal = s.link.refusal ∧
    (enterFault c s).link.overrun = s.link.overrun ∧ (enterFault c s).link.nextArrival = s.link.nextArrival ∧
    (enterFault c s).link.sending = s.link.sending := by
  generalize hx : enterFault c s = x
  unfold enterFault at hx
  split at hx <;> subst hx <;> simp

/-- What `softStopTest` leaves of the link (R165). -/
@[simp] theorem softStopTest_requests (s : State) :
    (softStopTest s).link.assembly = s.link.assembly ∧ (softStopTest s).link.requests = s.link.requests ∧
    (softStopTest s).link.answers = s.link.answers ∧ (softStopTest s).link.refusal = s.link.refusal ∧
    (softStopTest s).link.overrun = s.link.overrun ∧ (softStopTest s).link.nextArrival = s.link.nextArrival ∧
    (softStopTest s).link.sending = s.link.sending := by
  generalize hx : softStopTest s = x
  unfold softStopTest at hx
  repeat' split at hx
  all_goals subst hx
  all_goals simp

/-- What `runOutTest` leaves of the link (R169). -/
@[simp] theorem runOutTest_requests (s : State) :
    (runOutTest s).link.assembly = s.link.assembly ∧ (runOutTest s).link.requests = s.link.requests ∧
    (runOutTest s).link.answers = s.link.answers ∧ (runOutTest s).link.refusal = s.link.refusal ∧
    (runOutTest s).link.overrun = s.link.overrun ∧ (runOutTest s).link.nextArrival = s.link.nextArrival ∧
    (runOutTest s).link.sending = s.link.sending := by
  generalize hx : runOutTest s = x
  unfold runOutTest at hx
  split at hx <;> subst hx <;> simp

/-- What `settleLine` leaves of the link (R118, R169). -/
@[simp] theorem settleLine_requests (s : State) :
    (settleLine s).link.assembly = s.link.assembly ∧ (settleLine s).link.requests = s.link.requests ∧
    (settleLine s).link.answers = s.link.answers ∧ (settleLine s).link.refusal = s.link.refusal ∧
    (settleLine s).link.overrun = s.link.overrun ∧ (settleLine s).link.nextArrival = s.link.nextArrival ∧
    (settleLine s).link.sending = s.link.sending := by
  simp [settleLine]

/-- What `setPress` leaves of the link (R103). -/
@[simp] theorem setPress_requests (st : PressState) (s : State) :
    (setPress st s).link.assembly = s.link.assembly ∧ (setPress st s).link.requests = s.link.requests ∧
    (setPress st s).link.answers = s.link.answers ∧ (setPress st s).link.refusal = s.link.refusal ∧
    (setPress st s).link.overrun = s.link.overrun ∧ (setPress st s).link.nextArrival = s.link.nextArrival ∧
    (setPress st s).link.sending = s.link.sending := by
  generalize hx : setPress st s = x
  unfold setPress at hx
  split at hx <;> subst hx <;> simp

/-- What `wakePress` leaves of the link (R119). -/
@[simp] theorem wakePress_requests (s : State) :
    (wakePress s).link.assembly = s.link.assembly ∧ (wakePress s).link.requests = s.link.requests ∧
    (wakePress s).link.answers = s.link.answers ∧ (wakePress s).link.refusal = s.link.refusal ∧
    (wakePress s).link.overrun = s.link.overrun ∧ (wakePress s).link.nextArrival = s.link.nextArrival ∧
    (wakePress s).link.sending = s.link.sending := by
  generalize hx : wakePress s = x
  unfold wakePress at hx
  split at hx <;> subst hx <;> simp

/-- What `arrive` leaves of the link (R79). -/
@[simp] theorem arrive_requests (t : Ticket) (s : State) :
    (arrive t s).link.assembly = s.link.assembly ∧ (arrive t s).link.requests = s.link.requests ∧
    (arrive t s).link.answers = s.link.answers ∧ (arrive t s).link.refusal = s.link.refusal ∧
    (arrive t s).link.overrun = s.link.overrun ∧ (arrive t s).link.nextArrival = s.link.nextArrival ∧
    (arrive t s).link.sending = s.link.sending := by
  generalize hx : arrive t s = x
  unfold arrive at hx
  dsimp only at hx
  repeat' split at hx
  all_goals subst hx
  all_goals simp

/-- What `actWaitingS3` leaves of the link (R66). -/
@[simp] theorem actWaitingS3_requests (s : State) :
    (actWaitingS3 s).link.assembly = s.link.assembly ∧ (actWaitingS3 s).link.requests = s.link.requests ∧
    (actWaitingS3 s).link.answers = s.link.answers ∧ (actWaitingS3 s).link.refusal = s.link.refusal ∧
    (actWaitingS3 s).link.overrun = s.link.overrun ∧ (actWaitingS3 s).link.nextArrival = s.link.nextArrival ∧
    (actWaitingS3 s).link.sending = s.link.sending := by
  generalize hx : actWaitingS3 s = x
  unfold actWaitingS3 at hx
  repeat' split at hx
  all_goals subst hx
  all_goals simp

/-- What `ejectHead` leaves of the link (R91). -/
@[simp] theorem ejectHead_requests (t : Ticket) (why : Reason) (s : State) :
    (ejectHead t why s).link.assembly = s.link.assembly ∧ (ejectHead t why s).link.requests = s.link.requests ∧
    (ejectHead t why s).link.answers = s.link.answers ∧ (ejectHead t why s).link.refusal = s.link.refusal ∧
    (ejectHead t why s).link.overrun = s.link.overrun ∧ (ejectHead t why s).link.nextArrival = s.link.nextArrival ∧
    (ejectHead t why s).link.sending = s.link.sending := by
  simp [ejectHead]

/-- What `refuseGated` leaves of the link (R58). -/
@[simp] theorem refuseGated_requests (t : Ticket) (s : State) :
    (refuseGated t s).link.assembly = s.link.assembly ∧ (refuseGated t s).link.requests = s.link.requests ∧
    (refuseGated t s).link.answers = s.link.answers ∧ (refuseGated t s).link.refusal = s.link.refusal ∧
    (refuseGated t s).link.overrun = s.link.overrun ∧ (refuseGated t s).link.nextArrival = s.link.nextArrival ∧
    (refuseGated t s).link.sending = s.link.sending := by
  simp [refuseGated]

/-- What `announceResolved` leaves of the link (R5). -/
@[simp] theorem announceResolved_requests (t : Ticket) (s : State) :
    (announceResolved t s).link.assembly = s.link.assembly ∧ (announceResolved t s).link.requests = s.link.requests ∧
    (announceResolved t s).link.answers = s.link.answers ∧ (announceResolved t s).link.refusal = s.link.refusal ∧
    (announceResolved t s).link.overrun = s.link.overrun ∧ (announceResolved t s).link.nextArrival = s.link.nextArrival ∧
    (announceResolved t s).link.sending = s.link.sending := by
  generalize hx : announceResolved t s = x
  unfold announceResolved at hx
  repeat' split at hx
  all_goals subst hx
  all_goals simp

/-- What `headGivesUp` leaves of the link (R95). -/
@[simp] theorem headGivesUp_requests (t : Ticket) (s : State) :
    (headGivesUp t s).link.assembly = s.link.assembly ∧ (headGivesUp t s).link.requests = s.link.requests ∧
    (headGivesUp t s).link.answers = s.link.answers ∧ (headGivesUp t s).link.refusal = s.link.refusal ∧
    (headGivesUp t s).link.overrun = s.link.overrun ∧ (headGivesUp t s).link.nextArrival = s.link.nextArrival ∧
    (headGivesUp t s).link.sending = s.link.sending := by
  generalize hx : headGivesUp t s = x
  unfold headGivesUp at hx
  repeat' split at hx
  all_goals subst hx
  all_goals simp

/-- What `sendIndexGo` leaves of the link (R110). -/
@[simp] theorem sendIndexGo_requests (s : State) :
    (sendIndexGo s).link.assembly = s.link.assembly ∧ (sendIndexGo s).link.requests = s.link.requests ∧
    (sendIndexGo s).link.answers = s.link.answers ∧ (sendIndexGo s).link.refusal = s.link.refusal ∧
    (sendIndexGo s).link.overrun = s.link.overrun ∧ (sendIndexGo s).link.nextArrival = s.link.nextArrival ∧
    (sendIndexGo s).link.sending = s.link.sending := by
  generalize hx : sendIndexGo s = x
  unfold sendIndexGo at hx
  split at hx <;> subst hx <;> simp

/-- What `indexRetest` leaves of the link (R108). -/
@[simp] theorem indexRetest_requests (s : State) :
    (indexRetest s).link.assembly = s.link.assembly ∧ (indexRetest s).link.requests = s.link.requests ∧
    (indexRetest s).link.answers = s.link.answers ∧ (indexRetest s).link.refusal = s.link.refusal ∧
    (indexRetest s).link.overrun = s.link.overrun ∧ (indexRetest s).link.nextArrival = s.link.nextArrival ∧
    (indexRetest s).link.sending = s.link.sending := by
  generalize hx : indexRetest s = x
  unfold indexRetest at hx
  split at hx <;> subst hx <;> simp

/-- What `handOver` leaves of the link (R144, R149). -/
@[simp] theorem handOver_requests (t : Ticket) (s : State) :
    (handOver t s).link.assembly = s.link.assembly ∧ (handOver t s).link.requests = s.link.requests ∧
    (handOver t s).link.answers = s.link.answers ∧ (handOver t s).link.refusal = s.link.refusal ∧
    (handOver t s).link.overrun = s.link.overrun ∧ (handOver t s).link.nextArrival = s.link.nextArrival ∧
    (handOver t s).link.sending = s.link.sending := by
  simp [handOver]

/-- What `passBook` leaves of the link (R144). -/
@[simp] theorem passBook_requests (t : Ticket) (s : State) :
    (passBook t s).link.assembly = s.link.assembly ∧ (passBook t s).link.requests = s.link.requests ∧
    (passBook t s).link.answers = s.link.answers ∧ (passBook t s).link.refusal = s.link.refusal ∧
    (passBook t s).link.overrun = s.link.overrun ∧ (passBook t s).link.nextArrival = s.link.nextArrival ∧
    (passBook t s).link.sending = s.link.sending := by
  simp [passBook]

/-- What `jacketArrival` leaves of the link (R142). -/
@[simp] theorem jacketArrival_requests (t : Ticket) (s : State) :
    (jacketArrival t s).link.assembly = s.link.assembly ∧ (jacketArrival t s).link.requests = s.link.requests ∧
    (jacketArrival t s).link.answers = s.link.answers ∧ (jacketArrival t s).link.refusal = s.link.refusal ∧
    (jacketArrival t s).link.overrun = s.link.overrun ∧ (jacketArrival t s).link.nextArrival = s.link.nextArrival ∧
    (jacketArrival t s).link.sending = s.link.sending := by
  generalize hx : jacketArrival t s = x
  unfold jacketArrival at hx
  repeat' split at hx
  all_goals subst hx
  all_goals simp

/-- What `actWaitingS5` leaves of the link (R66). -/
@[simp] theorem actWaitingS5_requests (s : State) :
    (actWaitingS5 s).link.assembly = s.link.assembly ∧ (actWaitingS5 s).link.requests = s.link.requests ∧
    (actWaitingS5 s).link.answers = s.link.answers ∧ (actWaitingS5 s).link.refusal = s.link.refusal ∧
    (actWaitingS5 s).link.overrun = s.link.overrun ∧ (actWaitingS5 s).link.nextArrival = s.link.nextArrival ∧
    (actWaitingS5 s).link.sending = s.link.sending := by
  generalize hx : actWaitingS5 s = x
  unfold actWaitingS5 at hx
  repeat' split at hx
  all_goals subst hx
  all_goals simp

/-- What `enterBypass` leaves of the link (R147). -/
@[simp] theorem enterBypass_requests (t : Ticket) (x : Reading TitleKey) (s : State) :
    (enterBypass t x s).link.assembly = s.link.assembly ∧ (enterBypass t x s).link.requests = s.link.requests ∧
    (enterBypass t x s).link.answers = s.link.answers ∧ (enterBypass t x s).link.refusal = s.link.refusal ∧
    (enterBypass t x s).link.overrun = s.link.overrun ∧ (enterBypass t x s).link.nextArrival = s.link.nextArrival ∧
    (enterBypass t x s).link.sending = s.link.sending := by
  simp [enterBypass]

/-- What `jacketMismatch` leaves of the link (R146). -/
@[simp] theorem jacketMismatch_requests (t : Ticket) (x : Reading TitleKey) (s : State) :
    (jacketMismatch t x s).link.assembly = s.link.assembly ∧ (jacketMismatch t x s).link.requests = s.link.requests ∧
    (jacketMismatch t x s).link.answers = s.link.answers ∧ (jacketMismatch t x s).link.refusal = s.link.refusal ∧
    (jacketMismatch t x s).link.overrun = s.link.overrun ∧ (jacketMismatch t x s).link.nextArrival = s.link.nextArrival ∧
    (jacketMismatch t x s).link.sending = s.link.sending := by
  generalize hx : jacketMismatch t x s = x
  unfold jacketMismatch at hx
  dsimp only at hx
  split at hx <;> subst hx <;> simp

/-- What `acceptedEffect` leaves of the link (R65). -/
@[simp] theorem acceptedEffect_requests (i : ReaderId) (t : Ticket) (s : State) :
    (acceptedEffect i t s).link.assembly = s.link.assembly ∧ (acceptedEffect i t s).link.requests = s.link.requests ∧
    (acceptedEffect i t s).link.answers = s.link.answers ∧ (acceptedEffect i t s).link.refusal = s.link.refusal ∧
    (acceptedEffect i t s).link.overrun = s.link.overrun ∧ (acceptedEffect i t s).link.nextArrival = s.link.nextArrival ∧
    (acceptedEffect i t s).link.sending = s.link.sending := by
  generalize hx : acceptedEffect i t s = x
  unfold acceptedEffect at hx
  repeat' split at hx
  all_goals subst hx
  all_goals simp

/-- What `acceptReading` leaves of the link (R65). -/
@[simp] theorem acceptReading_requests (i : ReaderId) (t : Ticket) (u : Bool) (s : State) :
    (acceptReading i t u s).link.assembly = s.link.assembly ∧ (acceptReading i t u s).link.requests = s.link.requests ∧
    (acceptReading i t u s).link.answers = s.link.answers ∧ (acceptReading i t u s).link.refusal = s.link.refusal ∧
    (acceptReading i t u s).link.overrun = s.link.overrun ∧ (acceptReading i t u s).link.nextArrival = s.link.nextArrival ∧
    (acceptReading i t u s).link.sending = s.link.sending := by
  generalize hx : acceptReading i t u s = x
  unfold acceptReading at hx
  split at hx <;> subst hx <;> simp

/-- What `sequenceFault` leaves of the link (R68). -/
@[simp] theorem sequenceFault_requests (i : ReaderId) (x : Reading Ticket) (s : State) :
    (sequenceFault i x s).link.assembly = s.link.assembly ∧ (sequenceFault i x s).link.requests = s.link.requests ∧
    (sequenceFault i x s).link.answers = s.link.answers ∧ (sequenceFault i x s).link.refusal = s.link.refusal ∧
    (sequenceFault i x s).link.overrun = s.link.overrun ∧ (sequenceFault i x s).link.nextArrival = s.link.nextArrival ∧
    (sequenceFault i x s).link.sending = s.link.sending := by
  simp [sequenceFault]

/-- What `takeReading` leaves of the link (R64). -/
@[simp] theorem takeReading_requests (i : ReaderId) (x : Reading Ticket) (s : State) :
    (takeReading i x s).link.assembly = s.link.assembly ∧ (takeReading i x s).link.requests = s.link.requests ∧
    (takeReading i x s).link.answers = s.link.answers ∧ (takeReading i x s).link.refusal = s.link.refusal ∧
    (takeReading i x s).link.overrun = s.link.overrun ∧ (takeReading i x s).link.nextArrival = s.link.nextArrival ∧
    (takeReading i x s).link.sending = s.link.sending := by
  generalize hx : takeReading i x s = x
  unfold takeReading at hx
  split at hx <;> subst hx <;> simp

/-- What `evaluateAgain` leaves of the link (R69). -/
@[simp] theorem evaluateAgain_requests (i : ReaderId) (s : State) :
    (evaluateAgain i s).link.assembly = s.link.assembly ∧ (evaluateAgain i s).link.requests = s.link.requests ∧
    (evaluateAgain i s).link.answers = s.link.answers ∧ (evaluateAgain i s).link.refusal = s.link.refusal ∧
    (evaluateAgain i s).link.overrun = s.link.overrun ∧ (evaluateAgain i s).link.nextArrival = s.link.nextArrival ∧
    (evaluateAgain i s).link.sending = s.link.sending := by
  generalize hx : evaluateAgain i s = x
  unfold evaluateAgain at hx
  split at hx <;> subst hx <;> simp

end Sys2Proof.Machine
end

