-- ==== Sys2Proof/Laws/CommandFrames.lean ====
section
/-! SUPPORT. Frames of the commands' own operations: for each, every part of the state that it leaves as it was. -/

namespace Sys2Proof.Machine

/-- What every step of a fold keeps, the fold keeps. -/
theorem foldl_keeps {α β : Type} (p : State → β) (f : State → α → State) (h : ∀ s a, p (f s a) = p s) (l : List α) (s : State) :
    p (l.foldl f s) = p s := by
  induction l generalizing s with
  | nil => rfl
  | cons a l ih => rw [List.foldl_cons, ih, h]

/-- What `addRecord` leaves as it was (R15). -/
@[simp] theorem addRecord_frame (r : BookRecord) (s : State) :
    (addRecord r s).pending = s.pending ∧ (addRecord r s).retiring = s.retiring ∧ (addRecord r s).titles = s.titles ∧
    (addRecord r s).pendingTitles = s.pendingTitles ∧ (addRecord r s).tracks = s.tracks ∧
    (addRecord r s).readers = s.readers ∧ (addRecord r s).lanes = s.lanes ∧ (addRecord r s).head = s.head ∧
    (addRecord r s).marriageTimer = s.marriageTimer ∧ (addRecord r s).press = s.press ∧ (addRecord r s).pace = s.pace ∧
    (addRecord r s).jackets = s.jackets ∧ (addRecord r s).line = s.line ∧ (addRecord r s).params = s.params ∧
    (addRecord r s).link = s.link ∧ (addRecord r s).ports = s.ports ∧ (addRecord r s).drive = s.drive ∧
    (addRecord r s).out = s.out ∧ (addRecord r s).sentFrame = s.sentFrame ∧ (addRecord r s).openChoices = s.openChoices := by
  simp [addRecord]

/-- What `admitRecord` leaves as it was (R15). -/
@[simp] theorem admitRecord_frame (t : Ticket) (k : TitleKey) (o : Option Nat) (p : Option TitleParams) (s : State) :
    (admitRecord t k o p s).pending = s.pending ∧ (admitRecord t k o p s).retiring = s.retiring ∧
    (admitRecord t k o p s).tracks = s.tracks ∧ (admitRecord t k o p s).readers = s.readers ∧
    (admitRecord t k o p s).lanes = s.lanes ∧ (admitRecord t k o p s).head = s.head ∧
    (admitRecord t k o p s).marriageTimer = s.marriageTimer ∧ (admitRecord t k o p s).press = s.press ∧
    (admitRecord t k o p s).pace = s.pace ∧ (admitRecord t k o p s).jackets = s.jackets ∧
    (admitRecord t k o p s).line = s.line ∧ (admitRecord t k o p s).params = s.params ∧
    (admitRecord t k o p s).ports = s.ports ∧ (admitRecord t k o p s).drive = s.drive ∧
    (admitRecord t k o p s).out = s.out ∧ (admitRecord t k o p s).sentFrame = s.sentFrame ∧
    (admitRecord t k o p s).openChoices = s.openChoices := by
  generalize hx : admitRecord t k o p s = x
  unfold admitRecord at hx
  repeat' split at hx
  all_goals subst hx
  all_goals simp

/-- What `admitRecord` leaves of the link (R15). -/
@[simp] theorem admitRecord_requests (t : Ticket) (k : TitleKey) (o : Option Nat) (p : Option TitleParams) (s : State) :
    (admitRecord t k o p s).link.assembly = s.link.assembly ∧ (admitRecord t k o p s).link.requests = s.link.requests ∧
    (admitRecord t k o p s).link.answers = s.link.answers ∧ (admitRecord t k o p s).link.refusal = s.link.refusal ∧
    (admitRecord t k o p s).link.overrun = s.link.overrun ∧ (admitRecord t k o p s).link.nextArrival = s.link.nextArrival ∧
    (admitRecord t k o p s).link.sending = s.link.sending := by
  generalize hx : admitRecord t k o p s = x
  unfold admitRecord at hx
  repeat' split at hx
  all_goals subst hx
  all_goals simp

/-- What `attachRecord` leaves as it was (R19). -/
@[simp] theorem attachRecord_frame (r : BookRecord) (p : TitleParams) (s : State) :
    (attachRecord r p s).pending = s.pending ∧ (attachRecord r p s).pace = s.pace ∧
    (attachRecord r p s).jackets = s.jackets ∧ (attachRecord r p s).params = s.params ∧
    (attachRecord r p s).ports = s.ports ∧ (attachRecord r p s).sentFrame = s.sentFrame := by
  simp [attachRecord]

/-- What `attachRecord` leaves of the link (R19). -/
@[simp] theorem attachRecord_requests (r : BookRecord) (p : TitleParams) (s : State) :
    (attachRecord r p s).link.assembly = s.link.assembly ∧ (attachRecord r p s).link.requests = s.link.requests ∧
    (attachRecord r p s).link.answers = s.link.answers ∧ (attachRecord r p s).link.refusal = s.link.refusal ∧
    (attachRecord r p s).link.overrun = s.link.overrun ∧ (attachRecord r p s).link.nextArrival = s.link.nextArrival ∧
    (attachRecord r p s).link.sending = s.link.sending := by
  simp [attachRecord]

/-- What `forcedAtHead` leaves as it was (R22). -/
@[simp] theorem forcedAtHead_frame (s : State) :
    (forcedAtHead s).pending = s.pending ∧ (forcedAtHead s).pace = s.pace ∧ (forcedAtHead s).jackets = s.jackets ∧
    (forcedAtHead s).line = s.line ∧ (forcedAtHead s).params = s.params ∧ (forcedAtHead s).ports = s.ports ∧
    (forcedAtHead s).sentFrame = s.sentFrame := by
  simp [forcedAtHead]

/-- What `forcedAtHead` leaves of the link (R22). -/
@[simp] theorem forcedAtHead_requests (s : State) :
    (forcedAtHead s).link.assembly = s.link.assembly ∧ (forcedAtHead s).link.requests = s.link.requests ∧
    (forcedAtHead s).link.answers = s.link.answers ∧ (forcedAtHead s).link.refusal = s.link.refusal ∧
    (forcedAtHead s).link.overrun = s.link.overrun ∧ (forcedAtHead s).link.nextArrival = s.link.nextArrival ∧
    (forcedAtHead s).link.sending = s.link.sending := by
  simp [forcedAtHead]

/-- What `forcedAtEntry` leaves as it was (R22). -/
@[simp] theorem forcedAtEntry_frame (t : Ticket) (s : State) :
    (forcedAtEntry t s).pending = s.pending ∧ (forcedAtEntry t s).jackets = s.jackets ∧ (forcedAtEntry t s).line = s.line ∧
    (forcedAtEntry t s).params = s.params ∧ (forcedAtEntry t s).ports = s.ports ∧ (forcedAtEntry t s).sentFrame = s.sentFrame := by
  simp [forcedAtEntry]

/-- What `forcedAtEntry` leaves of the link (R22). -/
@[simp] theorem forcedAtEntry_requests (t : Ticket) (s : State) :
    (forcedAtEntry t s).link.assembly = s.link.assembly ∧ (forcedAtEntry t s).link.requests = s.link.requests ∧
    (forcedAtEntry t s).link.answers = s.link.answers ∧ (forcedAtEntry t s).link.refusal = s.link.refusal ∧
    (forcedAtEntry t s).link.overrun = s.link.overrun ∧ (forcedAtEntry t s).link.nextArrival = s.link.nextArrival ∧
    (forcedAtEntry t s).link.sending = s.link.sending := by
  simp [forcedAtEntry]

/-- What `forcedAtJacketer` leaves as it was (R152). -/
@[simp] theorem forcedAtJacketer_frame (t : Ticket) (s : State) :
    (forcedAtJacketer t s).pending = s.pending ∧ (forcedAtJacketer t s).records = s.records ∧
    (forcedAtJacketer t s).retiring = s.retiring ∧ (forcedAtJacketer t s).titles = s.titles ∧
    (forcedAtJacketer t s).pendingTitles = s.pendingTitles ∧ (forcedAtJacketer t s).tracks = s.tracks ∧
    (forcedAtJacketer t s).readers = s.readers ∧ (forcedAtJacketer t s).lanes = s.lanes ∧
    (forcedAtJacketer t s).head = s.head ∧ (forcedAtJacketer t s).marriageTimer = s.marriageTimer ∧
    (forcedAtJacketer t s).press = s.press ∧ (forcedAtJacketer t s).pace = s.pace ∧ (forcedAtJacketer t s).line = s.line ∧
    (forcedAtJacketer t s).params = s.params ∧ (forcedAtJacketer t s).link = s.link ∧
    (forcedAtJacketer t s).ports = s.ports ∧ (forcedAtJacketer t s).drive = s.drive ∧ (forcedAtJacketer t s).out = s.out ∧
    (forcedAtJacketer t s).sentFrame = s.sentFrame ∧ (forcedAtJacketer t s).openChoices = s.openChoices := by
  generalize hx : forcedAtJacketer t s = x
  unfold forcedAtJacketer at hx
  repeat' split at hx
  all_goals subst hx
  all_goals simp

/-- What `forcedConsequence` leaves as it was (R22). -/
@[simp] theorem forcedConsequence_frame (t : Ticket) (st : Stage) (s : State) :
    (forcedConsequence t st s).pending = s.pending ∧ (forcedConsequence t st s).line = s.line ∧
    (forcedConsequence t st s).params = s.params ∧ (forcedConsequence t st s).ports = s.ports ∧
    (forcedConsequence t st s).sentFrame = s.sentFrame := by
  generalize hx : forcedConsequence t st s = x
  unfold forcedConsequence at hx
  split at hx <;> subst hx <;> simp

/-- What `forcedConsequence` leaves of the link (R22). -/
@[simp] theorem forcedConsequence_requests (t : Ticket) (st : Stage) (s : State) :
    (forcedConsequence t st s).link.assembly = s.link.assembly ∧
    (forcedConsequence t st s).link.requests = s.link.requests ∧ (forcedConsequence t st s).link.answers = s.link.answers ∧
    (forcedConsequence t st s).link.refusal = s.link.refusal ∧ (forcedConsequence t st s).link.overrun = s.link.overrun ∧
    (forcedConsequence t st s).link.nextArrival = s.link.nextArrival ∧
    (forcedConsequence t st s).link.sending = s.link.sending := by
  generalize hx : forcedConsequence t st s = x
  unfold forcedConsequence at hx
  split at hx <;> subst hx <;> simp

/-- What `resolveRecord` leaves as it was (R36). -/
@[simp] theorem resolveRecord_frame (k : TitleKey) (t : Ticket) (s : State) :
    (resolveRecord k s t).pending = s.pending ∧ (resolveRecord k s t).pace = s.pace ∧
    (resolveRecord k s t).jackets = s.jackets ∧ (resolveRecord k s t).line = s.line ∧
    (resolveRecord k s t).params = s.params ∧ (resolveRecord k s t).ports = s.ports ∧
    (resolveRecord k s t).sentFrame = s.sentFrame := by
  generalize hx : resolveRecord k s t = x
  unfold resolveRecord at hx
  repeat' split at hx
  all_goals subst hx
  all_goals simp

/-- What `resolveRecord` leaves of the link (R36). -/
@[simp] theorem resolveRecord_requests (k : TitleKey) (t : Ticket) (s : State) :
    (resolveRecord k s t).link.assembly = s.link.assembly ∧ (resolveRecord k s t).link.requests = s.link.requests ∧
    (resolveRecord k s t).link.answers = s.link.answers ∧ (resolveRecord k s t).link.refusal = s.link.refusal ∧
    (resolveRecord k s t).link.overrun = s.link.overrun ∧ (resolveRecord k s t).link.nextArrival = s.link.nextArrival ∧
    (resolveRecord k s t).link.sending = s.link.sending := by
  generalize hx : resolveRecord k s t = x
  unfold resolveRecord at hx
  repeat' split at hx
  all_goals subst hx
  all_goals simp

/-- What `resolveWaiting` leaves as it was (R36). -/
@[simp] theorem resolveWaiting_frame (k : TitleKey) (s : State) :
    (resolveWaiting k s).pending = s.pending ∧ (resolveWaiting k s).pace = s.pace ∧
    (resolveWaiting k s).jackets = s.jackets ∧ (resolveWaiting k s).line = s.line ∧ (resolveWaiting k s).params = s.params ∧
    (resolveWaiting k s).ports = s.ports ∧ (resolveWaiting k s).sentFrame = s.sentFrame := by
  unfold resolveWaiting
  exact ⟨foldl_keeps (·.pending) _ (fun _ _ => by simp) _ _,
    foldl_keeps (·.pace) _ (fun _ _ => by simp) _ _,
    foldl_keeps (·.jackets) _ (fun _ _ => by simp) _ _,
    foldl_keeps (·.line) _ (fun _ _ => by simp) _ _,
    foldl_keeps (·.params) _ (fun _ _ => by simp) _ _,
    foldl_keeps (·.ports) _ (fun _ _ => by simp) _ _,
    foldl_keeps (·.sentFrame) _ (fun _ _ => by simp) _ _⟩

/-- What `resolveWaiting` leaves of the link (R36). -/
@[simp] theorem resolveWaiting_requests (k : TitleKey) (s : State) :
    (resolveWaiting k s).link.assembly = s.link.assembly ∧ (resolveWaiting k s).link.requests = s.link.requests ∧
    (resolveWaiting k s).link.answers = s.link.answers ∧ (resolveWaiting k s).link.refusal = s.link.refusal ∧
    (resolveWaiting k s).link.overrun = s.link.overrun ∧ (resolveWaiting k s).link.nextArrival = s.link.nextArrival ∧
    (resolveWaiting k s).link.sending = s.link.sending := by
  unfold resolveWaiting
  exact ⟨foldl_keeps (·.link.assembly) _ (fun _ _ => by simp) _ _,
    foldl_keeps (·.link.requests) _ (fun _ _ => by simp) _ _,
    foldl_keeps (·.link.answers) _ (fun _ _ => by simp) _ _,
    foldl_keeps (·.link.refusal) _ (fun _ _ => by simp) _ _,
    foldl_keeps (·.link.overrun) _ (fun _ _ => by simp) _ _,
    foldl_keeps (·.link.nextArrival) _ (fun _ _ => by simp) _ _,
    foldl_keeps (·.link.sending) _ (fun _ _ => by simp) _ _⟩

/-- What `updateTitle` leaves as it was (R40). -/
@[simp] theorem updateTitle_frame (k : TitleKey) (p : TitleParams) (s : State) :
    (updateTitle k p s).pending = s.pending ∧ (updateTitle k p s).records = s.records ∧
    (updateTitle k p s).retiring = s.retiring ∧ (updateTitle k p s).pendingTitles = s.pendingTitles ∧
    (updateTitle k p s).tracks = s.tracks ∧ (updateTitle k p s).readers = s.readers ∧ (updateTitle k p s).lanes = s.lanes ∧
    (updateTitle k p s).head = s.head ∧ (updateTitle k p s).marriageTimer = s.marriageTimer ∧
    (updateTitle k p s).press = s.press ∧ (updateTitle k p s).pace = s.pace ∧ (updateTitle k p s).jackets = s.jackets ∧
    (updateTitle k p s).line = s.line ∧ (updateTitle k p s).params = s.params ∧ (updateTitle k p s).link = s.link ∧
    (updateTitle k p s).ports = s.ports ∧ (updateTitle k p s).drive = s.drive ∧ (updateTitle k p s).out = s.out ∧
    (updateTitle k p s).sentFrame = s.sentFrame ∧ (updateTitle k p s).openChoices = s.openChoices := by
  simp [updateTitle]

/-- What `installTitle` leaves as it was (R42). -/
@[simp] theorem installTitle_frame (k : TitleKey) (p : TitleParams) (w : Way) (s : State) :
    (installTitle k p w s).pending = s.pending ∧ (installTitle k p w s).pace = s.pace ∧
    (installTitle k p w s).jackets = s.jackets ∧ (installTitle k p w s).params = s.params ∧
    (installTitle k p w s).ports = s.ports ∧ (installTitle k p w s).sentFrame = s.sentFrame := by
  simp [installTitle]

/-- What `installTitle` leaves of the link (R42). -/
@[simp] theorem installTitle_requests (k : TitleKey) (p : TitleParams) (w : Way) (s : State) :
    (installTitle k p w s).link.assembly = s.link.assembly ∧ (installTitle k p w s).link.requests = s.link.requests ∧
    (installTitle k p w s).link.answers = s.link.answers ∧ (installTitle k p w s).link.refusal = s.link.refusal ∧
    (installTitle k p w s).link.overrun = s.link.overrun ∧ (installTitle k p w s).link.nextArrival = s.link.nextArrival ∧
    (installTitle k p w s).link.sending = s.link.sending := by
  simp [installTitle]

/-- What `parameterEffect` leaves as it was (R188). -/
@[simp] theorem parameterEffect_frame (n : Nat) (s : State) :
    (parameterEffect n s).pending = s.pending ∧ (parameterEffect n s).records = s.records ∧
    (parameterEffect n s).retiring = s.retiring ∧ (parameterEffect n s).titles = s.titles ∧
    (parameterEffect n s).pendingTitles = s.pendingTitles ∧ (parameterEffect n s).tracks = s.tracks ∧
    (parameterEffect n s).readers = s.readers ∧ (parameterEffect n s).lanes = s.lanes ∧
    (parameterEffect n s).head = s.head ∧ (parameterEffect n s).marriageTimer = s.marriageTimer ∧
    (parameterEffect n s).jackets = s.jackets ∧ (parameterEffect n s).line = s.line ∧
    (parameterEffect n s).params = s.params ∧ (parameterEffect n s).ports = s.ports ∧
    (parameterEffect n s).sentFrame = s.sentFrame ∧ (parameterEffect n s).openChoices = s.openChoices := by
  generalize hx : parameterEffect n s = x
  unfold parameterEffect at hx
  split at hx <;> subst hx <;> simp

/-- What `parameterEffect` leaves of the link (R188). -/
@[simp] theorem parameterEffect_requests (n : Nat) (s : State) :
    (parameterEffect n s).link.assembly = s.link.assembly ∧ (parameterEffect n s).link.requests = s.link.requests ∧
    (parameterEffect n s).link.answers = s.link.answers ∧ (parameterEffect n s).link.refusal = s.link.refusal ∧
    (parameterEffect n s).link.overrun = s.link.overrun ∧ (parameterEffect n s).link.nextArrival = s.link.nextArrival ∧
    (parameterEffect n s).link.sending = s.link.sending := by
  generalize hx : parameterEffect n s = x
  unfold parameterEffect at hx
  split at hx <;> subst hx <;> simp

/-- What `writeFloor` leaves as it was (R126). -/
@[simp] theorem writeFloor_frame (c : Contributor) (e : FloorEntry) (s : State) :
    (writeFloor c e s).pending = s.pending ∧ (writeFloor c e s).records = s.records ∧
    (writeFloor c e s).retiring = s.retiring ∧ (writeFloor c e s).titles = s.titles ∧
    (writeFloor c e s).pendingTitles = s.pendingTitles ∧ (writeFloor c e s).tracks = s.tracks ∧
    (writeFloor c e s).readers = s.readers ∧ (writeFloor c e s).lanes = s.lanes ∧ (writeFloor c e s).head = s.head ∧
    (writeFloor c e s).marriageTimer = s.marriageTimer ∧ (writeFloor c e s).press = s.press ∧
    (writeFloor c e s).jackets = s.jackets ∧ (writeFloor c e s).line = s.line ∧ (writeFloor c e s).params = s.params ∧
    (writeFloor c e s).ports = s.ports ∧ (writeFloor c e s).sentFrame = s.sentFrame ∧
    (writeFloor c e s).openChoices = s.openChoices := by
  simp [writeFloor]

/-- What `writeFloor` leaves of the link (R126). -/
@[simp] theorem writeFloor_requests (c : Contributor) (e : FloorEntry) (s : State) :
    (writeFloor c e s).link.assembly = s.link.assembly ∧ (writeFloor c e s).link.requests = s.link.requests ∧
    (writeFloor c e s).link.answers = s.link.answers ∧ (writeFloor c e s).link.refusal = s.link.refusal ∧
    (writeFloor c e s).link.overrun = s.link.overrun ∧ (writeFloor c e s).link.nextArrival = s.link.nextArrival ∧
    (writeFloor c e s).link.sending = s.link.sending := by
  simp [writeFloor]

/-- What `releaseJackets` leaves as it was (R150). -/
@[simp] theorem releaseJackets_frame (b : Bool) (s : State) :
    (releaseJackets b s).pending = s.pending ∧ (releaseJackets b s).records = s.records ∧
    (releaseJackets b s).retiring = s.retiring ∧ (releaseJackets b s).titles = s.titles ∧
    (releaseJackets b s).pendingTitles = s.pendingTitles ∧ (releaseJackets b s).tracks = s.tracks ∧
    (releaseJackets b s).readers = s.readers ∧ (releaseJackets b s).lanes = s.lanes ∧ (releaseJackets b s).head = s.head ∧
    (releaseJackets b s).marriageTimer = s.marriageTimer ∧ (releaseJackets b s).press = s.press ∧
    (releaseJackets b s).pace = s.pace ∧ (releaseJackets b s).line = s.line ∧ (releaseJackets b s).params = s.params ∧
    (releaseJackets b s).link = s.link ∧ (releaseJackets b s).ports = s.ports ∧ (releaseJackets b s).drive = s.drive ∧
    (releaseJackets b s).out = s.out ∧ (releaseJackets b s).sentFrame = s.sentFrame ∧
    (releaseJackets b s).openChoices = s.openChoices := by
  simp [releaseJackets]

/-- What `initialPurge` leaves as it was (R88). -/
@[simp] theorem initialPurge_frame (l : LaneId) (s : State) :
    (initialPurge l s).pending = s.pending ∧ (initialPurge l s).records = s.records ∧
    (initialPurge l s).retiring = s.retiring ∧ (initialPurge l s).titles = s.titles ∧
    (initialPurge l s).pendingTitles = s.pendingTitles ∧ (initialPurge l s).tracks = s.tracks ∧
    (initialPurge l s).readers = s.readers ∧ (initialPurge l s).head = s.head ∧
    (initialPurge l s).marriageTimer = s.marriageTimer ∧ (initialPurge l s).press = s.press ∧
    (initialPurge l s).pace = s.pace ∧ (initialPurge l s).jackets = s.jackets ∧ (initialPurge l s).line = s.line ∧
    (initialPurge l s).params = s.params ∧ (initialPurge l s).link = s.link ∧ (initialPurge l s).ports = s.ports ∧
    (initialPurge l s).sentFrame = s.sentFrame ∧ (initialPurge l s).openChoices = s.openChoices := by
  generalize hx : initialPurge l s = x
  unfold initialPurge at hx
  split at hx <;> subst hx <;> simp

/-- What `initialPurges` leaves as it was (R80, R88). -/
@[simp] theorem initialPurges_frame (s : State) :
    (initialPurges s).pending = s.pending ∧ (initialPurges s).retiring = s.retiring ∧
    (initialPurges s).titles = s.titles ∧ (initialPurges s).pendingTitles = s.pendingTitles ∧
    (initialPurges s).tracks = s.tracks ∧ (initialPurges s).readers = s.readers ∧ (initialPurges s).press = s.press ∧
    (initialPurges s).pace = s.pace ∧ (initialPurges s).jackets = s.jackets ∧ (initialPurges s).line = s.line ∧
    (initialPurges s).params = s.params ∧ (initialPurges s).link = s.link ∧ (initialPurges s).ports = s.ports ∧
    (initialPurges s).sentFrame = s.sentFrame := by
  generalize hx : initialPurges s = x
  unfold initialPurges at hx
  split at hx
  all_goals subst hx
  all_goals simp

/-- What `runLine` leaves as it was (R162). -/
@[simp] theorem runLine_frame (s : State) :
    (runLine s).pending = s.pending ∧ (runLine s).pace = s.pace ∧ (runLine s).jackets = s.jackets ∧
    (runLine s).params = s.params ∧ (runLine s).ports = s.ports ∧ (runLine s).sentFrame = s.sentFrame := by
  simp [runLine]

/-- What `runLine` leaves of the link (R162). -/
@[simp] theorem runLine_requests (s : State) :
    (runLine s).link.assembly = s.link.assembly ∧ (runLine s).link.requests = s.link.requests ∧
    (runLine s).link.answers = s.link.answers ∧ (runLine s).link.refusal = s.link.refusal ∧
    (runLine s).link.overrun = s.link.overrun ∧ (runLine s).link.nextArrival = s.link.nextArrival ∧
    (runLine s).link.sending = s.link.sending := by
  simp [runLine]

/-- What `softStop` leaves as it was (R164). -/
@[simp] theorem softStop_frame (s : State) :
    (softStop s).pending = s.pending ∧ (softStop s).records = s.records ∧ (softStop s).retiring = s.retiring ∧
    (softStop s).titles = s.titles ∧ (softStop s).pendingTitles = s.pendingTitles ∧ (softStop s).tracks = s.tracks ∧
    (softStop s).readers = s.readers ∧ (softStop s).lanes = s.lanes ∧ (softStop s).head = s.head ∧
    (softStop s).marriageTimer = s.marriageTimer ∧ (softStop s).press = s.press ∧ (softStop s).pace = s.pace ∧
    (softStop s).jackets = s.jackets ∧ (softStop s).params = s.params ∧ (softStop s).ports = s.ports ∧
    (softStop s).sentFrame = s.sentFrame ∧ (softStop s).openChoices = s.openChoices := by
  simp [softStop]

/-- What `softStop` leaves of the link (R164). -/
@[simp] theorem softStop_requests (s : State) :
    (softStop s).link.assembly = s.link.assembly ∧ (softStop s).link.requests = s.link.requests ∧
    (softStop s).link.answers = s.link.answers ∧ (softStop s).link.refusal = s.link.refusal ∧
    (softStop s).link.overrun = s.link.overrun ∧ (softStop s).link.nextArrival = s.link.nextArrival ∧
    (softStop s).link.sending = s.link.sending := by
  simp [softStop]

/-- What `stopNowLine` leaves as it was (R166). -/
@[simp] theorem stopNowLine_frame (s : State) :
    (stopNowLine s).pending = s.pending ∧ (stopNowLine s).retiring = s.retiring ∧ (stopNowLine s).titles = s.titles ∧
    (stopNowLine s).pendingTitles = s.pendingTitles ∧ (stopNowLine s).tracks = s.tracks ∧
    (stopNowLine s).readers = s.readers ∧ (stopNowLine s).lanes = s.lanes ∧ (stopNowLine s).head = s.head ∧
    (stopNowLine s).marriageTimer = s.marriageTimer ∧ (stopNowLine s).press = s.press ∧ (stopNowLine s).pace = s.pace ∧
    (stopNowLine s).jackets = s.jackets ∧ (stopNowLine s).params = s.params ∧ (stopNowLine s).ports = s.ports ∧
    (stopNowLine s).sentFrame = s.sentFrame ∧ (stopNowLine s).openChoices = s.openChoices := by
  simp [stopNowLine]

/-- What `stopNowLine` leaves of the link (R166). -/
@[simp] theorem stopNowLine_requests (s : State) :
    (stopNowLine s).link.assembly = s.link.assembly ∧ (stopNowLine s).link.requests = s.link.requests ∧
    (stopNowLine s).link.answers = s.link.answers ∧ (stopNowLine s).link.refusal = s.link.refusal ∧
    (stopNowLine s).link.overrun = s.link.overrun ∧ (stopNowLine s).link.nextArrival = s.link.nextArrival ∧
    (stopNowLine s).link.sending = s.link.sending := by
  simp [stopNowLine]

/-- What `runOutLine` leaves as it was (R168). -/
@[simp] theorem runOutLine_frame (s : State) :
    (runOutLine s).pending = s.pending ∧ (runOutLine s).pace = s.pace ∧ (runOutLine s).jackets = s.jackets ∧
    (runOutLine s).params = s.params ∧ (runOutLine s).ports = s.ports ∧ (runOutLine s).sentFrame = s.sentFrame := by
  simp [runOutLine]

/-- What `runOutLine` leaves of the link (R168). -/
@[simp] theorem runOutLine_requests (s : State) :
    (runOutLine s).link.assembly = s.link.assembly ∧ (runOutLine s).link.requests = s.link.requests ∧
    (runOutLine s).link.answers = s.link.answers ∧ (runOutLine s).link.refusal = s.link.refusal ∧
    (runOutLine s).link.overrun = s.link.overrun ∧ (runOutLine s).link.nextArrival = s.link.nextArrival ∧
    (runOutLine s).link.sending = s.link.sending := by
  simp [runOutLine]

/-- What `pressLeavesFault` leaves as it was (R102). -/
@[simp] theorem pressLeavesFault_frame (s : State) :
    (pressLeavesFault s).pending = s.pending ∧ (pressLeavesFault s).pace = s.pace ∧
    (pressLeavesFault s).jackets = s.jackets ∧ (pressLeavesFault s).line = s.line ∧ (pressLeavesFault s).params = s.params ∧
    (pressLeavesFault s).ports = s.ports ∧ (pressLeavesFault s).sentFrame = s.sentFrame := by
  generalize hx : pressLeavesFault s = x
  unfold pressLeavesFault at hx
  split at hx <;> subst hx <;> simp

/-- What `pressLeavesFault` leaves of the link (R102). -/
@[simp] theorem pressLeavesFault_requests (s : State) :
    (pressLeavesFault s).link.assembly = s.link.assembly ∧ (pressLeavesFault s).link.requests = s.link.requests ∧
    (pressLeavesFault s).link.answers = s.link.answers ∧ (pressLeavesFault s).link.refusal = s.link.refusal ∧
    (pressLeavesFault s).link.overrun = s.link.overrun ∧ (pressLeavesFault s).link.nextArrival = s.link.nextArrival ∧
    (pressLeavesFault s).link.sending = s.link.sending := by
  generalize hx : pressLeavesFault s = x
  unfold pressLeavesFault at hx
  split at hx <;> subst hx <;> simp

/-- What `releaseLine` leaves as it was (R171). -/
@[simp] theorem releaseLine_frame (s : State) :
    (releaseLine s).pending = s.pending ∧ (releaseLine s).pace = s.pace ∧ (releaseLine s).params = s.params ∧
    (releaseLine s).ports = s.ports ∧ (releaseLine s).sentFrame = s.sentFrame := by
  simp [releaseLine]

/-- What `releaseLine` leaves of the link (R171). -/
@[simp] theorem releaseLine_requests (s : State) :
    (releaseLine s).link.assembly = s.link.assembly ∧ (releaseLine s).link.requests = s.link.requests ∧
    (releaseLine s).link.answers = s.link.answers ∧ (releaseLine s).link.refusal = s.link.refusal ∧
    (releaseLine s).link.overrun = s.link.overrun ∧ (releaseLine s).link.nextArrival = s.link.nextArrival ∧
    (releaseLine s).link.sending = s.link.sending := by
  simp [releaseLine]

/-- What `retireAll` leaves as it was (R23). -/
@[simp] theorem retireAll_frame (s : State) :
    (retireAll s).pending = s.pending ∧ (retireAll s).lanes = s.lanes ∧ (retireAll s).head = s.head ∧
    (retireAll s).marriageTimer = s.marriageTimer ∧ (retireAll s).pace = s.pace ∧ (retireAll s).jackets = s.jackets ∧
    (retireAll s).line = s.line ∧ (retireAll s).params = s.params ∧ (retireAll s).ports = s.ports ∧
    (retireAll s).drive = s.drive ∧ (retireAll s).out = s.out ∧ (retireAll s).sentFrame = s.sentFrame ∧
    (retireAll s).openChoices = s.openChoices := by
  simp only [retireAll, offerAll_frame]
  exact ⟨foldl_keeps (·.pending) _ (fun _ _ => by simp) _ _,
    foldl_keeps (·.lanes) _ (fun _ _ => by simp) _ _,
    foldl_keeps (·.head) _ (fun _ _ => by simp) _ _,
    foldl_keeps (·.marriageTimer) _ (fun _ _ => by simp) _ _,
    foldl_keeps (·.pace) _ (fun _ _ => by simp) _ _,
    foldl_keeps (·.jackets) _ (fun _ _ => by simp) _ _,
    foldl_keeps (·.line) _ (fun _ _ => by simp) _ _,
    foldl_keeps (·.params) _ (fun _ _ => by simp) _ _,
    foldl_keeps (·.ports) _ (fun _ _ => by simp) _ _,
    foldl_keeps (·.drive) _ (fun _ _ => by simp) _ _,
    foldl_keeps (·.out) _ (fun _ _ => by simp) _ _,
    foldl_keeps (·.sentFrame) _ (fun _ _ => by simp) _ _,
    foldl_keeps (·.openChoices) _ (fun _ _ => by simp) _ _⟩

/-- What `retireAll` leaves of the link (R23). -/
@[simp] theorem retireAll_requests (s : State) :
    (retireAll s).link.assembly = s.link.assembly ∧ (retireAll s).link.requests = s.link.requests ∧
    (retireAll s).link.answers = s.link.answers ∧ (retireAll s).link.refusal = s.link.refusal ∧
    (retireAll s).link.overrun = s.link.overrun ∧ (retireAll s).link.nextArrival = s.link.nextArrival ∧
    (retireAll s).link.sending = s.link.sending := by
  simp only [retireAll, offerAll_requests]
  exact ⟨foldl_keeps (·.link.assembly) _ (fun _ _ => by simp) _ _,
    foldl_keeps (·.link.requests) _ (fun _ _ => by simp) _ _,
    foldl_keeps (·.link.answers) _ (fun _ _ => by simp) _ _,
    foldl_keeps (·.link.refusal) _ (fun _ _ => by simp) _ _,
    foldl_keeps (·.link.overrun) _ (fun _ _ => by simp) _ _,
    foldl_keeps (·.link.nextArrival) _ (fun _ _ => by simp) _ _,
    foldl_keeps (·.link.sending) _ (fun _ _ => by simp) _ _⟩

/-- What `emptyPlaces` leaves as it was (R173). -/
@[simp] theorem emptyPlaces_frame (s : State) :
    (emptyPlaces s).pending = s.pending ∧ (emptyPlaces s).records = s.records ∧ (emptyPlaces s).retiring = s.retiring ∧
    (emptyPlaces s).titles = s.titles ∧ (emptyPlaces s).pace = s.pace ∧ (emptyPlaces s).line = s.line ∧
    (emptyPlaces s).params = s.params ∧ (emptyPlaces s).link = s.link ∧ (emptyPlaces s).ports = s.ports ∧
    (emptyPlaces s).drive = s.drive ∧ (emptyPlaces s).out = s.out ∧ (emptyPlaces s).sentFrame = s.sentFrame ∧
    (emptyPlaces s).openChoices = s.openChoices := by
  simp [emptyPlaces]

/-- What `clearedLine` leaves as it was (R173). -/
@[simp] theorem clearedLine_frame (s : State) :
    (clearedLine s).pending = s.pending ∧ (clearedLine s).records = s.records ∧ (clearedLine s).retiring = s.retiring ∧
    (clearedLine s).titles = s.titles ∧ (clearedLine s).pendingTitles = s.pendingTitles ∧
    (clearedLine s).tracks = s.tracks ∧ (clearedLine s).readers = s.readers ∧ (clearedLine s).lanes = s.lanes ∧
    (clearedLine s).head = s.head ∧ (clearedLine s).marriageTimer = s.marriageTimer ∧ (clearedLine s).press = s.press ∧
    (clearedLine s).pace = s.pace ∧ (clearedLine s).jackets = s.jackets ∧ (clearedLine s).params = s.params ∧
    (clearedLine s).ports = s.ports ∧ (clearedLine s).drive = s.drive ∧ (clearedLine s).out = s.out ∧
    (clearedLine s).sentFrame = s.sentFrame ∧ (clearedLine s).openChoices = s.openChoices := by
  generalize hx : clearedLine s = x
  unfold clearedLine at hx
  split at hx <;> subst hx <;> simp

/-- What `clearedLine` leaves of the link (R173). -/
@[simp] theorem clearedLine_requests (s : State) :
    (clearedLine s).link.assembly = s.link.assembly ∧ (clearedLine s).link.requests = s.link.requests ∧
    (clearedLine s).link.answers = s.link.answers ∧ (clearedLine s).link.refusal = s.link.refusal ∧
    (clearedLine s).link.overrun = s.link.overrun ∧ (clearedLine s).link.nextArrival = s.link.nextArrival ∧
    (clearedLine s).link.sending = s.link.sending := by
  generalize hx : clearedLine s = x
  unfold clearedLine at hx
  split at hx <;> subst hx <;> simp

/-- What `clearWhole` leaves as it was (R173). -/
@[simp] theorem clearWhole_frame (s : State) :
    (clearWhole s).pending = s.pending ∧ (clearWhole s).params = s.params ∧ (clearWhole s).ports = s.ports ∧
    (clearWhole s).sentFrame = s.sentFrame ∧ (clearWhole s).openChoices = s.openChoices := by
  simp [clearWhole]

/-- What `clearWhole` leaves of the link (R173). -/
@[simp] theorem clearWhole_requests (s : State) :
    (clearWhole s).link.assembly = s.link.assembly ∧ (clearWhole s).link.requests = s.link.requests ∧
    (clearWhole s).link.answers = s.link.answers ∧ (clearWhole s).link.refusal = s.link.refusal ∧
    (clearWhole s).link.overrun = s.link.overrun ∧ (clearWhole s).link.nextArrival = s.link.nextArrival ∧
    (clearWhole s).link.sending = s.link.sending := by
  simp [clearWhole]

/-- What `stray` leaves as it was (R56). -/
@[simp] theorem stray_frame (st : Station) (t : Reading Ticket) (s : State) :
    (stray st t s).pending = s.pending ∧ (stray st t s).records = s.records ∧ (stray st t s).retiring = s.retiring ∧
    (stray st t s).titles = s.titles ∧ (stray st t s).pendingTitles = s.pendingTitles ∧ (stray st t s).tracks = s.tracks ∧
    (stray st t s).readers = s.readers ∧ (stray st t s).lanes = s.lanes ∧ (stray st t s).head = s.head ∧
    (stray st t s).marriageTimer = s.marriageTimer ∧ (stray st t s).press = s.press ∧ (stray st t s).pace = s.pace ∧
    (stray st t s).jackets = s.jackets ∧ (stray st t s).line = s.line ∧ (stray st t s).params = s.params ∧
    (stray st t s).ports = s.ports ∧ (stray st t s).drive = s.drive ∧ (stray st t s).out = s.out ∧
    (stray st t s).sentFrame = s.sentFrame ∧ (stray st t s).openChoices = s.openChoices := by
  simp [stray]

/-- What `stray` leaves of the link (R56). -/
@[simp] theorem stray_requests (st : Station) (t : Reading Ticket) (s : State) :
    (stray st t s).link.assembly = s.link.assembly ∧ (stray st t s).link.requests = s.link.requests ∧
    (stray st t s).link.answers = s.link.answers ∧ (stray st t s).link.refusal = s.link.refusal ∧
    (stray st t s).link.overrun = s.link.overrun ∧ (stray st t s).link.nextArrival = s.link.nextArrival ∧
    (stray st t s).link.sending = s.link.sending := by
  simp [stray]

/-- What `refuseStray` leaves as it was (R56). -/
@[simp] theorem refuseStray_frame (t : Reading Ticket) (s : State) :
    (refuseStray t s).pending = s.pending ∧ (refuseStray t s).records = s.records ∧
    (refuseStray t s).retiring = s.retiring ∧ (refuseStray t s).titles = s.titles ∧
    (refuseStray t s).pendingTitles = s.pendingTitles ∧ (refuseStray t s).tracks = s.tracks ∧
    (refuseStray t s).readers = s.readers ∧ (refuseStray t s).lanes = s.lanes ∧ (refuseStray t s).head = s.head ∧
    (refuseStray t s).marriageTimer = s.marriageTimer ∧ (refuseStray t s).press = s.press ∧
    (refuseStray t s).pace = s.pace ∧ (refuseStray t s).jackets = s.jackets ∧ (refuseStray t s).line = s.line ∧
    (refuseStray t s).params = s.params ∧ (refuseStray t s).ports = s.ports ∧ (refuseStray t s).sentFrame = s.sentFrame ∧
    (refuseStray t s).openChoices = s.openChoices := by
  simp [refuseStray]

/-- What `refuseStray` leaves of the link (R56). -/
@[simp] theorem refuseStray_requests (t : Reading Ticket) (s : State) :
    (refuseStray t s).link.assembly = s.link.assembly ∧ (refuseStray t s).link.requests = s.link.requests ∧
    (refuseStray t s).link.answers = s.link.answers ∧ (refuseStray t s).link.refusal = s.link.refusal ∧
    (refuseStray t s).link.overrun = s.link.overrun ∧ (refuseStray t s).link.nextArrival = s.link.nextArrival ∧
    (refuseStray t s).link.sending = s.link.sending := by
  simp [refuseStray]

/-- What `gateBook` leaves as it was (R57). -/
@[simp] theorem gateBook_frame (t : Ticket) (m : Nat) (s : State) :
    (gateBook t m s).pending = s.pending ∧ (gateBook t m s).retiring = s.retiring ∧ (gateBook t m s).titles = s.titles ∧
    (gateBook t m s).pendingTitles = s.pendingTitles ∧ (gateBook t m s).readers = s.readers ∧
    (gateBook t m s).lanes = s.lanes ∧ (gateBook t m s).head = s.head ∧ (gateBook t m s).marriageTimer = s.marriageTimer ∧
    (gateBook t m s).pace = s.pace ∧ (gateBook t m s).jackets = s.jackets ∧ (gateBook t m s).line = s.line ∧
    (gateBook t m s).params = s.params ∧ (gateBook t m s).ports = s.ports ∧ (gateBook t m s).sentFrame = s.sentFrame ∧
    (gateBook t m s).openChoices = s.openChoices := by
  simp [gateBook]

/-- What `gateBook` leaves of the link (R57). -/
@[simp] theorem gateBook_requests (t : Ticket) (m : Nat) (s : State) :
    (gateBook t m s).link.assembly = s.link.assembly ∧ (gateBook t m s).link.requests = s.link.requests ∧
    (gateBook t m s).link.answers = s.link.answers ∧ (gateBook t m s).link.refusal = s.link.refusal ∧
    (gateBook t m s).link.overrun = s.link.overrun ∧ (gateBook t m s).link.nextArrival = s.link.nextArrival ∧
    (gateBook t m s).link.sending = s.link.sending := by
  simp [gateBook]

/-- What `answerGate` leaves as it was (R59). -/
@[simp] theorem answerGate_frame (t : Ticket) (s : State) :
    (answerGate t s).pending = s.pending ∧ (answerGate t s).retiring = s.retiring ∧ (answerGate t s).titles = s.titles ∧
    (answerGate t s).pendingTitles = s.pendingTitles ∧ (answerGate t s).readers = s.readers ∧
    (answerGate t s).lanes = s.lanes ∧ (answerGate t s).head = s.head ∧ (answerGate t s).marriageTimer = s.marriageTimer ∧
    (answerGate t s).press = s.press ∧ (answerGate t s).pace = s.pace ∧ (answerGate t s).jackets = s.jackets ∧
    (answerGate t s).line = s.line ∧ (answerGate t s).params = s.params ∧ (answerGate t s).link = s.link ∧
    (answerGate t s).ports = s.ports ∧ (answerGate t s).sentFrame = s.sentFrame ∧
    (answerGate t s).openChoices = s.openChoices := by
  generalize hx : answerGate t s = x
  unfold answerGate at hx
  split at hx <;> subst hx <;> simp

/-- What `checkGated` leaves as it was (R58). -/
@[simp] theorem checkGated_frame (t : Ticket) (s : State) :
    (checkGated t s).pending = s.pending ∧ (checkGated t s).lanes = s.lanes ∧ (checkGated t s).head = s.head ∧
    (checkGated t s).marriageTimer = s.marriageTimer ∧ (checkGated t s).pace = s.pace ∧
    (checkGated t s).jackets = s.jackets ∧ (checkGated t s).line = s.line ∧ (checkGated t s).params = s.params ∧
    (checkGated t s).ports = s.ports ∧ (checkGated t s).sentFrame = s.sentFrame ∧
    (checkGated t s).openChoices = s.openChoices := by
  generalize hx : checkGated t s = x
  unfold checkGated at hx
  repeat' split at hx
  all_goals subst hx
  all_goals simp

/-- What `checkGated` leaves of the link (R58). -/
@[simp] theorem checkGated_requests (t : Ticket) (s : State) :
    (checkGated t s).link.assembly = s.link.assembly ∧ (checkGated t s).link.requests = s.link.requests ∧
    (checkGated t s).link.answers = s.link.answers ∧ (checkGated t s).link.refusal = s.link.refusal ∧
    (checkGated t s).link.overrun = s.link.overrun ∧ (checkGated t s).link.nextArrival = s.link.nextArrival ∧
    (checkGated t s).link.sending = s.link.sending := by
  generalize hx : checkGated t s = x
  unfold checkGated at hx
  repeat' split at hx
  all_goals subst hx
  all_goals simp

/-- What `sortBlock` leaves as it was (R56). -/
@[simp] theorem sortBlock_frame (x : Reading Ticket) (m : Nat) (s : State) :
    (sortBlock x m s).pending = s.pending ∧ (sortBlock x m s).lanes = s.lanes ∧ (sortBlock x m s).head = s.head ∧
    (sortBlock x m s).marriageTimer = s.marriageTimer ∧ (sortBlock x m s).pace = s.pace ∧
    (sortBlock x m s).jackets = s.jackets ∧ (sortBlock x m s).params = s.params ∧ (sortBlock x m s).ports = s.ports ∧
    (sortBlock x m s).sentFrame = s.sentFrame ∧ (sortBlock x m s).openChoices = s.openChoices := by
  generalize hx : sortBlock x m s = x
  unfold sortBlock at hx
  repeat' split at hx
  all_goals subst hx
  all_goals simp

/-- What `sortBlock` leaves of the link (R56). -/
@[simp] theorem sortBlock_requests (x : Reading Ticket) (m : Nat) (s : State) :
    (sortBlock x m s).link.assembly = s.link.assembly ∧ (sortBlock x m s).link.requests = s.link.requests ∧
    (sortBlock x m s).link.answers = s.link.answers ∧ (sortBlock x m s).link.refusal = s.link.refusal ∧
    (sortBlock x m s).link.overrun = s.link.overrun ∧ (sortBlock x m s).link.nextArrival = s.link.nextArrival ∧
    (sortBlock x m s).link.sending = s.link.sending := by
  generalize hx : sortBlock x m s = x
  unfold sortBlock at hx
  repeat' split at hx
  all_goals subst hx
  all_goals simp

/-- What `steerCase` leaves as it was (R74). -/
@[simp] theorem steerCase_frame (l : LaneId) (k : TitleKey) (n : Nat) (s : State) :
    (steerCase l k n s).pending = s.pending ∧ (steerCase l k n s).records = s.records ∧
    (steerCase l k n s).retiring = s.retiring ∧ (steerCase l k n s).titles = s.titles ∧
    (steerCase l k n s).pendingTitles = s.pendingTitles ∧ (steerCase l k n s).tracks = s.tracks ∧
    (steerCase l k n s).readers = s.readers ∧ (steerCase l k n s).head = s.head ∧
    (steerCase l k n s).marriageTimer = s.marriageTimer ∧ (steerCase l k n s).press = s.press ∧
    (steerCase l k n s).pace = s.pace ∧ (steerCase l k n s).jackets = s.jackets ∧ (steerCase l k n s).line = s.line ∧
    (steerCase l k n s).params = s.params ∧ (steerCase l k n s).link = s.link ∧ (steerCase l k n s).ports = s.ports ∧
    (steerCase l k n s).sentFrame = s.sentFrame ∧ (steerCase l k n s).openChoices = s.openChoices := by
  simp [steerCase]

/-- What `joinLane` leaves as it was (R74). -/
@[simp] theorem joinLane_frame (l : LaneId) (k : TitleKey) (n : Nat) (s : State) :
    (joinLane l k n s).pending = s.pending ∧ (joinLane l k n s).retiring = s.retiring ∧
    (joinLane l k n s).titles = s.titles ∧ (joinLane l k n s).pendingTitles = s.pendingTitles ∧
    (joinLane l k n s).tracks = s.tracks ∧ (joinLane l k n s).readers = s.readers ∧ (joinLane l k n s).press = s.press ∧
    (joinLane l k n s).pace = s.pace ∧ (joinLane l k n s).jackets = s.jackets ∧ (joinLane l k n s).line = s.line ∧
    (joinLane l k n s).params = s.params ∧ (joinLane l k n s).link = s.link ∧ (joinLane l k n s).ports = s.ports ∧
    (joinLane l k n s).sentFrame = s.sentFrame ∧ (joinLane l k n s).openChoices = s.openChoices := by
  generalize hx : joinLane l k n s = x
  unfold joinLane at hx
  repeat' split at hx
  all_goals subst hx
  all_goals simp

/-- What `takeCaseRead` leaves as it was (R74). -/
@[simp] theorem takeCaseRead_frame (k : TitleKey) (s : State) :
    (takeCaseRead k s).pending = s.pending ∧ (takeCaseRead k s).retiring = s.retiring ∧
    (takeCaseRead k s).titles = s.titles ∧ (takeCaseRead k s).pendingTitles = s.pendingTitles ∧
    (takeCaseRead k s).tracks = s.tracks ∧ (takeCaseRead k s).readers = s.readers ∧ (takeCaseRead k s).press = s.press ∧
    (takeCaseRead k s).pace = s.pace ∧ (takeCaseRead k s).jackets = s.jackets ∧ (takeCaseRead k s).line = s.line ∧
    (takeCaseRead k s).params = s.params ∧ (takeCaseRead k s).link = s.link ∧ (takeCaseRead k s).ports = s.ports ∧
    (takeCaseRead k s).sentFrame = s.sentFrame ∧ (takeCaseRead k s).openChoices = s.openChoices := by
  generalize hx : takeCaseRead k s = x
  unfold takeCaseRead at hx
  repeat' split at hx
  all_goals subst hx
  all_goals simp

/-- What `endPurge` leaves as it was (R85). -/
@[simp] theorem endPurge_frame (l : LaneId) (s : State) :
    (endPurge l s).pending = s.pending ∧ (endPurge l s).retiring = s.retiring ∧ (endPurge l s).titles = s.titles ∧
    (endPurge l s).pendingTitles = s.pendingTitles ∧ (endPurge l s).readers = s.readers ∧ (endPurge l s).pace = s.pace ∧
    (endPurge l s).jackets = s.jackets ∧ (endPurge l s).params = s.params ∧ (endPurge l s).ports = s.ports ∧
    (endPurge l s).sentFrame = s.sentFrame := by
  generalize hx : endPurge l s = x
  unfold endPurge at hx
  split at hx <;> subst hx <;> simp

/-- What `endPurge` leaves of the link (R85). -/
@[simp] theorem endPurge_requests (l : LaneId) (s : State) :
    (endPurge l s).link.assembly = s.link.assembly ∧ (endPurge l s).link.requests = s.link.requests ∧
    (endPurge l s).link.answers = s.link.answers ∧ (endPurge l s).link.refusal = s.link.refusal ∧
    (endPurge l s).link.overrun = s.link.overrun ∧ (endPurge l s).link.nextArrival = s.link.nextArrival ∧
    (endPurge l s).link.sending = s.link.sending := by
  generalize hx : endPurge l s = x
  unfold endPurge at hx
  split at hx <;> subst hx <;> simp

/-- What `purgeTimedOut` leaves as it was (R87). -/
@[simp] theorem purgeTimedOut_frame (l : LaneId) (s : State) :
    (purgeTimedOut l s).pending = s.pending ∧ (purgeTimedOut l s).retiring = s.retiring ∧
    (purgeTimedOut l s).titles = s.titles ∧ (purgeTimedOut l s).pendingTitles = s.pendingTitles ∧
    (purgeTimedOut l s).tracks = s.tracks ∧ (purgeTimedOut l s).readers = s.readers ∧ (purgeTimedOut l s).press = s.press ∧
    (purgeTimedOut l s).pace = s.pace ∧ (purgeTimedOut l s).jackets = s.jackets ∧ (purgeTimedOut l s).params = s.params ∧
    (purgeTimedOut l s).ports = s.ports ∧ (purgeTimedOut l s).sentFrame = s.sentFrame := by
  simp [purgeTimedOut]

/-- What `purgeTimedOut` leaves of the link (R87). -/
@[simp] theorem purgeTimedOut_requests (l : LaneId) (s : State) :
    (purgeTimedOut l s).link.assembly = s.link.assembly ∧ (purgeTimedOut l s).link.requests = s.link.requests ∧
    (purgeTimedOut l s).link.answers = s.link.answers ∧ (purgeTimedOut l s).link.refusal = s.link.refusal ∧
    (purgeTimedOut l s).link.overrun = s.link.overrun ∧ (purgeTimedOut l s).link.nextArrival = s.link.nextArrival ∧
    (purgeTimedOut l s).link.sending = s.link.sending := by
  simp [purgeTimedOut]

/-- What `waitExpired` leaves as it was (R91). -/
@[simp] theorem waitExpired_frame (s : State) :
    (waitExpired s).pending = s.pending ∧ (waitExpired s).pace = s.pace ∧ (waitExpired s).jackets = s.jackets ∧
    (waitExpired s).line = s.line ∧ (waitExpired s).params = s.params ∧ (waitExpired s).ports = s.ports ∧
    (waitExpired s).sentFrame = s.sentFrame := by
  generalize hx : waitExpired s = x
  unfold waitExpired at hx
  split at hx <;> subst hx <;> simp

/-- What `waitExpired` leaves of the link (R91). -/
@[simp] theorem waitExpired_requests (s : State) :
    (waitExpired s).link.assembly = s.link.assembly ∧ (waitExpired s).link.requests = s.link.requests ∧
    (waitExpired s).link.answers = s.link.answers ∧ (waitExpired s).link.refusal = s.link.refusal ∧
    (waitExpired s).link.overrun = s.link.overrun ∧ (waitExpired s).link.nextArrival = s.link.nextArrival ∧
    (waitExpired s).link.sending = s.link.sending := by
  generalize hx : waitExpired s = x
  unfold waitExpired at hx
  split at hx <;> subst hx <;> simp

/-- What `marriedElse` leaves as it was (R94). -/
@[simp] theorem marriedElse_frame (x : Reading Ticket) (s : State) :
    (marriedElse x s).pending = s.pending ∧ (marriedElse x s).records = s.records ∧
    (marriedElse x s).retiring = s.retiring ∧ (marriedElse x s).titles = s.titles ∧
    (marriedElse x s).pendingTitles = s.pendingTitles ∧ (marriedElse x s).tracks = s.tracks ∧
    (marriedElse x s).readers = s.readers ∧ (marriedElse x s).lanes = s.lanes ∧ (marriedElse x s).head = s.head ∧
    (marriedElse x s).marriageTimer = s.marriageTimer ∧ (marriedElse x s).press = s.press ∧
    (marriedElse x s).pace = s.pace ∧ (marriedElse x s).jackets = s.jackets ∧ (marriedElse x s).line = s.line ∧
    (marriedElse x s).params = s.params ∧ (marriedElse x s).ports = s.ports ∧ (marriedElse x s).drive = s.drive ∧
    (marriedElse x s).out = s.out ∧ (marriedElse x s).sentFrame = s.sentFrame ∧ (marriedElse x s).openChoices = s.openChoices := by
  generalize hx : marriedElse x s = x
  unfold marriedElse at hx
  repeat' split at hx
  all_goals subst hx
  all_goals simp

/-- What `marriedElse` leaves of the link (R94). -/
@[simp] theorem marriedElse_requests (x : Reading Ticket) (s : State) :
    (marriedElse x s).link.assembly = s.link.assembly ∧ (marriedElse x s).link.requests = s.link.requests ∧
    (marriedElse x s).link.answers = s.link.answers ∧ (marriedElse x s).link.refusal = s.link.refusal ∧
    (marriedElse x s).link.overrun = s.link.overrun ∧ (marriedElse x s).link.nextArrival = s.link.nextArrival ∧
    (marriedElse x s).link.sending = s.link.sending := by
  generalize hx : marriedElse x s = x
  unfold marriedElse at hx
  repeat' split at hx
  all_goals subst hx
  all_goals simp

/-- What `marriedHead` leaves as it was (R54, R93). -/
@[simp] theorem marriedHead_frame (t : Ticket) (l : LaneId) (s : State) :
    (marriedHead t l s).pending = s.pending ∧ (marriedHead t l s).retiring = s.retiring ∧
    (marriedHead t l s).titles = s.titles ∧ (marriedHead t l s).pendingTitles = s.pendingTitles ∧
    (marriedHead t l s).readers = s.readers ∧ (marriedHead t l s).lanes = s.lanes ∧
    (marriedHead t l s).marriageTimer = s.marriageTimer ∧ (marriedHead t l s).jackets = s.jackets ∧
    (marriedHead t l s).params = s.params ∧ (marriedHead t l s).ports = s.ports ∧
    (marriedHead t l s).sentFrame = s.sentFrame ∧ (marriedHead t l s).openChoices = s.openChoices := by
  generalize hx : marriedHead t l s = x
  unfold marriedHead at hx
  repeat' split at hx
  all_goals subst hx
  all_goals simp

/-- What `marriedHead` leaves of the link (R54, R93). -/
@[simp] theorem marriedHead_requests (t : Ticket) (l : LaneId) (s : State) :
    (marriedHead t l s).link.assembly = s.link.assembly ∧ (marriedHead t l s).link.requests = s.link.requests ∧
    (marriedHead t l s).link.answers = s.link.answers ∧ (marriedHead t l s).link.refusal = s.link.refusal ∧
    (marriedHead t l s).link.overrun = s.link.overrun ∧ (marriedHead t l s).link.nextArrival = s.link.nextArrival ∧
    (marriedHead t l s).link.sending = s.link.sending := by
  generalize hx : marriedHead t l s = x
  unfold marriedHead at hx
  repeat' split at hx
  all_goals subst hx
  all_goals simp

/-- What `takeMarried` leaves as it was (R93). -/
@[simp] theorem takeMarried_frame (x : Reading Ticket) (s : State) :
    (takeMarried x s).pending = s.pending ∧ (takeMarried x s).retiring = s.retiring ∧ (takeMarried x s).titles = s.titles ∧
    (takeMarried x s).pendingTitles = s.pendingTitles ∧ (takeMarried x s).readers = s.readers ∧
    (takeMarried x s).lanes = s.lanes ∧ (takeMarried x s).marriageTimer = s.marriageTimer ∧
    (takeMarried x s).jackets = s.jackets ∧ (takeMarried x s).params = s.params ∧ (takeMarried x s).ports = s.ports ∧
    (takeMarried x s).sentFrame = s.sentFrame ∧ (takeMarried x s).openChoices = s.openChoices := by
  generalize hx : takeMarried x s = x
  unfold takeMarried at hx
  repeat' split at hx
  all_goals subst hx
  all_goals simp

/-- What `takeMarried` leaves of the link (R93). -/
@[simp] theorem takeMarried_requests (x : Reading Ticket) (s : State) :
    (takeMarried x s).link.assembly = s.link.assembly ∧ (takeMarried x s).link.requests = s.link.requests ∧
    (takeMarried x s).link.answers = s.link.answers ∧ (takeMarried x s).link.refusal = s.link.refusal ∧
    (takeMarried x s).link.overrun = s.link.overrun ∧ (takeMarried x s).link.nextArrival = s.link.nextArrival ∧
    (takeMarried x s).link.sending = s.link.sending := by
  generalize hx : takeMarried x s = x
  unfold takeMarried at hx
  repeat' split at hx
  all_goals subst hx
  all_goals simp

/-- What `overheat` leaves as it was (R101). -/
@[simp] theorem overheat_frame (s : State) :
    (overheat s).pending = s.pending ∧ (overheat s).retiring = s.retiring ∧ (overheat s).titles = s.titles ∧
    (overheat s).pendingTitles = s.pendingTitles ∧ (overheat s).tracks = s.tracks ∧ (overheat s).readers = s.readers ∧
    (overheat s).lanes = s.lanes ∧ (overheat s).head = s.head ∧ (overheat s).marriageTimer = s.marriageTimer ∧
    (overheat s).pace = s.pace ∧ (overheat s).jackets = s.jackets ∧ (overheat s).params = s.params ∧
    (overheat s).ports = s.ports ∧ (overheat s).sentFrame = s.sentFrame ∧ (overheat s).openChoices = s.openChoices := by
  generalize hx : overheat s = x
  unfold overheat at hx
  dsimp only at hx
  split at hx <;> subst hx <;> simp

/-- What `overheat` leaves of the link (R101). -/
@[simp] theorem overheat_requests (s : State) :
    (overheat s).link.assembly = s.link.assembly ∧ (overheat s).link.requests = s.link.requests ∧
    (overheat s).link.answers = s.link.answers ∧ (overheat s).link.refusal = s.link.refusal ∧
    (overheat s).link.overrun = s.link.overrun ∧ (overheat s).link.nextArrival = s.link.nextArrival ∧
    (overheat s).link.sending = s.link.sending := by
  generalize hx : overheat s = x
  unfold overheat at hx
  dsimp only at hx
  split at hx <;> subst hx <;> simp

/-- What `pressReady` leaves as it was (R100). -/
@[simp] theorem pressReady_frame (s : State) :
    (pressReady s).pending = s.pending ∧ (pressReady s).retiring = s.retiring ∧ (pressReady s).titles = s.titles ∧
    (pressReady s).pendingTitles = s.pendingTitles ∧ (pressReady s).readers = s.readers ∧ (pressReady s).lanes = s.lanes ∧
    (pressReady s).head = s.head ∧ (pressReady s).marriageTimer = s.marriageTimer ∧ (pressReady s).pace = s.pace ∧
    (pressReady s).jackets = s.jackets ∧ (pressReady s).line = s.line ∧ (pressReady s).params = s.params ∧
    (pressReady s).ports = s.ports ∧ (pressReady s).sentFrame = s.sentFrame ∧ (pressReady s).openChoices = s.openChoices := by
  simp [pressReady]

/-- What `pressReady` leaves of the link (R100). -/
@[simp] theorem pressReady_requests (s : State) :
    (pressReady s).link.assembly = s.link.assembly ∧ (pressReady s).link.requests = s.link.requests ∧
    (pressReady s).link.answers = s.link.answers ∧ (pressReady s).link.refusal = s.link.refusal ∧
    (pressReady s).link.overrun = s.link.overrun ∧ (pressReady s).link.nextArrival = s.link.nextArrival ∧
    (pressReady s).link.sending = s.link.sending := by
  simp [pressReady]

/-- What `pressByTemp` leaves as it was (R100). -/
@[simp] theorem pressByTemp_frame (t : Nat) (s : State) :
    (pressByTemp t s).pending = s.pending ∧ (pressByTemp t s).pace = s.pace ∧ (pressByTemp t s).jackets = s.jackets ∧
    (pressByTemp t s).params = s.params ∧ (pressByTemp t s).ports = s.ports ∧ (pressByTemp t s).sentFrame = s.sentFrame := by
  generalize hx : pressByTemp t s = x
  unfold pressByTemp at hx
  repeat' split at hx
  all_goals subst hx
  all_goals simp

/-- What `pressByTemp` leaves of the link (R100). -/
@[simp] theorem pressByTemp_requests (t : Nat) (s : State) :
    (pressByTemp t s).link.assembly = s.link.assembly ∧ (pressByTemp t s).link.requests = s.link.requests ∧
    (pressByTemp t s).link.answers = s.link.answers ∧ (pressByTemp t s).link.refusal = s.link.refusal ∧
    (pressByTemp t s).link.overrun = s.link.overrun ∧ (pressByTemp t s).link.nextArrival = s.link.nextArrival ∧
    (pressByTemp t s).link.sending = s.link.sending := by
  generalize hx : pressByTemp t s = x
  unfold pressByTemp at hx
  repeat' split at hx
  all_goals subst hx
  all_goals simp

/-- What `takeTemperature` leaves as it was (R100). -/
@[simp] theorem takeTemperature_frame (t : Nat) (s : State) :
    (takeTemperature t s).pending = s.pending ∧ (takeTemperature t s).jackets = s.jackets ∧
    (takeTemperature t s).params = s.params ∧ (takeTemperature t s).ports = s.ports ∧
    (takeTemperature t s).sentFrame = s.sentFrame := by
  simp [takeTemperature]

/-- What `takeTemperature` leaves of the link (R100). -/
@[simp] theorem takeTemperature_requests (t : Nat) (s : State) :
    (takeTemperature t s).link.assembly = s.link.assembly ∧ (takeTemperature t s).link.requests = s.link.requests ∧
    (takeTemperature t s).link.answers = s.link.answers ∧ (takeTemperature t s).link.refusal = s.link.refusal ∧
    (takeTemperature t s).link.overrun = s.link.overrun ∧ (takeTemperature t s).link.nextArrival = s.link.nextArrival ∧
    (takeTemperature t s).link.sending = s.link.sending := by
  simp [takeTemperature]

/-- What `takeIndexReady` leaves as it was (R109). -/
@[simp] theorem takeIndexReady_frame (s : State) :
    (takeIndexReady s).pending = s.pending ∧ (takeIndexReady s).pace = s.pace ∧ (takeIndexReady s).jackets = s.jackets ∧
    (takeIndexReady s).params = s.params ∧ (takeIndexReady s).ports = s.ports ∧ (takeIndexReady s).sentFrame = s.sentFrame := by
  generalize hx : takeIndexReady s = x
  unfold takeIndexReady at hx
  repeat' split at hx
  all_goals subst hx
  all_goals simp

/-- What `takeIndexReady` leaves of the link (R109). -/
@[simp] theorem takeIndexReady_requests (s : State) :
    (takeIndexReady s).link.assembly = s.link.assembly ∧ (takeIndexReady s).link.requests = s.link.requests ∧
    (takeIndexReady s).link.answers = s.link.answers ∧ (takeIndexReady s).link.refusal = s.link.refusal ∧
    (takeIndexReady s).link.overrun = s.link.overrun ∧ (takeIndexReady s).link.nextArrival = s.link.nextArrival ∧
    (takeIndexReady s).link.sending = s.link.sending := by
  generalize hx : takeIndexReady s = x
  unfold takeIndexReady at hx
  repeat' split at hx
  all_goals subst hx
  all_goals simp

/-- What `endIndex` leaves as it was (R111). -/
@[simp] theorem endIndex_frame (s : State) :
    (endIndex s).pending = s.pending ∧ (endIndex s).records = s.records ∧ (endIndex s).retiring = s.retiring ∧
    (endIndex s).titles = s.titles ∧ (endIndex s).pendingTitles = s.pendingTitles ∧ (endIndex s).tracks = s.tracks ∧
    (endIndex s).readers = s.readers ∧ (endIndex s).lanes = s.lanes ∧ (endIndex s).head = s.head ∧
    (endIndex s).marriageTimer = s.marriageTimer ∧ (endIndex s).pace = s.pace ∧ (endIndex s).jackets = s.jackets ∧
    (endIndex s).line = s.line ∧ (endIndex s).params = s.params ∧ (endIndex s).link = s.link ∧
    (endIndex s).ports = s.ports ∧ (endIndex s).drive = s.drive ∧ (endIndex s).out = s.out ∧
    (endIndex s).sentFrame = s.sentFrame ∧ (endIndex s).openChoices = s.openChoices := by
  simp [endIndex]

/-- What `completeIndex` leaves as it was (R111). -/
@[simp] theorem completeIndex_frame (m c : Nat) (s : State) :
    (completeIndex m c s).pending = s.pending ∧ (completeIndex m c s).retiring = s.retiring ∧
    (completeIndex m c s).titles = s.titles ∧ (completeIndex m c s).pendingTitles = s.pendingTitles ∧
    (completeIndex m c s).readers = s.readers ∧ (completeIndex m c s).lanes = s.lanes ∧
    (completeIndex m c s).marriageTimer = s.marriageTimer ∧ (completeIndex m c s).jackets = s.jackets ∧
    (completeIndex m c s).params = s.params ∧ (completeIndex m c s).ports = s.ports ∧
    (completeIndex m c s).sentFrame = s.sentFrame ∧ (completeIndex m c s).openChoices = s.openChoices := by
  simp [completeIndex]

/-- What `completeIndex` leaves of the link (R111). -/
@[simp] theorem completeIndex_requests (m c : Nat) (s : State) :
    (completeIndex m c s).link.assembly = s.link.assembly ∧ (completeIndex m c s).link.requests = s.link.requests ∧
    (completeIndex m c s).link.answers = s.link.answers ∧ (completeIndex m c s).link.refusal = s.link.refusal ∧
    (completeIndex m c s).link.overrun = s.link.overrun ∧ (completeIndex m c s).link.nextArrival = s.link.nextArrival ∧
    (completeIndex m c s).link.sending = s.link.sending := by
  simp [completeIndex]

/-- What `takeIndexDone` leaves as it was (R111). -/
@[simp] theorem takeIndexDone_frame (m c : Nat) (s : State) :
    (takeIndexDone m c s).pending = s.pending ∧ (takeIndexDone m c s).retiring = s.retiring ∧
    (takeIndexDone m c s).titles = s.titles ∧ (takeIndexDone m c s).pendingTitles = s.pendingTitles ∧
    (takeIndexDone m c s).readers = s.readers ∧ (takeIndexDone m c s).lanes = s.lanes ∧
    (takeIndexDone m c s).marriageTimer = s.marriageTimer ∧ (takeIndexDone m c s).jackets = s.jackets ∧
    (takeIndexDone m c s).params = s.params ∧ (takeIndexDone m c s).ports = s.ports ∧
    (takeIndexDone m c s).sentFrame = s.sentFrame ∧ (takeIndexDone m c s).openChoices = s.openChoices := by
  generalize hx : takeIndexDone m c s = x
  unfold takeIndexDone at hx
  split at hx <;> subst hx <;> simp

/-- What `takeIndexDone` leaves of the link (R111). -/
@[simp] theorem takeIndexDone_requests (m c : Nat) (s : State) :
    (takeIndexDone m c s).link.assembly = s.link.assembly ∧ (takeIndexDone m c s).link.requests = s.link.requests ∧
    (takeIndexDone m c s).link.answers = s.link.answers ∧ (takeIndexDone m c s).link.refusal = s.link.refusal ∧
    (takeIndexDone m c s).link.overrun = s.link.overrun ∧ (takeIndexDone m c s).link.nextArrival = s.link.nextArrival ∧
    (takeIndexDone m c s).link.sending = s.link.sending := by
  generalize hx : takeIndexDone m c s = x
  unfold takeIndexDone at hx
  split at hx <;> subst hx <;> simp

/-- What `goStandby` leaves as it was (R119). -/
@[simp] theorem goStandby_frame (s : State) :
    (goStandby s).pending = s.pending ∧ (goStandby s).records = s.records ∧ (goStandby s).retiring = s.retiring ∧
    (goStandby s).titles = s.titles ∧ (goStandby s).pendingTitles = s.pendingTitles ∧ (goStandby s).tracks = s.tracks ∧
    (goStandby s).readers = s.readers ∧ (goStandby s).lanes = s.lanes ∧ (goStandby s).head = s.head ∧
    (goStandby s).marriageTimer = s.marriageTimer ∧ (goStandby s).pace = s.pace ∧ (goStandby s).jackets = s.jackets ∧
    (goStandby s).line = s.line ∧ (goStandby s).params = s.params ∧ (goStandby s).ports = s.ports ∧
    (goStandby s).sentFrame = s.sentFrame ∧ (goStandby s).openChoices = s.openChoices := by
  simp [goStandby]

/-- What `goStandby` leaves of the link (R119). -/
@[simp] theorem goStandby_requests (s : State) :
    (goStandby s).link.assembly = s.link.assembly ∧ (goStandby s).link.requests = s.link.requests ∧
    (goStandby s).link.answers = s.link.answers ∧ (goStandby s).link.refusal = s.link.refusal ∧
    (goStandby s).link.overrun = s.link.overrun ∧ (goStandby s).link.nextArrival = s.link.nextArrival ∧
    (goStandby s).link.sending = s.link.sending := by
  simp [goStandby]

/-- What `takeJacketRead` leaves as it was (R145). -/
@[simp] theorem takeJacketRead_frame (x : Reading TitleKey) (s : State) :
    (takeJacketRead x s).pending = s.pending ∧ (takeJacketRead x s).pace = s.pace ∧ (takeJacketRead x s).params = s.params ∧
    (takeJacketRead x s).ports = s.ports ∧ (takeJacketRead x s).sentFrame = s.sentFrame := by
  generalize hx : takeJacketRead x s = x
  unfold takeJacketRead at hx
  repeat' split at hx
  all_goals subst hx
  all_goals simp

/-- What `takeJacketRead` leaves of the link (R145). -/
@[simp] theorem takeJacketRead_requests (x : Reading TitleKey) (s : State) :
    (takeJacketRead x s).link.assembly = s.link.assembly ∧ (takeJacketRead x s).link.requests = s.link.requests ∧
    (takeJacketRead x s).link.answers = s.link.answers ∧ (takeJacketRead x s).link.refusal = s.link.refusal ∧
    (takeJacketRead x s).link.overrun = s.link.overrun ∧ (takeJacketRead x s).link.nextArrival = s.link.nextArrival ∧
    (takeJacketRead x s).link.sending = s.link.sending := by
  generalize hx : takeJacketRead x s = x
  unfold takeJacketRead at hx
  repeat' split at hx
  all_goals subst hx
  all_goals simp

/-- What `takeApplied` leaves as it was (R149). -/
@[simp] theorem takeApplied_frame (x : Reading Ticket) (s : State) :
    (takeApplied x s).pending = s.pending ∧ (takeApplied x s).pace = s.pace ∧ (takeApplied x s).params = s.params ∧
    (takeApplied x s).ports = s.ports ∧ (takeApplied x s).sentFrame = s.sentFrame := by
  generalize hx : takeApplied x s = x
  unfold takeApplied at hx
  repeat' split at hx
  all_goals subst hx
  all_goals simp

/-- What `takeApplied` leaves of the link (R149). -/
@[simp] theorem takeApplied_requests (x : Reading Ticket) (s : State) :
    (takeApplied x s).link.assembly = s.link.assembly ∧ (takeApplied x s).link.requests = s.link.requests ∧
    (takeApplied x s).link.answers = s.link.answers ∧ (takeApplied x s).link.refusal = s.link.refusal ∧
    (takeApplied x s).link.overrun = s.link.overrun ∧ (takeApplied x s).link.nextArrival = s.link.nextArrival ∧
    (takeApplied x s).link.sending = s.link.sending := by
  generalize hx : takeApplied x s = x
  unfold takeApplied at hx
  repeat' split at hx
  all_goals subst hx
  all_goals simp

/-- What `takePassed` leaves as it was (R67). -/
@[simp] theorem takePassed_frame (x : Reading Ticket) (s : State) :
    (takePassed x s).pending = s.pending ∧ (takePassed x s).pace = s.pace ∧ (takePassed x s).params = s.params ∧
    (takePassed x s).ports = s.ports ∧ (takePassed x s).sentFrame = s.sentFrame := by
  generalize hx : takePassed x s = x
  unfold takePassed at hx
  repeat' split at hx
  all_goals subst hx
  all_goals simp

/-- What `takePassed` leaves of the link (R67). -/
@[simp] theorem takePassed_requests (x : Reading Ticket) (s : State) :
    (takePassed x s).link.assembly = s.link.assembly ∧ (takePassed x s).link.requests = s.link.requests ∧
    (takePassed x s).link.answers = s.link.answers ∧ (takePassed x s).link.refusal = s.link.refusal ∧
    (takePassed x s).link.overrun = s.link.overrun ∧ (takePassed x s).link.nextArrival = s.link.nextArrival ∧
    (takePassed x s).link.sending = s.link.sending := by
  generalize hx : takePassed x s = x
  unfold takePassed at hx
  repeat' split at hx
  all_goals subst hx
  all_goals simp

/-- What `setPort` leaves as it was (R49). -/
@[simp] theorem setPort_frame (st : Station) (x : StationPort) (s : State) :
    (setPort st x s).pending = s.pending ∧ (setPort st x s).records = s.records ∧ (setPort st x s).retiring = s.retiring ∧
    (setPort st x s).titles = s.titles ∧ (setPort st x s).pendingTitles = s.pendingTitles ∧
    (setPort st x s).tracks = s.tracks ∧ (setPort st x s).readers = s.readers ∧ (setPort st x s).lanes = s.lanes ∧
    (setPort st x s).head = s.head ∧ (setPort st x s).marriageTimer = s.marriageTimer ∧ (setPort st x s).press = s.press ∧
    (setPort st x s).pace = s.pace ∧ (setPort st x s).jackets = s.jackets ∧ (setPort st x s).line = s.line ∧
    (setPort st x s).params = s.params ∧ (setPort st x s).link = s.link ∧ (setPort st x s).drive = s.drive ∧
    (setPort st x s).out = s.out ∧ (setPort st x s).sentFrame = s.sentFrame ∧ (setPort st x s).openChoices = s.openChoices := by
  simp [setPort]

/-- What `discardChars` leaves as it was (R200). -/
@[simp] theorem discardChars_frame (st : Station) (s : State) :
    (discardChars st s).pending = s.pending ∧ (discardChars st s).records = s.records ∧
    (discardChars st s).retiring = s.retiring ∧ (discardChars st s).titles = s.titles ∧
    (discardChars st s).pendingTitles = s.pendingTitles ∧ (discardChars st s).tracks = s.tracks ∧
    (discardChars st s).readers = s.readers ∧ (discardChars st s).lanes = s.lanes ∧ (discardChars st s).head = s.head ∧
    (discardChars st s).marriageTimer = s.marriageTimer ∧ (discardChars st s).press = s.press ∧
    (discardChars st s).pace = s.pace ∧ (discardChars st s).jackets = s.jackets ∧ (discardChars st s).line = s.line ∧
    (discardChars st s).params = s.params ∧ (discardChars st s).link = s.link ∧ (discardChars st s).drive = s.drive ∧
    (discardChars st s).out = s.out ∧ (discardChars st s).sentFrame = s.sentFrame ∧
    (discardChars st s).openChoices = s.openChoices := by
  simp [discardChars]

/-- What `countError` leaves as it was (R49). -/
@[simp] theorem countError_frame (st : Station) (s : State) :
    (countError st s).pending = s.pending ∧ (countError st s).records = s.records ∧
    (countError st s).retiring = s.retiring ∧ (countError st s).titles = s.titles ∧
    (countError st s).pendingTitles = s.pendingTitles ∧ (countError st s).tracks = s.tracks ∧
    (countError st s).readers = s.readers ∧ (countError st s).lanes = s.lanes ∧ (countError st s).head = s.head ∧
    (countError st s).marriageTimer = s.marriageTimer ∧ (countError st s).press = s.press ∧
    (countError st s).pace = s.pace ∧ (countError st s).jackets = s.jackets ∧ (countError st s).line = s.line ∧
    (countError st s).params = s.params ∧ (countError st s).link = s.link ∧ (countError st s).drive = s.drive ∧
    (countError st s).out = s.out ∧ (countError st s).sentFrame = s.sentFrame ∧ (countError st s).openChoices = s.openChoices := by
  simp [countError]

/-- What `takeFloor` leaves as it was (R124). -/
@[simp] theorem takeFloor_frame (st : Station) (v : Nat) (s : State) :
    (takeFloor st v s).pending = s.pending ∧ (takeFloor st v s).records = s.records ∧
    (takeFloor st v s).retiring = s.retiring ∧ (takeFloor st v s).titles = s.titles ∧
    (takeFloor st v s).pendingTitles = s.pendingTitles ∧ (takeFloor st v s).tracks = s.tracks ∧
    (takeFloor st v s).readers = s.readers ∧ (takeFloor st v s).lanes = s.lanes ∧ (takeFloor st v s).head = s.head ∧
    (takeFloor st v s).marriageTimer = s.marriageTimer ∧ (takeFloor st v s).press = s.press ∧
    (takeFloor st v s).jackets = s.jackets ∧ (takeFloor st v s).line = s.line ∧ (takeFloor st v s).params = s.params ∧
    (takeFloor st v s).sentFrame = s.sentFrame ∧ (takeFloor st v s).openChoices = s.openChoices := by
  generalize hx : takeFloor st v s = x
  unfold takeFloor at hx
  split at hx <;> subst hx <;> simp

/-- What `takeFloor` leaves of the link (R124). -/
@[simp] theorem takeFloor_requests (st : Station) (v : Nat) (s : State) :
    (takeFloor st v s).link.assembly = s.link.assembly ∧ (takeFloor st v s).link.requests = s.link.requests ∧
    (takeFloor st v s).link.answers = s.link.answers ∧ (takeFloor st v s).link.refusal = s.link.refusal ∧
    (takeFloor st v s).link.overrun = s.link.overrun ∧ (takeFloor st v s).link.nextArrival = s.link.nextArrival ∧
    (takeFloor st v s).link.sending = s.link.sending := by
  generalize hx : takeFloor st v s = x
  unfold takeFloor at hx
  split at hx <;> subst hx <;> simp

/-- What `refuseFrame` leaves as it was (R179). -/
@[simp] theorem refuseFrame_frame (k : Nat) (st : Status) (a : Word) (s : State) :
    (refuseFrame k st a s).pending = s.pending ∧ (refuseFrame k st a s).records = s.records ∧
    (refuseFrame k st a s).retiring = s.retiring ∧ (refuseFrame k st a s).titles = s.titles ∧
    (refuseFrame k st a s).pendingTitles = s.pendingTitles ∧ (refuseFrame k st a s).tracks = s.tracks ∧
    (refuseFrame k st a s).readers = s.readers ∧ (refuseFrame k st a s).lanes = s.lanes ∧
    (refuseFrame k st a s).head = s.head ∧ (refuseFrame k st a s).marriageTimer = s.marriageTimer ∧
    (refuseFrame k st a s).press = s.press ∧ (refuseFrame k st a s).pace = s.pace ∧
    (refuseFrame k st a s).jackets = s.jackets ∧ (refuseFrame k st a s).line = s.line ∧
    (refuseFrame k st a s).params = s.params ∧ (refuseFrame k st a s).ports = s.ports ∧
    (refuseFrame k st a s).drive = s.drive ∧ (refuseFrame k st a s).out = s.out ∧
    (refuseFrame k st a s).sentFrame = s.sentFrame ∧ (refuseFrame k st a s).openChoices = s.openChoices := by
  generalize hx : refuseFrame k st a s = x
  unfold refuseFrame at hx
  split at hx <;> subst hx <;> simp

/-- What `checkFrame` leaves as it was (R177). -/
@[simp] theorem checkFrame_frame (ws : List Word) (a : Word) (s : State) :
    (checkFrame ws a s).pending = s.pending ∧ (checkFrame ws a s).records = s.records ∧
    (checkFrame ws a s).retiring = s.retiring ∧ (checkFrame ws a s).titles = s.titles ∧
    (checkFrame ws a s).pendingTitles = s.pendingTitles ∧ (checkFrame ws a s).tracks = s.tracks ∧
    (checkFrame ws a s).readers = s.readers ∧ (checkFrame ws a s).lanes = s.lanes ∧ (checkFrame ws a s).head = s.head ∧
    (checkFrame ws a s).marriageTimer = s.marriageTimer ∧ (checkFrame ws a s).press = s.press ∧
    (checkFrame ws a s).pace = s.pace ∧ (checkFrame ws a s).jackets = s.jackets ∧ (checkFrame ws a s).line = s.line ∧
    (checkFrame ws a s).params = s.params ∧ (checkFrame ws a s).ports = s.ports ∧ (checkFrame ws a s).drive = s.drive ∧
    (checkFrame ws a s).out = s.out ∧ (checkFrame ws a s).sentFrame = s.sentFrame ∧
    (checkFrame ws a s).openChoices = s.openChoices := by
  generalize hx : checkFrame ws a s = x
  unfold checkFrame at hx
  repeat' split at hx
  all_goals subst hx
  all_goals simp

/-- What `beginFrame` leaves as it was (R175). -/
@[simp] theorem beginFrame_frame (w : Word) (s : State) :
    (beginFrame w s).pending = s.pending ∧ (beginFrame w s).records = s.records ∧ (beginFrame w s).retiring = s.retiring ∧
    (beginFrame w s).titles = s.titles ∧ (beginFrame w s).pendingTitles = s.pendingTitles ∧
    (beginFrame w s).tracks = s.tracks ∧ (beginFrame w s).readers = s.readers ∧ (beginFrame w s).lanes = s.lanes ∧
    (beginFrame w s).head = s.head ∧ (beginFrame w s).marriageTimer = s.marriageTimer ∧ (beginFrame w s).press = s.press ∧
    (beginFrame w s).pace = s.pace ∧ (beginFrame w s).jackets = s.jackets ∧ (beginFrame w s).line = s.line ∧
    (beginFrame w s).params = s.params ∧ (beginFrame w s).ports = s.ports ∧ (beginFrame w s).drive = s.drive ∧
    (beginFrame w s).out = s.out ∧ (beginFrame w s).sentFrame = s.sentFrame ∧ (beginFrame w s).openChoices = s.openChoices := by
  generalize hx : beginFrame w s = x
  unfold beginFrame at hx
  dsimp only at hx
  repeat' split at hx
  all_goals subst hx
  all_goals simp [takeArrival]

/-- What `cutShort` leaves as it was (R176). -/
@[simp] theorem cutShort_frame (s : State) :
    (cutShort s).pending = s.pending ∧ (cutShort s).records = s.records ∧ (cutShort s).retiring = s.retiring ∧
    (cutShort s).titles = s.titles ∧ (cutShort s).pendingTitles = s.pendingTitles ∧ (cutShort s).tracks = s.tracks ∧
    (cutShort s).readers = s.readers ∧ (cutShort s).lanes = s.lanes ∧ (cutShort s).head = s.head ∧
    (cutShort s).marriageTimer = s.marriageTimer ∧ (cutShort s).press = s.press ∧ (cutShort s).pace = s.pace ∧
    (cutShort s).jackets = s.jackets ∧ (cutShort s).line = s.line ∧ (cutShort s).params = s.params ∧
    (cutShort s).ports = s.ports ∧ (cutShort s).drive = s.drive ∧ (cutShort s).out = s.out ∧
    (cutShort s).sentFrame = s.sentFrame ∧ (cutShort s).openChoices = s.openChoices := by
  generalize hx : cutShort s = x
  unfold cutShort at hx
  repeat' split at hx
  all_goals subst hx
  all_goals simp [takeArrival]

/-- What `continueFrame` leaves as it was (R175). -/
@[simp] theorem continueFrame_frame (w : Word) (s : State) :
    (continueFrame w s).pending = s.pending ∧ (continueFrame w s).records = s.records ∧
    (continueFrame w s).retiring = s.retiring ∧ (continueFrame w s).titles = s.titles ∧
    (continueFrame w s).pendingTitles = s.pendingTitles ∧ (continueFrame w s).tracks = s.tracks ∧
    (continueFrame w s).readers = s.readers ∧ (continueFrame w s).lanes = s.lanes ∧ (continueFrame w s).head = s.head ∧
    (continueFrame w s).marriageTimer = s.marriageTimer ∧ (continueFrame w s).press = s.press ∧
    (continueFrame w s).pace = s.pace ∧ (continueFrame w s).jackets = s.jackets ∧ (continueFrame w s).line = s.line ∧
    (continueFrame w s).params = s.params ∧ (continueFrame w s).ports = s.ports ∧ (continueFrame w s).drive = s.drive ∧
    (continueFrame w s).out = s.out ∧ (continueFrame w s).sentFrame = s.sentFrame ∧
    (continueFrame w s).openChoices = s.openChoices := by
  generalize hx : continueFrame w s = x
  unfold continueFrame at hx
  dsimp only at hx
  repeat' split at hx
  all_goals subst hx
  all_goals simp [takeArrival]

/-- What `takeWord` leaves as it was (R175). -/
@[simp] theorem takeWord_frame (w : LinkWord) (s : State) :
    (takeWord s w).pending = s.pending ∧ (takeWord s w).records = s.records ∧ (takeWord s w).retiring = s.retiring ∧
    (takeWord s w).titles = s.titles ∧ (takeWord s w).pendingTitles = s.pendingTitles ∧ (takeWord s w).tracks = s.tracks ∧
    (takeWord s w).readers = s.readers ∧ (takeWord s w).lanes = s.lanes ∧ (takeWord s w).head = s.head ∧
    (takeWord s w).marriageTimer = s.marriageTimer ∧ (takeWord s w).press = s.press ∧ (takeWord s w).pace = s.pace ∧
    (takeWord s w).jackets = s.jackets ∧ (takeWord s w).line = s.line ∧ (takeWord s w).params = s.params ∧
    (takeWord s w).ports = s.ports ∧ (takeWord s w).drive = s.drive ∧ (takeWord s w).out = s.out ∧
    (takeWord s w).sentFrame = s.sentFrame ∧ (takeWord s w).openChoices = s.openChoices := by
  generalize hx : takeWord s w = x
  unfold takeWord at hx
  split at hx <;> subst hx <;> simp

/-- What `frameOut` leaves as it was (R181). -/
@[simp] theorem frameOut_frame (ws : List Word) (s : State) :
    (frameOut ws s).pending = s.pending ∧ (frameOut ws s).records = s.records ∧ (frameOut ws s).retiring = s.retiring ∧
    (frameOut ws s).titles = s.titles ∧ (frameOut ws s).pendingTitles = s.pendingTitles ∧
    (frameOut ws s).tracks = s.tracks ∧ (frameOut ws s).readers = s.readers ∧ (frameOut ws s).lanes = s.lanes ∧
    (frameOut ws s).head = s.head ∧ (frameOut ws s).marriageTimer = s.marriageTimer ∧ (frameOut ws s).press = s.press ∧
    (frameOut ws s).pace = s.pace ∧ (frameOut ws s).jackets = s.jackets ∧ (frameOut ws s).line = s.line ∧
    (frameOut ws s).params = s.params ∧ (frameOut ws s).ports = s.ports ∧ (frameOut ws s).drive = s.drive ∧
    (frameOut ws s).out = s.out ∧ (frameOut ws s).openChoices = s.openChoices := by
  simp [frameOut]

/-- What `refillNotices` leaves as it was (R185). -/
@[simp] theorem refillNotices_frame (s : State) :
    (refillNotices s).pending = s.pending ∧ (refillNotices s).pendingTitles = s.pendingTitles ∧
    (refillNotices s).tracks = s.tracks ∧ (refillNotices s).readers = s.readers ∧ (refillNotices s).lanes = s.lanes ∧
    (refillNotices s).head = s.head ∧ (refillNotices s).marriageTimer = s.marriageTimer ∧
    (refillNotices s).press = s.press ∧ (refillNotices s).pace = s.pace ∧ (refillNotices s).jackets = s.jackets ∧
    (refillNotices s).line = s.line ∧ (refillNotices s).params = s.params ∧ (refillNotices s).ports = s.ports ∧
    (refillNotices s).drive = s.drive ∧ (refillNotices s).out = s.out ∧ (refillNotices s).sentFrame = s.sentFrame ∧
    (refillNotices s).openChoices = s.openChoices := by
  generalize hx : refillNotices s = x
  unfold refillNotices at hx
  repeat' split at hx
  all_goals subst hx
  all_goals simp

/-- What `noticeOut` leaves as it was (R185). -/
@[simp] theorem noticeOut_frame (r : List NoticeEntry) (s : State) :
    (noticeOut r s).pending = s.pending ∧ (noticeOut r s).pendingTitles = s.pendingTitles ∧
    (noticeOut r s).tracks = s.tracks ∧ (noticeOut r s).readers = s.readers ∧ (noticeOut r s).lanes = s.lanes ∧
    (noticeOut r s).head = s.head ∧ (noticeOut r s).marriageTimer = s.marriageTimer ∧ (noticeOut r s).press = s.press ∧
    (noticeOut r s).pace = s.pace ∧ (noticeOut r s).jackets = s.jackets ∧ (noticeOut r s).line = s.line ∧
    (noticeOut r s).params = s.params ∧ (noticeOut r s).ports = s.ports ∧ (noticeOut r s).drive = s.drive ∧
    (noticeOut r s).out = s.out ∧ (noticeOut r s).sentFrame = s.sentFrame ∧ (noticeOut r s).openChoices = s.openChoices := by
  simp [noticeOut]

end Sys2Proof.Machine
end

