-- ==== Sys2Proof/Laws/Messages.lean ====
section
/-! SUPPORT. What a station message's characters spell: every message that passes the port's check is a command, and the command is
well formed. -/

namespace Sys2Proof

/-- R196: order 0 with copy 0 is never named. -/
theorem ticketReading_ok (a b c d : Byte) : (ticketReading a b c d).ticketOk = true := by
  unfold ticketReading
  split
  · rfl
  rename_i h
  simp only [Reading.ticketOk, Bool.not_eq_true', Bool.and_eq_false_iff, beq_eq_false_iff_ne]
  by_contra hc
  rw [not_or, not_not, not_not] at hc
  have e : (a ++ b ++ c).toNat = 0 := congrArg BitVec.toNat hc.1
  simp only [BitVec.toNat_append] at e
  simp at e
  exact h ⟨by simp [bytesNumber, e.1.1, e.1.2, e.2], hc.2⟩

/-- R196: key 0 is never named. -/
theorem keyReading_ok (a b c : Byte) : (keyReading a b c).keyOk = true := by
  unfold keyReading
  split
  · rfl
  · simpa [Reading.keyOk] using ‹_›

/-- R49, R196: a kind that a station sends, with the body length of that kind, spells a command. -/
theorem bodyCommand_isSome {st : Station} {kind : Nat} {body : List Byte} (h : messageLength st kind = some body.length) :
    (bodyCommand st kind body).isSome = true := by
  unfold messageLength at h
  split at h
  all_goals first | cases h | skip
  all_goals
    rcases body with _ | ⟨a, _ | ⟨b, _ | ⟨c, _ | ⟨d, _ | ⟨e, t⟩⟩⟩⟩⟩ <;>
    simp at h
  all_goals first | rfl | (subst h; rfl)

/-- A command that a body spells is well formed. -/
theorem bodyCommand_wellFormed {st : Station} {kind : Nat} {body : List Byte} {c : Instr}
    (h : bodyCommand st kind body = some c) : c.wellFormed = true := by
  unfold bodyCommand at h
  split at h
  all_goals
    simp only [ticketBody, ticketByteBody, keyBody, byteBody, wordBody, wordsBody, emptyBody] at h
    first | cases h | (split at h <;> cases h)
  all_goals first | exact ticketReading_ok _ _ _ _ | exact keyReading_ok _ _ _ | rfl

/-- R49, R196: the command that the characters of a message bring is well formed: DAMAGED_MESSAGE only when they fail the check. -/
theorem messageCommand_wellFormed (st : Station) (bytes : List Byte) : (messageCommand st bytes).wellFormed = true := by
  unfold messageCommand
  split
  · rename_i kind len rest
    split
    · rename_i h
      have hl : messageLength st kind.toNat = some rest.dropLast.length := by
        simp only [messageOk, Bool.and_eq_true, beq_iff_eq] at h
        rw [h.1.2, List.length_dropLast, h.2, Nat.add_sub_cancel]
      obtain ⟨c, hc⟩ := Option.isSome_iff_exists.mp (bodyCommand_isSome hl)
      rw [hc]
      exact bodyCommand_wellFormed hc
    · simp_all [Instr.wellFormed]
  · rename_i h
    cases bytes with
    | nil => rfl
    | cons k t =>
      cases t with
      | nil => rfl
      | cons l t => exact absurd rfl (h k l t)

end Sys2Proof
end

