-- ==== Sys2Proof/Laws/State.lean ====
section
/-! SUPPORT. State updates: for each named update the value of the field that it changes, and reading after writing for lanes,
readers, ports, floors and title sets. What an update leaves as it was stands in Laws/Frames.lean. -/

namespace Sys2Proof.Machine

/-! ### Reading after writing -/

@[simp] theorem Lanes.get_put_same (i : LaneId) (x : Lane) (l : Lanes) : (l.put i x).get i = x := by cases i <;> rfl

theorem Lanes.get_put_other {i j : LaneId} (h : j ≠ i) (x : Lane) (l : Lanes) : (l.put i x).get j = l.get j := by
  cases i <;> cases j <;> first | rfl | exact absurd rfl h

@[simp] theorem Lanes.put_get (i : LaneId) (l : Lanes) : l.put i (l.get i) = l := by cases i <;> rfl

@[simp] theorem Readers.get_put_same (i : ReaderId) (r : Reader) (rs : Readers) : (rs.put i r).get i = r := by cases i <;> rfl

theorem Readers.get_put_other {i j : ReaderId} (h : j ≠ i) (r : Reader) (rs : Readers) : (rs.put i r).get j = rs.get j := by
  cases i <;> cases j <;> first | rfl | exact absurd rfl h

@[simp] theorem Readers.put_get (i : ReaderId) (rs : Readers) : rs.put i (rs.get i) = rs := by cases i <;> rfl

@[simp] theorem Readers.put_put (i : ReaderId) (a b : Reader) (rs : Readers) : (rs.put i a).put i b = rs.put i b := by
  cases i <;> rfl

@[simp] theorem Ports.get_put_same (st : Station) (x : StationPort) (p : Ports) : (p.put st x).get st = x := by cases st <;> rfl

theorem Ports.get_put_other {i j : Station} (h : j ≠ i) (x : StationPort) (p : Ports) : (p.put i x).get j = p.get j := by
  cases i <;> cases j <;> first | rfl | exact absurd rfl h

@[simp] theorem Floors.get_put_same (c : Contributor) (e : FloorEntry) (f : Floors) : (f.put c e).get c = e := by cases c <;> rfl

theorem Floors.get_put_other {c d : Contributor} (h : d ≠ c) (e : FloorEntry) (f : Floors) : (f.put c e).get d = f.get d := by
  cases c <;> cases d <;> first | rfl | exact absurd rfl h

@[simp] theorem TitleSet.get_put_same (w : Way) (e : TitleEntry) (ts : TitleSet) : (ts.put w e).get w = e := by cases w <;> rfl

@[simp] theorem TitleSet.get_put_other (w : Way) (e : TitleEntry) (ts : TitleSet) : (ts.put w e).get w.other = ts.get w.other := by
  cases w <;> rfl

@[simp] theorem TitleSet.put_lru (w : Way) (e : TitleEntry) (ts : TitleSet) : (ts.put w e).lru = ts.lru := by cases w <;> rfl

@[simp] theorem TitleSet.use_lru (w : Way) (ts : TitleSet) : (ts.use w).lru = w.other := rfl

@[simp] theorem TitleSet.use_get (w v : Way) (ts : TitleSet) : (ts.use w).get v = ts.get v := by cases v <;> rfl

@[simp] theorem Way.other_other (w : Way) : w.other.other = w := by cases w <;> rfl

/-- R27: a changed set reads as changed. -/
theorem changeSet_get_same (k : TitleKey) (f : TitleSet → TitleSet) (s : State) :
    (changeSet k f s).titles.get (setOf k) = f (titleSet k s) := by
  simp [changeSet, titleSet, Vector.get_eq_getElem]

/-- R27: every other set reads as before. -/
theorem changeSet_get_other {i : Fin 32} (k : TitleKey) (f : TitleSet → TitleSet) (s : State) (h : i ≠ setOf k) :
    (changeSet k f s).titles.get i = s.titles.get i := by
  have : (setOf k).val ≠ i.val := fun e => h (Fin.ext e.symm)
  simp [changeSet, Vector.get_eq_getElem, this]

/-- The set of a key after a change of that set. -/
@[simp] theorem titleSet_changeSet (k : TitleKey) (f : TitleSet → TitleSet) (s : State) :
    titleSet k (changeSet k f s) = f (titleSet k s) := changeSet_get_same k f s

/-! ### The changed field of each update -/

@[simp] theorem openStep_out (s : State) : (openStep s).out = [] := rfl
@[simp] theorem openStep_sentFrame (s : State) : (openStep s).sentFrame = [] := rfl
@[simp] theorem openStep_openStep (s : State) : openStep (openStep s) = openStep s := rfl
@[simp] theorem setLane_lanes (i : LaneId) (x : Lane) (s : State) : (setLane i x s).lanes = s.lanes.put i x := rfl
@[simp] theorem setPort_ports (st : Station) (x : StationPort) (s : State) : (setPort st x s).ports = s.ports.put st x := rfl
@[simp] theorem setReader_readers (i : ReaderId) (r : Reader) (s : State) : (setReader i r s).readers = s.readers.put i r := rfl
@[simp] theorem putRecord_records (r : BookRecord) (s : State) :
    (putRecord r s).records = s.records.map (fun x => if x.ticket = r.ticket then r else x) := rfl
@[simp] theorem addRecord_records (r : BookRecord) (s : State) : (addRecord r s).records = s.records ++ [r] := rfl
@[simp] theorem startWait_timer (s : State) : (startWait s).marriageTimer = some (s.params.marriageWait * 1000) := rfl
@[simp] theorem clearHead_head (s : State) : (clearHead s).head = .idle := rfl
@[simp] theorem clearHead_timer (s : State) : (clearHead s).marriageTimer = none := rfl
@[simp] theorem endIndex_index (s : State) : (endIndex s).press.index = .clamp := rfl
@[simp] theorem endIndex_carried (s : State) : (endIndex s).press.carried = none := rfl
@[simp] theorem enqueueNotice_notices (e : NoticeEntry) (s : State) : (enqueueNotice e s).link.notices = s.link.notices ++ [e] := rfl
@[simp] theorem enqueueNotice_attn (e : NoticeEntry) (s : State) : (enqueueNotice e s).link.attn = true := rfl
@[simp] theorem enqueueNotice_nextNotice (e : NoticeEntry) (s : State) :
    (enqueueNotice e s).link.nextNotice = s.link.nextNotice := rfl
@[simp] theorem frameOut_sentFrame (ws : List Word) (s : State) : (frameOut ws s).sentFrame = ws := rfl
@[simp] theorem frameOut_sending (ws : List Word) (s : State) : (frameOut ws s).link.sending = .idle := rfl
@[simp] theorem setLine_line (st : LineState) (c : Cause) (s : State) : (setLine st c s).line = ⟨st, some c⟩ := by
  simp [setLine]
@[simp] theorem idleRefresh_timer (s : State) : (idleRefresh s).press.idleTimer =
    if idleRuns s then some (s.press.idleTimer.getD (s.params.idleTime * 60000)) else none := rfl
@[simp] theorem recomputeDemand_pd (s : State) : (recomputeDemand s).press.pd = pressDemand s := by simp [recomputeDemand]

/-- The places, lanes and head that Clear Line leaves (R38, R55, R98, R121, R157). -/
@[simp] theorem emptyPlaces_fields (s : State) :
    (emptyPlaces s).tracks = .resetValue ∧ (emptyPlaces s).lanes = ⟨.unknown, .unknown⟩ ∧ (emptyPlaces s).head = .idle ∧
    (emptyPlaces s).marriageTimer = none ∧ (emptyPlaces s).pendingTitles = [] ∧
    (emptyPlaces s).press.positions = .empty ∧ (emptyPlaces s).jackets.sequence = [] ∧
    (emptyPlaces s).jackets.state = .free := ⟨rfl, rfl, rfl, rfl, rfl, rfl, rfl, rfl⟩

/-! ### Lists of records -/

/-- A record found under a ticket holds it. -/
theorem findRecord_ticket {t : Ticket} {s : State} {r : BookRecord} (h : findRecord t s = some r) : r.ticket = t := by
  simpa using List.find?_some h

/-- A record found stands in the table. -/
theorem findRecord_mem {t : Ticket} {s : State} {r : BookRecord} (h : findRecord t s = some r) : r ∈ s.records :=
  List.mem_of_find?_eq_some h

/-- R7: a live record is found under its ticket and is not in RETIRING. -/
theorem liveRecord_iff {t : Ticket} {s : State} {r : BookRecord} :
    liveRecord t s = some r ↔ findRecord t s = some r ∧ r.stage ≠ .retiring := by
  simp [liveRecord, Option.filter_eq_some_iff]

/-- A table of the same records answers the same record. -/
theorem findRecord_congr {t : Ticket} {s s' : State} (h : s'.records = s.records) : findRecord t s' = findRecord t s := by
  simp [findRecord, h]

/-- A table of the same records answers the same live record. -/
theorem liveRecord_congr {t : Ticket} {s s' : State} (h : s'.records = s.records) : liveRecord t s' = liveRecord t s := by
  simp [liveRecord, findRecord_congr h]

/-- The record put in the table is found under its ticket, when that ticket had one. -/
theorem findRecord_putRecord_same {s : State} {r r0 : BookRecord} (h : findRecord r.ticket s = some r0) :
    findRecord r.ticket (putRecord r s) = some r := by
  unfold findRecord at h ⊢
  simp only [putRecord]
  generalize s.records = rs at h
  induction rs with
  | nil => simp at h
  | cons x xs ih =>
    by_cases hx : x.ticket = r.ticket
    · simp [hx]
    · have hb : (x.ticket == r.ticket) = false := by simp [hx]
      rw [List.find?_cons, hb] at h
      rw [List.map_cons, if_neg hx, List.find?_cons, hb]
      exact ih h

/-- Every other ticket finds what it found. -/
theorem findRecord_putRecord_other {s : State} {r : BookRecord} {t : Ticket} (h : t ≠ r.ticket) :
    findRecord t (putRecord r s) = findRecord t s := by
  unfold findRecord
  simp only [putRecord]
  generalize s.records = rs
  induction rs with
  | nil => rfl
  | cons x xs ih =>
    by_cases hx : x.ticket = r.ticket
    · have hb : (r.ticket == t) = false := by simp [Ne.symm h]
      have hb' : (x.ticket == t) = false := by rw [hx]; exact hb
      rw [List.map_cons, if_pos hx, List.find?_cons, List.find?_cons, hb, hb']
      exact ih
    · rw [List.map_cons, if_neg hx, List.find?_cons, List.find?_cons, ih]

end Sys2Proof.Machine
end

