-- ==== Sys2Proof/Laws/Ops.lean ====
section
/-! SUPPORT. What each shared operation can do, said once: the equation of each of its cases. -/

namespace Sys2Proof.Machine

/-! ### Sending and notices -/

/-- R50: what `send` does when nothing keeps the command back. -/
theorem send_now {c : PortCommand} {s : State} (h : c.toDrive = false ∨ s.drive.stopDue = none) :
    send c s = { s with out := s.out ++ [c] } := by
  rcases h with h | h <;> simp [send, h]

/-- R201: before the first STOP a drive command waits. -/
theorem send_waits {c : PortCommand} {s : State} (hc : c.toDrive = true) (hs : s.drive.stopDue.isSome = true) :
    send c s = { s with drive := { s.drive with waiting := s.drive.waiting ++ [c] } } := by simp [send, hc, hs]

/-- R183: a notice that finds room, with none waiting, enters the queue. -/
theorem produce_queued {n : Notice} {s : State} (hr : s.link.notices.length < 32) (hw : noticeWaits s = false) :
    produce n s = enqueueNotice ⟨s.link.nextNotice, n⟩ { s with link := { s.link with nextNotice := s.link.nextNotice + 1 } } := by
  simp [produce, Config.noticePlaces, hr, hw]

/-- R184: any other notice takes the held place of its kind. -/
theorem produce_held {n : Notice} {s : State} (h : ¬(s.link.notices.length < 32 ∧ noticeWaits s = false)) :
    produce n s = { s with link := { s.link with
      held := s.link.held.put ⟨s.link.nextNotice, n⟩, nextNotice := s.link.nextNotice + 1 } } := by
  simp [produce, Config.noticePlaces, h]

/-- R181: noting the frame that may begin leaves the notice side of the link as it was. -/
@[simp] theorem noteSending_notices (s : State) :
    (noteSending s).link.notices = s.link.notices ∧ (noteSending s).link.held = s.link.held ∧
    (noteSending s).link.attn = s.link.attn ∧ (noteSending s).link.nextNotice = s.link.nextNotice := by
  unfold noteSending
  repeat' split
  all_goals simp

/-- R181: at the end of a step data out carries idle words exactly while nothing waits to be sent. -/
theorem noteSending_dataOut (s : State) :
    (noteSending s).dataOut =
      if s.link.refusal = none ∧ s.link.answers = [] ∧ s.link.notices = [] then some 0 else none := by
  unfold noteSending
  repeat' split
  all_goals simp_all [Config.idleWord]

/-- Noting the frame that may begin twice notes no more than once. -/
theorem noteSending_noteSending (s : State) : noteSending (noteSending s) = noteSending s := by
  unfold noteSending
  repeat' split
  all_goals simp_all

/-! ### Book records -/

/-- R7: a change of a live record. -/
theorem changeRecord_live {t : Ticket} {r : BookRecord} {s : State} (h : liveRecord t s = some r)
    (f : BookRecord → BookRecord) : changeRecord t f s = putRecord (f r) s := by simp [changeRecord, h]

/-- R7: a change that names no live record is not applied. -/
theorem changeRecord_absent {t : Ticket} {s : State} (h : liveRecord t s = none) (f : BookRecord → BookRecord) :
    changeRecord t f s = s := by simp [changeRecord, h]

/-- A record put in its place leaves the tickets of the table as they were. -/
theorem putRecord_tickets (r : BookRecord) (s : State) : (putRecord r s).records.map (·.ticket) = s.records.map (·.ticket) := by
  simp only [putRecord_records, List.map_map]
  refine List.map_congr_left fun x _ => ?_
  simp only [Function.comp]
  split <;> simp_all

/-- A change of a record that keeps its ticket leaves the tickets of the table as they were. -/
theorem changeRecord_tickets (t : Ticket) (f : BookRecord → BookRecord) (s : State) :
    (changeRecord t f s).records.map (·.ticket) = s.records.map (·.ticket) := by
  unfold changeRecord
  split
  · exact putRecord_tickets _ _
  · rfl

/-- R7: the changed record is found under its ticket. -/
theorem findRecord_changeRecord_same {t : Ticket} {r : BookRecord} {s : State} (f : BookRecord → BookRecord)
    (hf : (f r).ticket = t) (h : liveRecord t s = some r) : findRecord t (changeRecord t f s) = some (f r) := by
  rw [changeRecord_live h]
  have := findRecord_putRecord_same (r := f r) (s := s) (by rw [hf]; exact (liveRecord_iff.1 h).1)
  rwa [hf] at this

/-- R7: every other record is found as it was. -/
theorem findRecord_changeRecord_other {t u : Ticket} {s : State} (f : BookRecord → BookRecord)
    (hf : ∀ r, (f r).ticket = r.ticket) (h : u ≠ t) : findRecord u (changeRecord t f s) = findRecord u s := by
  cases hl : liveRecord t s with
  | none => rw [changeRecord_absent hl]
  | some r =>
    rw [changeRecord_live hl]
    refine findRecord_putRecord_other ?_
    rw [hf, findRecord_ticket (liveRecord_iff.1 hl).1]
    exact h

/-! ### Retirement -/

/-- R8: only a live record enters RETIRING. -/
theorem enterRetiring_absent {t : Ticket} {s : State} (h : liveRecord t s = none) (o : BookOutcome) (e : Option Reason) :
    enterRetiring t o e s = s := by simp [enterRetiring, h]

/-- R8: what entering RETIRING does to a live record and to what names its ticket. -/
theorem enterRetiring_live {t : Ticket} {r : BookRecord} {s : State} (h : liveRecord t s = some r) (o : BookOutcome)
    (e : Option Reason) :
    let x := enterRetiring t o e s
    x.records = s.records.map (fun y => if y.ticket = r.ticket then
      { r with stage := .retiring, outcome := some o, reasons := retireReasons o r.flags e, position := none } else y) ∧
    x.retiring = s.retiring ++ [t] ∧
    x.pendingTitles = (if r.source = .table ∧ r.resolved = false then stopWaiting r.key s else s).pendingTitles ∧
    x.tracks = (forgetTicket t (vacate t s)).tracks ∧ x.readers = (forgetTicket t s).readers ∧
    x.press = { s.press with positions := s.press.positions.drop t } := by
  simp only [enterRetiring, h]
  split <;> simp [forgetTicket, vacate, stopWaiting, putRecord]

/-- R11: with the notice queue full nothing is offered. -/
theorem offerAll_full {s : State} (h : 32 ≤ s.link.notices.length) (ts : List Ticket) : offerAll ts s = s := by
  cases ts with
  | nil => rfl
  | cons t ts => simp [offerAll, Config.noticePlaces, Nat.not_lt.2 h]

/-- R11: with room the head of the order is offered first. -/
theorem offerAll_room {s : State} (h : s.link.notices.length < 32) (t : Ticket) (ts : List Ticket) :
    offerAll (t :: ts) s = offerAll ts (offerRetired t s) := by simp [offerAll, Config.noticePlaces, h]

/-- R8, R11: a record that retires while the queue is full waits in the order. -/
theorem retire_full {s : State} (h : 32 ≤ s.link.notices.length) (t : Ticket) (o : BookOutcome) (e : Option Reason) :
    retire t o e s = enterRetiring t o e s := by
  have hl : (enterRetiring t o e s).link = s.link := by simp
  exact offerAll_full (by rw [hl]; exact h) _

/-! ### Steps, messages and requests -/

/-- Every step of `stepWith` answers a next state. -/
theorem stepWith_next (f : State → State) (s : State) : stepWith f s = .next (noteSending (f (openStep s))) := rfl

/-- R200: a message that a listening port takes. -/
theorem takeMessage_listens {st : Station} {s : State} (h : (s.ports.get st).quiet = none) (f : State → State) :
    takeMessage st f s = .next (noteSending (f (openStep s))) := by simp [takeMessage, h, stepWith]

/-- R200: a message that comes before the quiet time has run. -/
theorem takeMessage_discards {st : Station} {s : State} {n : Nat} (h : (s.ports.get st).quiet = some n) (f : State → State) :
    takeMessage st f s = .next (noteSending (discardChars st (openStep s))) := by simp [takeMessage, h, stepWith]

/-- R180: a request row at its own request. -/
theorem serve_own {handle : Request → Option (State → Handled)} {s : State} {q : QueuedRequest} {rest : List QueuedRequest}
    {h : State → Handled} (hq : s.link.requests = q :: rest) (hh : handle q.request = some h) :
    serve handle s = .next (noteSending (fillAnswer q (h { openStep s with link := { s.link with requests := rest } }))) := by
  simp only [serve, hq, hh, stepWith]
  rfl

/-- Log 1: a request row at another request changes nothing. -/
theorem serve_other {handle : Request → Option (State → Handled)} {s : State} {q : QueuedRequest} {rest : List QueuedRequest}
    (hq : s.link.requests = q :: rest) (hh : handle q.request = none) : serve handle s = .next (openStep s) := by
  simp [serve, hq, hh]

/-- Log 1: a request row with no request queued changes nothing. -/
theorem serve_empty {handle : Request → Option (State → Handled)} {s : State} (hq : s.link.requests = []) :
    serve handle s = .next (openStep s) := by simp [serve, hq]

/-! ### The line -/

/-- R160: STOP goes to a drive that runs. -/
theorem stopDrive_runs {s : State} (h : s.line.state.driveRuns = true) : stopDrive s = send .driveStop s := by
  simp [stopDrive, h]

/-- R160: a drive that stands is sent no STOP. -/
theorem stopDrive_stands {s : State} (h : s.line.state.driveRuns = false) : stopDrive s = s := by simp [stopDrive, h]

/-- R170: a fault inside FAULT_HOLD leaves the line as it is. -/
theorem enterFault_held {s : State} (h : s.line.state = .faultHold) (c : Cause) : enterFault c s = s := by simp [enterFault, h]

/-- R170: a fault elsewhere puts the line in FAULT_HOLD. -/
theorem enterFault_enters {s : State} (h : s.line.state ≠ .faultHold) (c : Cause) :
    enterFault c s = setLine .faultHold c (haltPaste (stopDrive s)) := by simp [enterFault, h]

/-- R96: only a head in PASTING is halted. -/
theorem haltPaste_other {s : State} (h : ∀ t l, s.head ≠ .pasting t l) : haltPaste s = s := by
  unfold haltPaste
  split
  · exact absurd ‹_› (h _ _)
  · rfl

/-- R165: outside STOPPING there is no soft stop to complete. -/
theorem softStopTest_other {s : State} (h : s.line.state ≠ .stopping) : softStopTest s = s := by simp [softStopTest, h]

/-- R169: outside RUNNING_OUT there is no run-out to complete. -/
theorem runOutTest_other {s : State} (h : s.line.state ≠ .runningOut) : runOutTest s = s := by simp [runOutTest, h]

/-- R169: a run-out with books on the line is not complete. -/
theorem runOutTest_occupied {s : State} (h : lineEmpty s = false) : runOutTest s = s := by simp [runOutTest, h]

/-- R103: a press state that stays brings no notice. -/
theorem setPress_same {st : PressState} {s : State} (h : s.press.state = st) : setPress st s = s := by simp [setPress, h]

/-- R103: a press state that changes brings its notice. -/
theorem setPress_change {st : PressState} {s : State} (h : s.press.state ≠ st) :
    setPress st s = produce (.pressState st s.press.temp) { s with press := { s.press with state := st } } := by
  simp [setPress, h]

/-- R119: only a STANDBY press is woken. -/
theorem wakePress_other {s : State} (h : s.press.state ≠ .standby) : wakePress s = s := by simp [wakePress, h]

/-! ### Gate, lanes and head -/

/-- R60: with no block held the gate has none to admit. -/
theorem gateTest_none {s : State} (h : s.tracks.gateHold = none) : gateTest s = s := by simp [gateTest, h]

/-- R60: a closed gate admits no block. -/
theorem gateTest_closed {s : State} (h : gateOpen s = false) : gateTest s = s := by
  unfold gateTest
  split <;> simp [h]

/-- R60: an open gate admits the block held. -/
theorem gateTest_open {s : State} {t : Ticket} (ht : s.tracks.gateHold = some t) (h : gateOpen s = true) :
    gateTest s = admitHeld t s := by simp [gateTest, ht, h]

/-- R81: a head that does not wait on a lane sends no TAKE_CASE. -/
theorem tryTakeCase_other {s : State} (h : ∀ t l, s.head ≠ .waitCase t (some l)) : tryTakeCase s = s := by
  unfold tryTakeCase
  split
  · exact absurd ‹_› (h _ _)
  · rfl

/-- R81: a line that does not feed sends no TAKE_CASE. -/
theorem tryTakeCase_stands {s : State} (h : s.line.state.feeds = false) : tryTakeCase s = s := by
  unfold tryTakeCase
  repeat' split
  all_goals simp_all

/-- R81: a head whose lane holds its case takes it in a line that feeds. -/
theorem tryTakeCase_takes {s : State} {t : Ticket} {l : LaneId} {k : TitleKey} {n : Nat} (hh : s.head = .waitCase t (some l))
    (hl : s.lanes.get l = .holding k n) (hk : keyOf t s = some k) (hf : s.line.state.feeds = true) :
    tryTakeCase s = takeCase t l k n s := by simp [tryTakeCase, hh, hl, hk, hf]

/-- R80: only a head that waits with no lane decides again. -/
theorem decideAgain_other {s : State} (h : ∀ t, s.head ≠ .waitCase t none) : decideAgain s = s := by
  unfold decideAgain
  split
  · exact absurd ‹_› (h _)
  · rfl

/-- R80: a head that waits with no lane decides by its record's key. -/
theorem decideAgain_waits {s : State} {t : Ticket} {k : TitleKey} (h : s.head = .waitCase t none) (hk : keyOf t s = some k) :
    decideAgain s = laneDecision t k s := by simp [decideAgain, h, hk]

/-- R66: a head that holds a record takes no waiting reading. -/
theorem actWaitingS3_busy {s : State} (h : s.head ≠ .idle) : actWaitingS3 s = s := by simp [actWaitingS3, h]

/-- R66: with no waiting reading nothing arrives. -/
theorem actWaitingS3_none {s : State} (h : s.readers.s3.waiting = none) : actWaitingS3 s = s := by
  simp [actWaitingS3, h]

/-- R95: a head that does not hold the book in HOLD_MARRIED gives up nothing. -/
theorem headGivesUp_other {s : State} {t : Ticket} (h : ∀ l, s.head ≠ .holdMarried t l) : headGivesUp t s = s := by
  unfold headGivesUp
  split
  · split
    · next u l hu e => subst e; exact absurd hu (h l)
    · rfl
  · rfl

/-! ### Press, pace and jackets -/

/-- R109: an index that is not held, or not permitted, is not sent. -/
theorem indexRetest_other {s : State} (h : ¬(s.press.index = .held ∧ indexPermitted s = true)) : indexRetest s = s := by
  simp [indexRetest, h]

/-- R54: an occupied entry place takes no waiting marriage. -/
theorem takeWaiting_occupied {s : State} (h : s.tracks.entry ≠ none) : takeWaiting s = s := by simp [takeWaiting, h]

/-- R54: without a waiting marriage none is taken. -/
theorem takeWaiting_none {s : State} (h : s.tracks.waitingMarriage = none) : takeWaiting s = s := by
  unfold takeWaiting
  repeat' split
  all_goals simp_all

/-- R66: with no waiting reading at S5 no book arrives. -/
theorem actWaitingS5_none {s : State} (h : s.readers.s5.waiting = none) : actWaitingS5 s = s := by simp [actWaitingS5, h]

/-- R66: a full delivery track keeps the reading at S5 waiting. -/
theorem actWaitingS5_full {s : State} (h : 2 ≤ s.tracks.delivery.length) : actWaitingS5 s = s := by
  simp [actWaitingS5, Config.deliveryPlaces, Nat.not_lt.2 h]

/-! ### Frames on the line link -/

/-- R175: with no frame in assembly, words without frame sync are discarded. -/
theorem takeWords_idle {s : State} (h : s.link.assembly = []) (ws : List Word) :
    (ws.map (LinkWord.mk false)).foldl takeWord s = s := by
  induction ws with
  | nil => rfl
  | cons w ws ih => simpa [takeWord, continueFrame, h] using ih

/-- R175: words that do not complete the frame in assembly join it. -/
theorem takeWords_part {s : State} {header : Word} {pre : List Word} (h : s.link.assembly = header :: pre) (ws : List Word)
    (hl : (header :: pre).length + ws.length < loByte header) :
    (ws.map (LinkWord.mk false)).foldl takeWord s =
      { s with link := { s.link with assembly := header :: pre ++ ws } } := by
  induction ws generalizing s pre with
  | nil => simp [← h]
  | cons w ws ih =>
    simp only [List.length_cons] at hl
    simp only [List.map_cons, List.foldl_cons, takeWord, continueFrame, h, Bool.false_eq_true, if_false]
    rw [if_pos (by simp; omega), ih (pre := pre ++ [w]) (by simp) (by simp; omega)]
    simp

/-- R175: a frame with its declared words, begun with no frame in assembly, is checked as a whole. -/
theorem takeWords_whole {s : State} {header : Word} {rest : List Word} (ha : s.link.assembly = [])
    (hl : loByte header = rest.length + 1) (h40 : rest.length + 1 ≤ 40) :
    (LinkWord.mk true header :: rest.map (LinkWord.mk false)).foldl takeWord s = takeArrival (checkFrame (header :: rest)) s := by
  have hs : { s with link := { s.link with assembly := [] } } = s := by rw [← ha]
  simp only [List.foldl_cons, takeWord, if_true, cutShort, ha, beginFrame, hl, Config.requestWords]
  rw [if_neg (by omega)]
  rcases List.eq_nil_or_concat rest with rfl | ⟨init, last, rfl⟩
  · simp [hs]
  · rw [if_neg (by simp)]
    simp only [List.concat_eq_append, List.map_append, List.foldl_append]
    rw [takeWords_part (pre := []) rfl init (by simp [hl]; omega)]
    simp only [List.map_cons, List.map_nil, List.foldl_cons, List.foldl_nil, takeWord, continueFrame, Bool.false_eq_true,
      if_false]
    simp [hl, hs]

end Sys2Proof.Machine
end

