-- ==== Sys2Proof/Tests/Slice0.lean ====
section
/-! SUPPORT. Tests: ill-formed commands refused by each check, one or two steps of every command with values from the rules and worked
examples of spec/, and for every statement with hypotheses a state that meets them. -/

namespace Sys2Proof.Tests

open Sys2Proof.Machine

/-! ### Small states -/

/-- A ticket as the spec writes it. -/
def tk (order copy : Nat) : Ticket := ⟨BitVec.ofNat 24 order, BitVec.ofNat 8 copy⟩

/-- Listening ports. -/
def listening : Ports := ⟨⟨0, none⟩, ⟨0, none⟩, ⟨0, none⟩, ⟨0, none⟩, ⟨0, none⟩, ⟨0, none⟩⟩

/-- The part 20 ms after reset: the ports listen and the drive's STOP has been sent. -/
def base : State := { State.reset with ports := listening, drive := ⟨none, []⟩ }

/-- A line state, with both lanes past the initial purge and the press READY at 66 degrees. -/
def line (st : LineState) (s : State) : State :=
  { s with
    line := ⟨st, some .run⟩
    lanes := ⟨.empty, .empty⟩
    press := { s.press with state := .ready, temp := some 66 } }

/-- The line RUNNING. -/
def running : State := line .running base

/-- A request at the head of the request queue. -/
def asked (r : Request) (s : State) : State := { s with link := { s.link with requests := [⟨r, 7⟩] } }

/-- The parameters of a title of spine 12 mm. -/
def par : TitleParams := ⟨12, 200, 140, 1, 3, none⟩

/-- A one-off book. -/
def book (t : Ticket) (k : TitleKey) (st : Stage) : BookRecord :=
  { ticket := t, key := k, source := .oneOff, oneOff := some par, resolved := true, stage := st }

/-- A table book. -/
def tableBook (t : Ticket) (k : TitleKey) (st : Stage) (resolved : Bool) : BookRecord :=
  { ticket := t, key := k, source := .table, resolved := resolved, stage := st }

/-- Records in the table. -/
def books (rs : List BookRecord) (s : State) : State := { s with records := rs }

/-- Lanes A and B. -/
def lanes (a b : Lane) (s : State) : State := { s with lanes := ⟨a, b⟩ }

/-- A valid entry in its set. -/
def title (w : Way) (e : TitleEntry) (s : State) : State := changeSet e.key (·.put w e) s

/-- A valid entry of `par`. -/
def entry (k : TitleKey) (pin : Nat) : TitleEntry := ⟨true, k, par, 0, 0, false, pin⟩

/-- Thirty-two notices in the queue. -/
def fullQueue (s : State) : State :=
  { s with link := { s.link with notices := List.replicate 32 ⟨0, .titleRequest 1⟩, attn := true } }

/-- An item of the state after a command, when it answers a next state. -/
def after {α : Type} (c : Instr) (s : State) (f : State → α) : Option α :=
  match exec c s with
  | .next t => some (f t)
  | _ => none

/-- Status and body of the newest answer. -/
def lastAnswer (t : State) : Option (Status × List Word) := t.link.answers.getLast?.map fun a => (a.status, a.body)

/-- The notices in the queue. -/
def notices (t : State) : List Notice := t.link.notices.map (·.notice)

/-! ### Ill-formed commands -/

theorem test_wf_ticket_zero : Instr.wellFormed (.blockReadS3 (.named ⟨0, 0⟩)) = false := by decide
theorem test_wf_key_zero : Instr.wellFormed (.caseRead (.named 0)) = false := by decide
theorem test_wf_frame_without_words : Instr.wellFormed (.requestFrame []) = false := by decide
theorem test_wf_sync_inside_a_frame : Instr.wellFormed (.requestFrame [⟨true, 0x7102⟩, ⟨true, 0⟩]) = false := by decide
theorem test_wf_sync_inside_a_cut_frame :
    Instr.wellFormed (.frameCutShort [⟨true, 0x7103⟩, ⟨true, 0⟩] 0x7102) = false := by decide
/-- R196: kind 16h of S4, length 0, and the sum EAh that makes 256. -/
theorem test_wf_good_message_is_not_damaged : Instr.wellFormed (.damagedMessage .s4 [0x16, 0, 0xEA]) = false := by decide
theorem test_wf_floor_of_s4 : Instr.wellFormed (.floor .s4 1200) = false := by decide

/-! ### Steps -/

theorem test_no_word_spells_a_command : decodeTableWord 16 0x7102 = none := by decide

/-- R32, R198: the entry of 7311 is gone. -/
theorem test_device_reset : after .deviceReset (title .w0 (entry 7311 3) running) (titleEntry 7311) = some none := by decide

/-- R201: STOP first, then the PACE that waited. -/
theorem test_drive_stop : after .driveStopAfterReset { State.reset with drive := ⟨some 0, [.drivePace 1500]⟩ } (·.out)
    = some [.driveStop, .drivePace 1500] := by decide

theorem test_port_quiet_time : after (.portQuietTime .s5) State.reset (fun t => (t.ports.s5.quiet, t.ports.s6.quiet))
    = some (none, some 20) := by decide

/-- R49: the count saturates at 65535. -/
theorem test_character_timeout : after (.messageCharacterTimeout .s2)
    { base with ports := { listening with s2 := ⟨65535, none⟩ } } (fun t => (t.ports.s2.errors, t.ports.s1.errors))
    = some (65535, 0) := by decide

/-- R49: kind 14h is not one that S1 sends. -/
theorem test_damaged_message : after (.damagedMessage .s1 [0x14, 4, 0, 0, 1, 1, 0xE6]) base (·.ports.s1.errors) = some 1 := by
  decide

/-- R196: MARRIED, kind 14h, of ticket 41002/1: order 00A02Ah and copy 1; the sum byte 1Dh makes 256. -/
theorem test_message_married : messageCommand .s3 [0x14, 4, 0x00, 0xA0, 0x2A, 1, 0x1D] = .married (.named (tk 41002 1)) := by decide

/-- R196: EXIT_READ of order 0 and copy 0. -/
theorem test_message_exit_read_unreadable : messageCommand .s4 [0x15, 4, 0, 0, 0, 0, 0xE7] = .exitRead .unreadable := by decide

/-- R196: CASE_READ of key 7311, 001C8Fh. -/
theorem test_message_case_read : messageCommand .s2 [0x12, 3, 0x00, 0x1C, 0x8F, 0x40] = .caseRead (.named 7311) := by decide

/-- R196: JACKET_READ of key 0. -/
theorem test_message_jacket_read_unreadable : messageCommand .s5 [0x1A, 3, 0, 0, 0, 0xE3] = .jacketRead .unreadable := by decide

/-- R196: INDEX_DONE of 1096 and 1300 ms, 0448h and 0514h. -/
theorem test_message_index_done : messageCommand .s4 [0x17, 4, 0x04, 0x48, 0x05, 0x14, 0x80] = .indexDone 1096 1300 := by decide

/-- R49, R196: the same message with another sum byte. -/
theorem test_message_damaged : messageCommand .s4 [0x17, 4, 0x04, 0x48, 0x05, 0x14, 0x81]
    = .damagedMessage .s4 [0x17, 4, 0x04, 0x48, 0x05, 0x14, 0x81] := by decide

/-- R196: INDEX_READY, kind 16h, length 0, joins the commands that wait. -/
theorem test_message_joins_the_queue : (arriveMessage .s4 [0x16, 0, 0xEA] { base with pending := [.run] }).pending
    = [.run, .indexReady] := by decide

/-- R181, R197: data out carries idle words, 0000h, from reset until something waits. -/
theorem test_data_out_idle : (State.reset.dataOut, after (.portQuietTime .s5) State.reset (·.dataOut)) = (some 0, some (some 0)) := by
  decide

/-- R181: the answer to a request waits, and the arbiter may begin it. -/
theorem test_data_out_busy : after .status (asked (.status 6) base) (·.dataOut) = some none := by decide

/-- R178: Withdraw Book 41002/1: order 00A02Ah in bits 23 to 8 and 7 to 0. -/
theorem test_request_frame : after (.requestFrame [⟨true, 0x2203⟩, ⟨false, 0x00A0⟩, ⟨false, 0x2A01⟩]) base
    (fun t => (t.link.requests, t.link.nextArrival)) = some ([⟨.withdrawBook (tk 41002 1), 0⟩], 1) := by decide

/-- R176: the cut frame is answered FRAMING with its kind, and the new header stays in assembly. -/
theorem test_frame_cut_short : after (.frameCutShort [⟨true, 0x2203⟩, ⟨false, 0x00A0⟩] 0x7102) base
    (fun t => (t.link.refusal.map fun a => (a.kind, a.status), t.link.assembly))
    = some (some (0x22, .framing), [0x7102]) := by decide

/-- R190: word count 3, request kind 22h, status BUSY, arrival number 9. -/
theorem test_answer_sent : after (.answerSent .refusal)
    { base with link := { base.link with refusal := some ⟨0x22, .busy, 9, []⟩, sending := ⟨true, false, false⟩ } }
    (fun t => (t.sentFrame, t.link.refusal)) = some ([0x0103, 0x2201, 9], none) := by decide

/-- Section 1.3, example: one notice sent, and the Book Retired notice of the first record in RETIRING enters. -/
theorem test_notice_sent : after .noticeSent
    { fullQueue (books [{ book (tk 40220 1) 8140 .retiring with outcome := some .withdrawn }] base) with
      retiring := [tk 40220 1], link.sending := ⟨false, false, true⟩ }
    (fun t => (t.records, t.retiring, t.link.notices.length, (notices t).getLast?))
    = some ([], [], 32, some (.bookRetired (tk 40220 1) .withdrawn [] 0 0)) := by decide

/-- Section 2.3, example, row 1: a title miss. -/
theorem test_admit_book_miss : after .admitBook (asked (.admitBook (tk 40301 1) 7311 0 none none) base)
    (fun t => (lastAnswer t, t.pendingTitles, notices t))
    = some (some (.ok, [0x009D, 0x6D01, 0]), [⟨7311, 1⟩], [.titleRequest 7311]) := by decide

/-- R14, check 3. -/
theorem test_admit_book_duplicate : after .admitBook
    (asked (.admitBook (tk 40301 1) 7311 0 none none) (books [book (tk 40301 1) 8140 .retiring] base)) lastAnswer
    = some (some (.duplicate, [])) := by decide

theorem test_withdraw_book : after .withdrawBook (asked (.withdrawBook (tk 40220 1)) (books [book (tk 40220 1) 8140 .admitted] base))
    (fun t => (lastAnswer t, t.records, notices t))
    = some (some (.ok, []), [], [.bookRetired (tk 40220 1) .withdrawn [] 0 0]) := by decide

/-- R61: thickness 33 mm against a supplied spine of 12 mm fails at the gate. -/
theorem test_attach_parameters : after .attachParameters (asked (.attachParameters (tk 40502 1) 0 par)
      { books [{ tableBook (tk 40502 1) 9001 .gated false with thickness := some 33 }] running with
        pendingTitles := [⟨9001, 1⟩], tracks.gateHold := some (tk 40502 1) })
    (fun t => (t.out, notices t, t.pendingTitles))
    = some ([.s1Refuse], [.bookRetired (tk 40502 1) .diverted [.wrongBlock] 0 0], []) := by decide

/-- R191, R195: 23 words after the header; source ONE_OFF is 2, stage RETIRING 9, outcome WITHDRAWN 3. -/
theorem test_query_book : after .queryBook
    (asked (.queryBook (tk 40220 1)) (books [{ book (tk 40220 1) 8140 .retiring with outcome := some .withdrawn }] base))
    (fun t => (lastAnswer t).map fun a => (a.1, a.2.length, a.2[4]?, a.2[17]?))
    = some (some (.ok, 23, some 0x0209, some 0x0003)) := by decide

theorem test_force_retire_running : after .forceRetire (asked (.forceRetire (tk 1 1)) running) lastAnswer
    = some (some (.wrongState, [])) := by decide

/-- R152: a forced book in APPLYING takes the head key with it. -/
theorem test_force_retire_jacket : after .forceRetire (asked (.forceRetire (tk 40601 1))
      { books [book (tk 40601 1) 8140 .jacket] (line .stopped base) with
        tracks.jacket := [tk 40601 1], jackets := ⟨[8140, 7311], .normal, 0, .applying (tk 40601 1)⟩ })
    (fun t => (t.tracks.jacket, t.jackets.sequence, t.jackets.state)) = some ([], [7311], .free) := by decide

/-- Section 2.3, example: set 15 full and both ways pinned. -/
theorem test_load_title_set_full : after .loadTitle (asked (.loadTitle 7375 0 par)
      (title .w0 (entry 7311 3) (title .w1 (entry 7343 1) base))) lastAnswer
    = some (some (.setFull, [0x0F00, 0, 7311, 3, 0, 7343, 1])) := by decide

/-- Section 2.3, example: the first install in an empty set takes way 0, and the LRU mark turns to way 1. -/
theorem test_load_title_install : after .loadTitle (asked (.loadTitle 7311 0 par)
      { books [tableBook (tk 40301 1) 7311 .admitted false] base with pendingTitles := [⟨7311, 1⟩] })
    (fun t => (titleWay 7311 t, (titleSet 7311 t).lru, (titleEntry 7311 t).map (·.pin), t.pendingTitles))
    = some (some .w0, .w1, some 1, []) := by decide

theorem test_drop_title : after .dropTitle (asked (.dropTitle 7343) (title .w1 ⟨true, 7343, par, 1, 0, true, 0⟩ base))
    (fun t => (lastAnswer t, titleWay 7343 t)) = some (some (.ok, [0x0F01, 1, 1, 0]), none) := by decide

theorem test_query_title_miss : after .queryTitle (asked (.queryTitle 7311) { base with pendingTitles := [⟨7311, 2⟩] }) lastAnswer
    = some (some (.noRecord, [2])) := by decide

/-- R48: an entry that was dropped keeps its key. -/
theorem test_read_title_slot : after .readTitleSlot (asked (.readTitleSlot 15 1)
      (title .w1 { entry 7343 0 with valid := false } base)) (fun t => (lastAnswer t).map fun a => (a.1, a.2.take 4))
    = some (some (.ok, [0x0F01, 0, 0, 7343])) := by decide

/-- R188, check 3. -/
theorem test_set_parameter_crossed : after .setParameter (asked (.setParameter 16 6001) base) lastAnswer
    = some (some (.range, [])) := by decide

/-- R135, R188: P_max 1200 brings the pitch down to it at once, and the answer carries number and value. -/
theorem test_set_parameter_p_max : after .setParameter (asked (.setParameter 17 1200) base)
    (fun t => (lastAnswer t, t.pace.commanded, t.out)) = some (some (.ok, [17, 1200]), 1000, [.drivePace 1000, .s4Pace 1000]) := by
  decide

/-- Section 6.8, row 5: CTL 2000 raises the pitch. -/
theorem test_set_floor : after .setFloor (asked (.setFloor 6 0 2000) { base with pace.commanded := 1398, press.pd := 1398 })
    (fun t => (lastAnswer t, t.pace.source)) = some (some (.ok, [0x0600, 2000, 0, 2000, 2000]), some (.contributor .control)) := by
  decide

theorem test_load_jackets : after .loadJackets (asked (.loadJackets [7311, 5120]) { base with jackets.sequence := [8140] })
    (fun t => (lastAnswer t, t.jackets.sequence)) = some (some (.ok, [3]), [8140, 7311, 5120]) := by decide

/-- Section 7.8, row 7: NORMAL is 1, the count 0, and 3 keys stay. -/
theorem test_release_jacketer : after .releaseJacketer
    (asked (.releaseJacketer 1) { base with jackets := ⟨[6210, 6210, 4400], .bypass, 3, .free⟩ }) lastAnswer
    = some (some (.ok, [0x0100, 3])) := by decide

theorem test_status_jackets : after .status (asked (.status 6) { base with jackets.sequence := [6210] })
    (fun t => (lastAnswer t).map (·.1)) = some (some .ok) := by decide

/-- R88, R131, R162: PACE ahead of RUN, then the INITIAL purges. -/
theorem test_run : after .run (asked (.lineCommand 1) base) (fun t => (t.out, t.line.state))
    = some ([.drivePace 6000, .s4Pace 6000, .driveRun, .s2Purge .a, .s2Purge .b], .running) := by decide

/-- R80, R162: with no lane UNKNOWN a head without a lane makes no decision at RUN. -/
theorem test_run_without_decision : after .run (asked (.lineCommand 1)
      { books [book (tk 1 1) 5 .head] (lanes (.purging .exchange none 9) (.purging .exchange (some 6) 9) (line .stopped base)) with
        head := .waitCase (tk 1 1) none })
    (fun t => (t.head, t.lanes.a)) = some (.waitCase (tk 1 1) none, .purging .exchange none 9) := by decide

/-- R80: lane A leaves UNKNOWN at RUN, and the head takes lane B, whose purge carries nothing. -/
theorem test_run_decides_again : after .run (asked (.lineCommand 1)
      { books [book (tk 1 1) 5 .head] (lanes .unknown (.purging .exchange none 9) (line .stopped base)) with
        head := .waitCase (tk 1 1) none })
    (fun t => (t.head, t.lanes.b)) = some (.waitCase (tk 1 1) (some .b), .purging .exchange (some 5) 9) := by decide

theorem test_stop_soft : after .stopSoft (asked (.lineCommand 2) { running with press.index := .moving })
    (fun t => (lastAnswer t, t.out)) = some (some (.ok, [4]), []) := by decide

/-- R96, R166. -/
theorem test_stop_now : after .stopNow
    (asked (.lineCommand 3) { books [book (tk 1 1) 5 .head] running with head := .pasting (tk 1 1) .a })
    (fun t => (t.out, t.records.map (·.flags), t.line.state)) = some ([.driveStop, .s3HaltPaste], [[.interrupted]], .stopped) := by
  decide

theorem test_run_out_empty : after .runOut (asked (.lineCommand 4) running) (fun t => (lastAnswer t, t.line))
    = some (some (.ok, [2]), ⟨.stopped, some .runOutDone⟩) := by decide

/-- Section 5.6, example: the second Release finds 90 degrees. -/
theorem test_release : after .release
    (asked (.lineCommand 5) { line .faultHold base with press := { base.press with state := .fault, temp := some 90 } })
    (fun t => (t.press.state, notices t))
    = some (.warming, [.lineState .stopped .release, .pressState .warming (some 90)]) := by decide

/-- R137, R173 (log 31): the PACE of the pitch that the recompute with PD 0 lowers. -/
theorem test_clear_line : after .clearLine
    (asked (.lineCommand 6) { books [book (tk 1 1) 5 .infeed] (line .stopped base) with tracks.infeed := [⟨tk 1 1, false⟩] })
    (fun t => (t.tracks.infeed, notices t, t.lanes.a, t.out))
    = some ([], [.bookRetired (tk 1 1) .cleared [] 0 0, .paceChanged 1000 .pMin], .unknown, [.drivePace 1000, .s4Pace 1000]) := by
  decide

theorem test_line_command_7 : after .lineCommandNamingNoCommand (asked (.lineCommand 7) base) lastAnswer
    = some (some (.range, [])) := by decide

/-- Section 3.5, row 5: 17 mm against 12 mm. -/
theorem test_block_read_s1_wrong : after (.blockReadS1 (.named (tk 40501 1)) 17) (books [book (tk 40501 1) 5 .admitted] running)
    (fun t => (t.out, notices t)) = some ([.s1Refuse], [.bookRetired (tk 40501 1) .diverted [.wrongBlock] 0 0]) := by decide

/-- Section 3.5, row 7: a full infeed track. -/
theorem test_block_read_s1_hold : after (.blockReadS1 (.named (tk 40503 1)) 12)
    { books [book (tk 40503 1) 5 .admitted] running with
      tracks.infeed := [⟨tk 1 1, false⟩, ⟨tk 1 2, false⟩, ⟨tk 1 3, false⟩] }
    (fun t => (t.out, t.tracks.gateHold)) = some ([.s1Hold], some (tk 40503 1)) := by decide

/-- Section 4.6: the second TAKE_CASE empties lane A. -/
theorem test_block_read_s3 : after (.blockReadS3 (.named (tk 40600 2)))
    { books [book (tk 40600 2) 7311 .infeed] (lanes (.holding 7311 1) (.holding 5120 1) running) with
      tracks.infeed := [⟨tk 40600 2, false⟩] }
    (fun t => (t.out, t.lanes.a, t.head)) = some ([.s3TakeCase .a], .empty, .pasting (tk 40600 2) .a) := by decide

/-- Section 3.5: the reading names another book than the expected one. -/
theorem test_block_read_s3_fault : after (.blockReadS3 (.named (tk 40503 1)))
    { books [book (tk 40500 2) 5 .infeed] running with tracks.infeed := [⟨tk 40500 2, false⟩] }
    (fun t => (t.out, t.line.state, (notices t).getLast?))
    = some ([.driveStop], .faultHold,
        some (.fault .sequence .s3 (some (tk 40500 2)) (some (.named (tk 40503 1))))) := by decide

/-- Section 4.7: a case of a key that a purge carries. -/
theorem test_case_read_recirculated : after (.caseRead (.named 9001))
    (lanes (.purging .exchange (some 9001) 20000) (.holding 6210 2) running) (·.out) = some [.s2Recirculate] := by decide

/-- Section 4.8: the case joins lane B and is taken at once; 3377 is still wanted. -/
theorem test_case_read_taken : after (.caseRead (.named 3377))
    { books [book (tk 40810 1) 3377 .head, book (tk 40811 1) 3377 .infeed] (lanes (.holding 2204 4) (.reserved 3377) running) with
      head := .waitCase (tk 40810 1) (some .b), marriageTimer := some 0, tracks.infeed := [⟨tk 40811 1, false⟩] }
    (fun t => (t.out, t.lanes.b, t.marriageTimer)) = some ([.s2Lane .b, .s3TakeCase .b], .reserved 3377, none) := by decide

/-- Section 4.7: the purge of lane A done. -/
theorem test_purge_done : after (.purgeDone 1) (lanes (.purging .exchange (some 9001) 11000) (.holding 6210 3) running)
    (·.lanes.a) = some (.reserved 9001) := by decide

/-- Section 4.7, last paragraph: the head decides again and lane B is purged. -/
theorem test_purge_timeout : after (.purgeTimeout .a)
    { books [book (tk 40700 1) 9001 .head] (lanes (.purging .exchange (some 9001) 0) (.holding 6210 2) running) with
      head := .waitCase (tk 40700 1) (some .a), marriageTimer := some 9000 }
    (fun t => (t.lanes.a, t.out, t.line)) = some (.unknown, [.driveStop, .s2Purge .b], ⟨.faultHold, some .purgeTimeout⟩) := by
  decide

/-- Section 4.8: the expiry taken first. -/
theorem test_marriage_wait_expiry : after .marriageWaitExpiry
    { books [book (tk 40810 1) 3377 .head, book (tk 40811 1) 3377 .infeed] (lanes (.holding 2204 4) (.reserved 3377) running) with
      head := .waitCase (tk 40810 1) (some .b), marriageTimer := some 0, tracks.infeed := [⟨tk 40811 1, false⟩] }
    (fun t => (t.out, t.lanes.b, notices t))
    = some ([.s3Eject], .reserved 3377, [.bookRetired (tk 40810 1) .diverted [.noCase] 0 0]) := by decide

/-- Section 5.5, example: D0 5880, setpoint 432, PD 1398 at 59 degrees. -/
theorem test_married : after (.married (.named (tk 40213 1)))
    { books [{ book (tk 40213 1) 7311 .head with oneOff := some ⟨28, 240, 150, 2, 1, none⟩ }] running with
      head := .pasting (tk 40213 1) .a, press.temp := some 59, pace.commanded := 1250 }
    (fun t => (t.records.map fun r => (r.dwell, r.force), t.press.pd, t.pace.commanded))
    = some ([(some 5880, some 432)], 1398, 1398) := by decide

/-- Section 5.6, example: 97 degrees. -/
theorem test_temperature_overheat : after (.temperature 97) running (fun t => (t.press.state, notices t))
    = some (.fault, [.pressState .fault (some 97), .lineState .faultHold .pressOverheat, .fault .pressOverheat .s4 none none,
        .paceChanged 1000 .pMin]) := by decide

/-- R196: a temperature is signed, and taken as 0 below 0. -/
theorem test_temperature_negative : after (.temperature 0xFFFB) base (fun t => (t.press.temp, t.press.state))
    = some (some 0, .warming) := by decide

/-- R110: INDEX_GO with the setpoint of the book at the entry place; the head gives it up. -/
theorem test_index_ready : after .indexReady
    { books [{ book (tk 40213 1) 7311 .entry with force := some 432 }] running with
      head := .holdMarried (tk 40213 1) .a, tracks.entry := some (tk 40213 1) }
    (fun t => (t.out, t.head, t.press.carried)) = some ([.s4IndexGo (some 432)], .idle, some (tk 40213 1)) := by decide

/-- Section 5.5: a book leaves position 6 short of its dwell: credit 803 at factor 112. -/
theorem test_index_done_short : after (.indexDone 900 1200)
    { books [{ book (tk 1 1) 5 .press with dwell := some 5000, eff := some 4000, position := some 6 }] running with
      press := { running.press with temp := some 59, index := .moving, positions.p6 := some (tk 1 1) } }
    (fun t => (t.records.map fun r => (r.eff, r.flags, r.stage), t.tracks.jacket))
    = some ([(some 4803, [.shortDwell], .jacket)], [tk 1 1]) := by decide

/-- Section 6.8, row 9: a cycle of 1300 ms against 1398 ms is early. -/
theorem test_index_done_early : after (.indexDone 1096 1300)
    { running with press.index := .moving, pace.commanded := 1398, pace.inForce := some 1398 }
    (fun t => ((notices t).head?, t.pace.inForce)) = some (some (.paceFault 1300 1398), some 1398) := by decide

/-- R165, R134: the Pace Fault stands before the Pace Changed, and the soft stop that completes sends STOP. -/
theorem test_index_done_closes_the_step : after (.indexDone 1096 1300)
    { running with line := ⟨.stopping, some .stopSoft⟩, press.index := .moving, pace.commanded := 1398, pace.inForce := some 1398 }
    (fun t => (notices t, t.out, t.line))
    = some ([.paceFault 1300 1398, .paceChanged 1000 .pMin, .lineState .stopped .stopDone],
        [.drivePace 1000, .s4Pace 1000, .driveStop], ⟨.stopped, some .stopDone⟩) := by decide

theorem test_idle_timer_expiry : after .idleTimerExpiry { running with press.idleTimer := some 0 }
    (fun t => (t.out, t.press.state, t.press.idleTimer)) = some ([.s4Standby], .standby, none) := by decide

/-- R64: a reading at S4 that names the book at position 6 is only remembered. -/
theorem test_exit_read : after (.exitRead (.named (tk 1 1)))
    { books [book (tk 1 1) 5 .press] running with press.positions.p6 := some (tk 1 1) }
    (fun t => (t.readers.s4.last, t.out)) = some (some (tk 1 1), []) := by decide

/-- Section 7.7, row 5: one key is skipped. -/
theorem test_book_arrived : after (.bookArrived (.named (tk 40601 1)))
    { books [book (tk 40601 1) 8140 .jacket] running with
      tracks.jacket := [tk 40601 1], jackets.sequence := [5120, 8140, 7311, 6210] }
    (fun t => (t.out, t.jackets.sequence)) = some ([.s5Skip 1, .s5Apply], [8140, 7311, 6210]) := by decide

/-- Section 7.8, row 4: the third mismatch. -/
theorem test_jacket_read_bypass : after (.jacketRead (.named 4400))
    { books [book (tk 40900 1) 6210 .jacket] running with
      tracks.jacket := [tk 40900 1], jackets := ⟨[6210, 6210, 4400], .normal, 2, .verify (tk 40900 1)⟩ }
    (fun t => (t.out, t.jackets, notices t)) = some ([.s5Spoil, .s5Pass], ⟨[6210, 6210, 4400], .bypass, 3, .free⟩,
        [.jacketFault (some 6210) (.named 4400)]) := by decide

/-- Section 7.7, row 4. -/
theorem test_applied : after (.applied (.named (tk 40213 1)))
    { books [book (tk 40213 1) 7311 .jacket] running with
      tracks.jacket := [tk 40213 1], jackets := ⟨[7311, 5120], .normal, 0, .applying (tk 40213 1)⟩ }
    (fun t => (t.jackets.sequence, t.tracks.delivery)) = some ([5120], [tk 40213 1]) := by decide

/-- R154: a book with a flag is diverted. -/
theorem test_book_read : after (.bookRead (.named (tk 1 1)))
    { books [{ book (tk 1 1) 5 .delivery with flags := [.shortDwell] }] running with tracks.delivery := [tk 1 1] } (·.out)
    = some [.s6Divert] := by decide

/-- Section 7.7, row 10: the book retires DELIVERED, and the reading that waits at S5 is passed. -/
theorem test_passed : after (.passed (.named (tk 40213 1)))
    { books [book (tk 40213 1) 7311 .delivery, book (tk 40601 1) 8140 .delivery, book (tk 40700 1) 9001 .jacket] running with
      tracks.delivery := [tk 40213 1, tk 40601 1], tracks.jacket := [tk 40700 1]
      readers := { running.readers with s5 := ⟨some (tk 40700 1), some (tk 40700 1), none⟩, s6 := ⟨some (tk 40213 1), none, none⟩ }
      jackets.sequence := [7311, 6210] }
    (fun t => (t.out, t.tracks.delivery, notices t))
    = some ([.s5Pass], [tk 40601 1, tk 40700 1], [.bookRetired (tk 40213 1) .delivered [] 0 0]) := by decide

/-- Section 6.8, row 6: 12000 is clamped, and P_max decides. -/
theorem test_floor : after (.floor .s5 12000) { base with pace.commanded := 2000, press.pd := 1398 }
    (fun t => (t.pace.floors.jacket.reported, t.pace.commanded, t.pace.source)) = some (9999, 6000, some .pMax) := by decide

/-- R200, log 3: six ports whose last millisecond of quiet passes bring one PORT_QUIET_TIME each. -/
theorem test_tick_ports : (match step { base with ports := ⟨⟨0, some 1⟩, ⟨0, some 1⟩, ⟨0, some 1⟩, ⟨0, some 1⟩, ⟨0, some 1⟩, ⟨0, some 1⟩⟩ } with
    | .next t => t.pending
    | _ => []) = [.portQuietTime .s1, .portQuietTime .s2, .portQuietTime .s3, .portQuietTime .s4, .portQuietTime .s5, .portQuietTime .s6]
    := by decide

/-- Log 2: the last millisecond of lane A's purge brings its PURGE_TIMEOUT into the queue. -/
theorem test_tick : (match step (lanes (.purging .initial none 1) .empty running) with
    | .next t => (t.pending, t.lanes.a)
    | _ => ([], .empty)) = ([.purgeTimeout .a], .purging .initial none 0) := by decide

/-! ### Witnesses: states and operands that meet the hypotheses of each statement, clause by clause -/

/-- A table of records that are all live keeps the invariant of the records. -/
theorem recordInv_of {s : State} (hn : s.retiring = []) (hl : s.records.length ≤ 64) (ht : (s.records.map (·.ticket)).Nodup)
    (hr : ∀ r ∈ s.records, r.stage ≠ .retiring ∧ r.outcome = none ∧ r.reasons = [] ∧ r.flags.Nodup) : RecordInv s where
  room := hl
  tickets := ht
  order := by simp [hn]
  retires t := by
    rw [hn]
    exact ⟨nofun, fun ⟨r, h, _, e⟩ => absurd e (hr r h).1⟩
  outcome r h := by simp [(hr r h).1, (hr r h).2.1]
  reasons r h e := absurd (hr r h).2.2.1 e
  flags r h := (hr r h).2.2.2

/-- Records and places that agree keep the invariant of the places. -/
theorem placeInv_of {s : State}
    (hp : ∀ st ∈ [Stage.gated, .infeed, .head, .entry, .press, .jacket, .delivery],
      (standing s st).Nodup ∧ (∀ t ∈ standing s st, ∃ r ∈ s.records, r.ticket = t ∧ r.stage = st) ∧
      ∀ r ∈ s.records, r.stage = st → r.ticket ∈ standing s st)
    (hq : ∀ r ∈ s.records, r.position = s.press.positions.placeOf r.ticket)
    (hm : ∀ t l, s.head = .holdMarried t l → s.tracks.entry = some t) (hw : s.tracks.waitingMarriage = none)
    (h3 : s.readers.s3.waiting = none) (h5 : s.readers.s5.waiting = none) (hj : s.jackets.state = .free) : PlaceInv s where
  stands st h1 h2 t := by
    have h := hp st (by cases st <;> simp_all)
    exact ⟨h.2.1 t, fun ⟨r, hr, ht, hs⟩ => ht ▸ h.2.2 r hr hs⟩
  once st := by
    by_cases h : st ∈ [Stage.gated, .infeed, .head, .entry, .press, .jacket, .delivery]
    · exact (hp st h).1
    · cases st <;> simp_all [standing]
  position := hq
  married := hm
  waiting t h := by simp [hw] at h
  readS3 t h := by simp [h3] at h
  readS5 t h := by simp [h5] at h
  jacketing t h := by simp [hj, Jacketing.book] at h

/-- A line STOPPED with a book in every stage from ADMITTED to DELIVERY, the one at the head INTERRUPTED. -/
def spread : State :=
  { books [book (tk 1 1) 5 .admitted, book (tk 2 1) 5 .gated, book (tk 3 1) 5 .infeed,
      { book (tk 4 1) 5 .head with flags := [.interrupted] }, { book (tk 5 1) 5 .entry with dwell := some 5000, force := some 48 },
      { book (tk 6 1) 5 .press with dwell := some 5000, eff := some 0, position := some 6 }, book (tk 7 1) 5 .jacket,
      book (tk 8 1) 5 .delivery] (line .stopped base) with
    head := .pasting (tk 4 1) .a
    tracks := ⟨some (tk 2 1), some (tk 2 1), [⟨tk 3 1, false⟩], some (tk 5 1), none, [tk 7 1], [tk 8 1]⟩
    press := { (line .stopped base).press with positions := ⟨none, none, none, none, none, some (tk 6 1)⟩ } }

theorem spread_recordInv : RecordInv spread := recordInv_of rfl (by decide) (by decide) (by decide)

theorem spread_placeInv : PlaceInv spread :=
  placeInv_of (by decide) (by decide) (fun _ _ => nofun) rfl rfl rfl rfl

/-- Three records that wait on title 7311: one ADMITTED, one in the infeed track, one at the head. -/
def waiting3 : State :=
  { books [tableBook (tk 1 1) 7311 .admitted false, { tableBook (tk 2 1) 7311 .infeed false with thickness := some 33 },
      { tableBook (tk 3 1) 7311 .head false with thickness := some 12 }] running with
    head := .waitTitle (tk 3 1), marriageTimer := some 9000, pendingTitles := [⟨7311, 3⟩]
    tracks := { running.tracks with infeed := [⟨tk 2 1, false⟩] } }

theorem waiting3_recordInv : RecordInv waiting3 := recordInv_of rfl (by decide) (by decide) (by decide)

theorem waiting3_placeInv : PlaceInv waiting3 := placeInv_of (by decide) (by decide) (fun _ _ => nofun) rfl rfl rfl rfl

/-- Two records that wait on title 7311, both ADMITTED. -/
def waiting2 : State :=
  { books [tableBook (tk 1 1) 7311 .admitted false, tableBook (tk 2 1) 7311 .admitted false] base with
    pendingTitles := [⟨7311, 2⟩] }

theorem waiting2_recordInv : RecordInv waiting2 := recordInv_of rfl (by decide) (by decide) (by decide)

theorem waiting2_placeInv : PlaceInv waiting2 := placeInv_of (by decide) (by decide) (fun _ _ => nofun) rfl rfl rfl rfl

/-- A place taken by a request that has been answered. -/
def answered1 : Answer := ⟨0x71, .ok, 0, []⟩

theorem witness_EmptyQueuePassesOneMillisecond :
    State.reset.pending = [] ∧ (State.reset.lanes.get .a).left = none ∧
    (lanes (.purging .initial none 0) .empty base).pending = [] ∧
    (lanes (.purging .initial none 0) .empty base).lanes.get .a = .purging .initial none 0 := by decide

theorem witness_EveryCommandAnswersNext : (∀ p, Instr.run ≠ .answerSent p) ∧ Instr.run ≠ .noticeSent := by
  exact ⟨fun _ => nofun, nofun⟩

theorem witness_CommandsKeepTheirOrder :
    State.reset.drive.stopDue = some 20 ∧ PortCommand.toDrive .s1Admit = false ∧ base.drive.stopDue = none ∧
    PortCommand.toDrive (.drivePace 6000) = true ∧ State.reset.drive.stopDue ≠ none := by decide

theorem witness_PortsWaitForAQuietLine :
    messageStation .indexReady = some .s4 ∧ (State.reset.ports.get .s4).quiet = some 20 ∧
    messageStation (.floor .s6 0) = some .s6 ∧ (State.reset.ports.get .s6).quiet = some 20 := by decide

theorem witness_DamagedMessagesAreCounted :
    Listens .s4 base ∧ messageOk .s4 [] = false ∧ messageOk .s4 [0x16, 0, 0xEB] = false := ⟨rfl, by decide, by decide⟩

/-- A ticket, a ticket of order 0 and copy 0, the largest key, key 0, and a body of no byte, each with its sum byte. -/
theorem witness_DamagedMessagesAreCounted_spelled :
    let number (bs : List Byte) : Nat := (bs.map BitVec.toNat).foldl (fun n b => 256 * n + b) 0
    let sums (kind : Byte) (body : List Byte) (sum : Byte) : Nat :=
      (kind.toNat + body.length + (body.map BitVec.toNat).sum + sum.toNat) % 256
    (number [0x00, 0xA0, 0x2A, 1] ≠ 0 ∧ number [0x00, 0xA0, 0x2A] = 41002 ∧ sums 0x14 [0x00, 0xA0, 0x2A, 1] 0x1D = 0) ∧
    (number [0, 0, 0, 0] = 0 ∧ sums 0x15 [0, 0, 0, 0] 0xE7 = 0) ∧
    (number [0x0F, 0xFF, 0xFF] ≠ 0 ∧ number [0x0F, 0xFF, 0xFF] < 2 ^ 20 ∧ sums 0x12 [0x0F, 0xFF, 0xFF] 0xDE = 0) ∧
    (number [0, 0, 0] = 0 ∧ sums 0x1A [0, 0, 0] 0xE3 = 0) ∧ sums 0x16 [] 0xEA = 0 ∧ sums 0x17 [0x04, 0x48, 0x05, 0x14] 0x80 = 0 ∧
    sums 0x1D [0x07, 0xD0] 0x0A = 0 ∧ sums 0x13 [1] 0xEB = 0 ∧ sums 0x11 [0, 0, 0, 0, 33] 0xC9 = 0 := by decide

theorem witness_FramesAreQueuedOrRefused_queued :
    let s := { base with link := { base.link with answers := List.replicate 7 answered1 } }
    s.link.assembly = [] ∧ loByte 0x7102 = [(6 : Word)].length + 1 ∧ [(6 : Word)].length + 1 ≤ 40 ∧
    frameRequest [0x7102, 6] = some ([(6 : Word)].length + 1, .status 6) ∧ s.link.requests.length + s.link.answers.length < 8 := by
  decide

theorem witness_FramesAreQueuedOrRefused_refused :
    let full := { base with link := { base.link with answers := List.replicate 8 answered1 } }
    base.link.assembly = [] ∧ loByte 0x7100 = 0 ∧ 40 < loByte 0x7129 ∧
    (loByte 0x7001 = ([] : List Word).length + 1 ∧ frameRequest [0x7001] = none) ∧
    (loByte 0x7028 = (List.replicate 39 (0 : Word)).length + 1 ∧ (List.replicate 39 (0 : Word)).length + 1 ≤ 40 ∧
      frameRequest (0x7028 :: List.replicate 39 (0 : Word)) = none) ∧
    (loByte 0x7103 = [(6 : Word), 0].length + 1 ∧ frameRequest [0x7103, 6, 0] = some (2, .status 6) ∧
      2 ≠ [(6 : Word), 0].length + 1) ∧
    full.link.assembly = [] ∧ frameRequest [0x7102, 6] = some ([(6 : Word)].length + 1, .status 6) ∧
    8 ≤ full.link.requests.length + full.link.answers.length := by decide

theorem witness_FrameCutShortIsAnsweredFraming :
    base.link.assembly = [] ∧ ([] : List Word).length + 1 < loByte 0x2202 ∧ loByte 0x2202 ≤ 40 ∧
    (List.replicate 38 (0 : Word)).length + 1 < loByte 0x2228 ∧ loByte 0x2228 ≤ 40 ∧
    (2 ≤ loByte 0x7102 ∧ loByte 0x7102 ≤ 40) ∧ ¬(2 ≤ loByte 0x7101 ∧ loByte 0x7101 ≤ 40) := by decide

theorem witness_AnswersLeaveTheirPlaces :
    let s := { base with link := { base.link with refusal := some ⟨0x22, .busy, 9, []⟩, answers := [answered1], sending := ⟨true, true, false⟩ } }
    s.link.refusal = some ⟨0x22, .busy, 9, []⟩ ∧ s.link.sending.refusal = true ∧ s.link.answers = [answered1] ∧
    s.link.sending.answer = true := by decide

/-- One notice in the queue, which the arbiter may have begun. -/
def oneNotice : State := { base with link := { base.link with notices := [⟨0, .titleRequest 1⟩], sending := ⟨false, false, true⟩ } }

theorem witness_NoticesLeaveAndTheQueueRefills :
    let held := { oneNotice with link.held := { Held.empty with stray := some ⟨5, .stray .s1 .unreadable⟩ } }
    let owed := { books [{ book (tk 1 1) 5 .retiring with outcome := some .forced }] oneNotice with retiring := [tk 1 1] }
    oneNotice.link.notices = [⟨0, .titleRequest 1⟩] ∧ oneNotice.link.sending.notice = true ∧ oneNotice.retiring = [] ∧
    oneNotice.link.held.any = false ∧
    held.link.held.take = some (⟨5, .stray .s1 .unreadable⟩, Held.empty) ∧ held.retiring = [] ∧
    owed.retiring = [tk 1 1] ∧ (findRecord (tk 1 1) owed).isSome = true := by decide

theorem witness_NoticesAreQueuedOrHeld :
    let s31 := { base with link := { base.link with notices := List.replicate 31 ⟨0, .titleRequest 1⟩ } }
    (s31.link.notices.length < 32 ∧ s31.retiring = [] ∧ s31.link.held.any = false) ∧
    ¬((fullQueue base).link.notices.length < 32 ∧ (fullQueue base).retiring = [] ∧ (fullQueue base).link.held.any = false) ∧
    (Notice.titleRequest 1).kindCode = 0x81 ∧ (Notice.paceChanged 1000 .pMin).kindCode = 0x83 ∧
    (Notice.paceFault 1 2).kindCode = 0x84 ∧ (Notice.lineState .running .run).kindCode = 0x85 ∧
    (Notice.fault .sequence .s3 none none).kindCode = 0x86 ∧ (Notice.stray .s1 .unreadable).kindCode = 0x87 ∧
    (Notice.pressState .cold none).kindCode = 0x88 ∧ (Notice.jacketFault none .unreadable).kindCode = 0x89 := by decide

/-- Every request has a state at whose queue's head it stands. -/
theorem witness_EveryRequestIsAnswered (r : Request) : (asked r base).link.requests = [⟨r, 7⟩] := rfl

theorem witness_EndOfStep :
    (line .runningOut base).line.state = .runningOut ∧ lineEmpty (line .runningOut base) = true ∧
    running.line.state ≠ .runningOut ∧ lineEmpty { line .runningOut base with tracks.delivery := [tk 1 1] } = false ∧
    (base.link.refusal = none ∧ base.link.answers = [] ∧ base.link.notices = []) := by decide

theorem witness_RetirementOfARecord :
    let full := fullQueue (books [book (tk 1 1) 5 .delivery] base)
    let room := title .w0 (entry 5 1) (books [tableBook (tk 1 1) 5 .delivery true] base)
    liveRecord (tk 1 1) full = some (book (tk 1 1) 5 .delivery) ∧ 32 ≤ full.link.notices.length ∧
    liveRecord (tk 1 1) room = some (tableBook (tk 1 1) 5 .delivery true) ∧ room.link.notices.length < 32 ∧ room.retiring = [] ∧
    titleEntry 5 room = some (entry 5 1) ∧ (book (tk 1 1) 5 .delivery).source = .oneOff ∧
    (tableBook (tk 1 1) 5 .delivery true).source = .table ∧ (tableBook (tk 1 1) 5 .delivery true).resolved = true := by decide

/-- A request of Admit Book for title 7311 from the table. -/
def admit1 : Request := .admitBook (tk 1 1) 7311 0 none none

/-- Eight keys in the Pending Title List. -/
def eightListed : State := { base with pendingTitles := (List.range 8).map fun n => ⟨BitVec.ofNat 20 (n + 1), 1⟩ }

/-- Sixty-four live records. -/
def sixtyFour : State := books ((List.range 64).map fun n => book (tk 9 (n + 1)) 5 .admitted) base

theorem witness_AdmitBookIsCheckedAndCreatesTheRecord_refused :
    (asked admit1 base).link.requests = [⟨admit1, 7⟩] ∧
    admitInRange (tk 0 1) 7311 0 none none = false ∧ admitInRange (tk 1 1) 7311 0 (some 299) none = false ∧
    admitInRange (tk 1 1) 7311 0 none none = true ∧
    clearedLeft (books [{ book (tk 2 1) 5 .retiring with outcome := some .cleared }] base) ≠ 0 ∧
    clearedLeft base = 0 ∧ findRecord (tk 1 1) (books [book (tk 1 1) 5 .admitted] base) ≠ none ∧
    findRecord (tk 1 1) sixtyFour = none ∧ 64 ≤ sixtyFour.records.length ∧ clearedLeft sixtyFour = 0 ∧
    eightListed.records.length < 64 ∧ titleWay 7311 eightListed = none ∧ isListed 7311 eightListed = false ∧
    8 ≤ eightListed.pendingTitles.length ∧ clearedLeft eightListed = 0 ∧ findRecord (tk 1 1) eightListed = none := by decide

theorem witness_AdmitBookIsCheckedAndCreatesTheRecord_accepted :
    admitInRange (tk 1 1) 7311 1 (some 30000) (some par) = true ∧ admitInRange (tk 1 1) 7311 0 none none = true ∧
    (findRecord (tk 1 1) base = none ∧ base.records.length < 64 ∧ clearedLeft base = 0 ∧ base.pendingTitles.length < 8) ∧
    titleWay 7311 (title .w1 (entry 7311 0) base) = some .w1 ∧
    (titleWay 7311 base = none ∧ isListed 7311 base = false) ∧
    (titleWay 3 eightListed = none ∧ isListed 3 eightListed = true ∧ eightListed.records.length < 64) := by decide

theorem witness_WithdrawBookRetiresTheRecord :
    (asked (.withdrawBook (tk 1 1)) base).link.requests = [⟨.withdrawBook (tk 1 1), 7⟩] ∧ ticketInRange (tk 1 1) = true ∧
    liveRecord (tk 1 1) (books [book (tk 1 1) 5 .admitted] base) = some (book (tk 1 1) 5 .admitted) ∧
    liveRecord (tk 1 1) (books [book (tk 1 1) 5 .gated] base) = some (book (tk 1 1) 5 .gated) ∧
    liveRecord (tk 1 1) (books [book (tk 1 1) 5 .retiring] base) = none := by decide

/-- An unresolved book that a request attaches parameters to, measured at 14 mm: just within the tolerance of `par`. -/
def attaching (st : Stage) (m : Nat) : State :=
  asked (.attachParameters (tk 1 1) 4 par)
    { books [{ tableBook (tk 1 1) 9001 st false with thickness := some m }] running with pendingTitles := [⟨9001, 1⟩] }

theorem witness_AttachParametersResolvesTheRecord_request :
    (attaching .gated 14).link.requests = [⟨.attachParameters (tk 1 1) 4 par, 7⟩] ∧ ticketInRange (tk 1 1) = true ∧
    onlyMarks 4 4 = true ∧ paramsInRange par = true ∧
    liveRecord (tk 1 1) (attaching .gated 14) = some { tableBook (tk 1 1) 9001 .gated false with thickness := some 14 } ∧
    Stage.unmarried .gated = true ∧ 14 ≤ par.s + (attaching .gated 14).params.tolerance ∧
    par.s ≤ 14 + (attaching .gated 14).params.tolerance ∧ (attaching .gated 14).head ≠ .waitTitle (tk 1 1) := by decide

/-- A one-off book of spine 12 mm with a measured thickness. -/
def measured (st : Stage) (m : Nat) : BookRecord := { book (tk 1 1) 5 st with thickness := some m }

theorem witness_AttachParametersResolvesTheRecord_announced :
    liveRecord (tk 1 1) (books [measured .head 14] running) = some (measured .head 14) ∧
    paramsOf (measured .head 14) running = some par ∧
    ¬(par.s + running.params.tolerance < 14 ∨ 14 + running.params.tolerance < par.s) ∧
    running.head ≠ .waitTitle (tk 1 1) ∧ { running with head := .waitTitle (tk 1 1) }.head = .waitTitle (tk 1 1) ∧
    (par.s + running.params.tolerance < 15 ∨ 15 + running.params.tolerance < par.s) ∧
    (par.s + running.params.tolerance < 9 ∨ 9 + running.params.tolerance < par.s) ∧
    (measured .gated 15).stage = .gated ∧ (measured .infeed 9).stage = .infeed ∧ (measured .head 15).stage = .head := by decide

theorem witness_QueryBookAnswersTheRecord :
    ticketInRange (tk 1 1) = true ∧
    findRecord (tk 1 1) (asked (.queryBook (tk 1 1)) (books [book (tk 1 1) 5 .press] base)) = some (book (tk 1 1) 5 .press) ∧
    findRecord (tk 1 1) (asked (.queryBook (tk 1 1)) base) = none := by decide

theorem witness_ForceRetireRetiresTheRecord :
    ticketInRange (tk 1 1) = true ∧ running.line.state = .running ∧ (line .stopped base).line.state = .stopped ∧
    (line .faultHold base).line.state = .faultHold ∧ base.line.state = .halted ∧ liveRecord (tk 1 1) base = none ∧
    liveRecord (tk 1 1) (books [book (tk 1 1) 5 .gated] base) = some (book (tk 1 1) 5 .gated) ∧
    base.readers.s3.waiting = none ∧ base.tracks.waitingMarriage = none ∧
    { base with tracks.entry := some (tk 1 1) }.tracks.entry = some (tk 1 1) ∧
    (book (tk 1 1) 5 .head).stage = .head ∧ (book (tk 1 1) 5 .entry).stage = .entry ∧ (book (tk 1 1) 5 .press).stage = .press ∧
    (book (tk 1 1) 5 .jacket).stage = .jacket ∧
    { base with jackets.state := .applying (tk 1 1) }.jackets.state = .applying (tk 1 1) := by decide

/-- A live record in each stage; room and no room for its notice. -/
theorem witness_ForceRetireRetiresTheRecord_places :
    RecordInv spread ∧ PlaceInv spread ∧ (∀ n ∈ [1, 2, 3, 4, 5, 6, 7, 8], (liveRecord (tk n 1) spread).isSome = true) ∧
    spread.line.state = .stopped ∧ spread.link.notices.length < 32 ∧ spread.retiring = [] ∧
    32 ≤ (fullQueue spread).link.notices.length ∧ spread.readers.s3.waiting = none ∧ spread.tracks.waitingMarriage = none ∧
    spread.tracks.entry = some (tk 5 1) ∧ { spread with jackets.state := .verify (tk 7 1) }.jackets.state = .verify (tk 7 1) :=
  ⟨spread_recordInv, spread_placeInv, by decide, rfl, by decide, rfl, by decide, rfl, rfl, rfl, rfl⟩

theorem witness_RequestsAreCheckedBeforeTheyAct :
    ((tk 0 1).order = 0 ∧ (tk 1 0).copy = 0) ∧ (BitVec.toNat (1 : Word) ≠ 0 ∧ BitVec.toNat (1 : Word) ≠ 4) ∧
    paramsInRange { par with s := 2 } = false ∧ paramsInRange { par with h := 421 } = false ∧
    ((tk 1 1).order ≠ 0 ∧ (tk 1 1).copy ≠ 0) ∧ liveRecord (tk 1 1) base = none ∧
    liveRecord (tk 1 1) (books [book (tk 1 1) 5 .entry] base) = some (book (tk 1 1) 5 .entry) ∧
    ¬((book (tk 1 1) 5 .entry).stage = .admitted ∨ (book (tk 1 1) 5 .entry).stage = .gated ∨
      (book (tk 1 1) 5 .entry).stage = .infeed ∨ (book (tk 1 1) 5 .entry).stage = .head) ∧
    liveRecord (tk 1 1) (books [tableBook (tk 1 1) 5 .head true] base) = some (tableBook (tk 1 1) 5 .head true) := by decide

/-- Set 15 with both ways pinned. -/
def fullSet : State := title .w0 (entry 7311 3) (title .w1 (entry 7343 1) base)

/-- Set 15 with the way that the LRU mark names pinned and the other not. -/
def otherFree : State := title .w0 (entry 7311 3) (title .w1 (entry 7343 0) base)

theorem witness_LoadTitleUpdatesOrInstalls :
    keyInRange 7311 = true ∧ onlyMarks 4 0 = true ∧ paramsInRange par = true ∧
    titleWay 7311 (title .w0 (entry 7311 3) base) = some .w0 ∧
    (titleWay 7375 fullSet = none ∧ ((titleSet 7375 fullSet).get (titleSet 7375 fullSet).lru).valid = true ∧
      ((titleSet 7375 fullSet).get (titleSet 7375 fullSet).lru.other).valid = true ∧
      ((titleSet 7375 fullSet).get (titleSet 7375 fullSet).lru).pin ≠ 0 ∧
      ((titleSet 7375 fullSet).get (titleSet 7375 fullSet).lru.other).pin ≠ 0) ∧
    (titleWay 7311 base = none ∧ ((titleSet 7311 base).get (titleSet 7311 base).lru).valid = false ∧
      base.records.countP (waitsOn 7311) = 0) ∧
    (titleWay 7375 otherFree = none ∧ ((titleSet 7375 otherFree).get (titleSet 7375 otherFree).lru).pin ≠ 0 ∧
      ((titleSet 7375 otherFree).get (titleSet 7375 otherFree).lru.other).pin = 0) := by decide

/-- Records that wait on the title: two ADMITTED, and three in different stages. -/
theorem witness_LoadTitleUpdatesOrInstalls_waiting :
    (RecordInv waiting3 ∧ PlaceInv waiting3 ∧ titleWay 7311 waiting3 = none ∧
      ((titleSet 7311 waiting3).get (titleSet 7311 waiting3).lru).valid = false ∧
      waiting3.records.map (waitsOn 7311) = [true, true, true] ∧ waiting3.records.countP (waitsOn 7311) = 3) ∧
    (RecordInv waiting2 ∧ PlaceInv waiting2 ∧ titleWay 7311 waiting2 = none ∧
      waiting2.records.map (fun r => (waitsOn 7311 r, r.stage)) = [(true, .admitted), (true, .admitted)]) ∧
    (after .loadTitle (asked (.loadTitle 7311 0 par) waiting3) fun t => (findRecord (tk 3 1) t).isSome) = some true :=
  ⟨⟨waiting3_recordInv, waiting3_placeInv, by decide, by decide, by decide, by decide⟩,
    ⟨waiting2_recordInv, waiting2_placeInv, by decide, by decide⟩, by decide⟩

theorem witness_DropTitleFreesTheEntry :
    keyInRange 7311 = true ∧ titleWay 7311 base = none ∧ titleWay 7311 (title .w1 (entry 7311 1) base) = some .w1 ∧
    ((titleSet 7311 (title .w1 (entry 7311 1) base)).get .w1).pin ≠ 0 ∧
    titleWay 7311 (title .w0 (entry 7311 0) base) = some .w0 ∧
    ((titleSet 7311 (title .w0 (entry 7311 0) base)).get .w0).pin = 0 := by decide

theorem witness_QueryTitleAnswersTheEntry :
    (0 : TitleKey) = 0 ∧ (1 : TitleKey) ≠ 0 ∧ (0xFFFFF : TitleKey) ≠ 0 ∧
    titleWay 0xFFFFF (title .w0 (entry 0xFFFFF 0) base) = some .w0 ∧ titleWay 1 base = none ∧ isListed 1 base = false ∧
    titleWay 1 eightListed = none ∧ eightListed.pendingTitles.find? (fun x => x.key == 1) = some ⟨1, 1⟩ := by decide

theorem witness_ReadTitleSlotAnswersTheEntry :
    (asked (.readTitleSlot 31 1) base).link.requests = [⟨.readTitleSlot 31 1, 7⟩] ∧ (31 < 32 ∧ 1 = Way.w1.num) ∧ 32 ≤ 32 ∧
    2 ≤ 2 := by decide

theorem witness_SetParameterWritesTheValue :
    parameterRange 0 = none ∧ parameterRange 20 = none ∧ parameterRange 1 = some (0, 9) ∧ 9 < 10 ∧ (0 ≤ 9 ∧ 9 ≤ 9) ∧
    parameterRange 2 = some (5, 600) ∧ 4 < 5 ∧ parameterRange 16 = some (800, 9000) ∧ base.params.pMax < 6001 ∧
    (800 ≤ 6000 ∧ 6000 ≤ 9000 ∧ 6000 ≤ base.params.pMax) ∧ parameterRange 17 = some (800, 9000) ∧ 999 < base.params.pMin ∧
    (base.params.pMin ≤ 1000 ∧ 1000 ≤ 9000) ∧ (parameterRange 13).isSome ∧ (parameterRange 15).isSome ∧
    (parameterRange 19).isSome := by decide

theorem witness_RecomputeOfThePitch :
    let high := { base with press.pd := 6001 }
    let press := { base with press.pd := 6000 }
    let floor := { base with pace.floors.control := ⟨1398, false, 0, false⟩ }
    base.params.pMax < largestDemand high ∧
    (largestDemand press ≤ press.params.pMax ∧
      press.press.pd = min press.params.pMax (max press.params.pMin (largestDemand press))) ∧
    (largestDemand floor ≤ floor.params.pMax ∧
      floor.press.pd ≠ min floor.params.pMax (max floor.params.pMin (largestDemand floor))) ∧
    (largestDemand base < base.params.pMin ∧ base.params.pMin ≤ base.params.pMax) ∧
    6000 - 1398 ≥ floor.params.decrease ∧ press.pace.commanded = 6000 := by decide

theorem witness_SetFloorWritesTheEntry :
    (asked (.setFloor 6 3 9999) base).link.requests = [⟨.setFloor 6 3 9999, 7⟩] ∧ Contributor.code .control = 6 ∧
    Contributor.code .infeed = 1 ∧ (300 ≤ 9999 ∧ 9999 ≤ 9999) ∧ BitVec.toNat (3 : Byte) < 4 ∧ 4 ≤ BitVec.toNat (4 : Byte) ∧
    (0 < 299 ∧ 299 < 300) ∧ 9999 < 10000 ∧ 6 < 7 := by decide

theorem witness_FloorReportIsRecorded : ∀ st : Station, Listens st base := by intro st; cases st <;> rfl

theorem witness_LoadJacketsAppendsTheKeys :
    (List.replicate 17 (1 : TitleKey)).length > 16 ∧ (0 : TitleKey) ∈ [(1 : TitleKey), 0] ∧
    (List.replicate 16 (1 : TitleKey) ≠ [] ∧ (List.replicate 16 (1 : TitleKey)).length ≤ 16 ∧
      0 ∉ List.replicate 16 (1 : TitleKey)) ∧
    32 < { base with jackets.sequence := List.replicate 17 5 }.jackets.sequence.length + 16 ∧
    { base with jackets.sequence := List.replicate 16 5 }.jackets.sequence.length + 16 ≤ 32 := by decide

theorem witness_ReleaseJacketerEndsBypass :
    (asked (.releaseJacketer 2) base).link.requests = [⟨.releaseJacketer 2, 7⟩] ∧ (0 ≠ 1 ∧ 0 ≠ 2) ∧ (3 ≠ 1 ∧ 3 ≠ 2) ∧
    base.jackets.state = .free ∧ { base with jackets.state := .verify (tk 1 1) }.jackets.state ≠ .free := by decide

theorem witness_StatusAnswersAPartOfTheState :
    (asked (.status 7) base).link.requests = [⟨.status 7, 7⟩] ∧ 6 < 7 ∧ (asked (.status 0) base).link.requests = [⟨.status 0, 7⟩] ∧
    (asked (.status 6) base).link.requests = [⟨.status 6, 7⟩] := by decide

theorem witness_LineCommandsAreCheckedByTheLineState :
    (asked (.lineCommand 7) base).link.requests = [⟨.lineCommand 7, 7⟩] ∧ 6 < 7 ∧
    (running.line.state ≠ .stopped ∧ running.line.state ≠ .halted) ∧
    (base.line.state ≠ .running ∧ base.line.state ≠ .stopping ∧ base.line.state ≠ .runningOut ∧ base.line.state ≠ .faultHold) := by
  decide

theorem witness_RunStartsTheLine :
    let waits := { books [book (tk 1 1) 5 .head] (lanes (.holding 5 1) .empty base) with head := .waitCase (tk 1 1) (some .a) }
    let held := { line .stopped base with tracks.gateHold := some (tk 1 1) }
    (asked (.lineCommand 1) base).link.requests = [⟨.lineCommand 1, 7⟩] ∧ base.line.state = .halted ∧
    (line .stopped base).line.state = .stopped ∧ base.drive.stopDue = none ∧ base.lanes.get .a = .unknown ∧
    { base with press.state := .standby }.press.state = .standby ∧ base.press.state ≠ .standby ∧
    (waits.head = .waitCase (tk 1 1) (some .a) ∧ waits.lanes.get .a = .holding 5 1 ∧ keyOf (tk 1 1) waits = some 5) ∧
    (held.tracks.gateHold = some (tk 1 1) ∧ held.press.state = .ready ∧ held.lanes.a.pastInitial = true ∧
      held.lanes.b.pastInitial = true ∧ held.tracks.infeed.length < 3) ∧ base.readers.s3.waiting = none := by decide

/-- A held index with a book at the entry place, and with none; a head without a lane, with a lane UNKNOWN and with none; a notice
queue with room, and without. -/
theorem witness_RunStartsTheLine_held :
    let held := { spread with press := { spread.press with index := .held } }
    let noLane := { books [book (tk 1 1) 5 .head] (line .stopped base) with head := .waitCase (tk 1 1) none }
    (held.press.index = .held ∧ held.press.state ≠ .fault ∧
      (held.press.positions.p6 = none ∨ held.tracks.jacket.length < 3) ∧ held.tracks.entry = some (tk 5 1) ∧
      liveRecord (tk 5 1) held = some { book (tk 5 1) 5 .entry with dwell := some 5000, force := some 48 }) ∧
    (line .stopped base).tracks.entry = none ∧ spread.press.index ≠ .held ∧
    (noLane.head = .waitCase (tk 1 1) none ∧ noLane.lanes.a ≠ .unknown ∧ noLane.lanes.b ≠ .unknown) ∧
    (keyOf (tk 1 1) noLane = some 5 ∧
      (lanes .unknown (.purging .exchange none 9) noLane).lanes.get .a = .unknown ∧
      (lanes .unknown (.purging .exchange none 9) noLane).lanes.get .b = .purging .exchange none 9) ∧
    (base.link.notices.length < 32 ∧ base.retiring = [] ∧ base.link.held.any = false) ∧
    ¬((fullQueue base).link.notices.length < 32 ∧ (fullQueue base).retiring = [] ∧ (fullQueue base).link.held.any = false) := by
  decide

theorem witness_StopCommandsChangeTheLine :
    let pasting := { books [book (tk 1 1) 5 .head] running with head := .pasting (tk 1 1) .a }
    (asked (.lineCommand 2) running).link.requests = [⟨.lineCommand 2, 7⟩] ∧ running.line.state = .running ∧
    (asked (.lineCommand 3) pasting).link.requests = [⟨.lineCommand 3, 7⟩] ∧
    (pasting.head = .pasting (tk 1 1) .a ∧ pasting.tracks.waitingMarriage ≠ some (tk 1 1) ∧
      liveRecord (tk 1 1) pasting = some (book (tk 1 1) 5 .head) ∧ .interrupted ∉ (book (tk 1 1) 5 .head).flags) ∧
    running.head = .idle ∧ (asked (.lineCommand 4) running).link.requests = [⟨.lineCommand 4, 7⟩] ∧ lineEmpty running = true ∧
    running.readers.s3.waiting = none ∧ running.drive.stopDue = none := by decide

/-- R162: a line that keeps the invariants of records and places when RUN comes. -/
theorem witness_RunStartsTheLine_places : spread.line.state = .stopped ∧ RecordInv spread ∧ PlaceInv spread :=
  ⟨rfl, spread_recordInv, spread_placeInv⟩

/-- R168: the same line RUNNING when RUN_OUT comes. -/
theorem witness_StopCommandsChangeTheLine_runOut :
    let s := { spread with line := ⟨.running, some .run⟩ }
    s.line.state = .running ∧ RecordInv s ∧ PlaceInv s :=
  ⟨rfl, recordInv_of rfl (by decide) (by decide) (by decide),
    placeInv_of (by decide) (by decide) (fun _ _ => nofun) rfl rfl rfl rfl⟩

/-- STOP_NOW with a PASTING record that is INTERRUPTED already, and RUN_OUT of a line that is not empty afterwards. -/
theorem witness_StopCommandsChangeTheLine_places :
    (spread.head = .pasting (tk 4 1) .a ∧
      liveRecord (tk 4 1) spread = some { book (tk 4 1) 5 .head with flags := [.interrupted] } ∧
      .interrupted ∈ { book (tk 4 1) 5 .head with flags := [.interrupted] }.flags) ∧
    (after .runOut (asked (.lineCommand 4) { spread with line := ⟨.running, some .run⟩ }) lineEmpty) = some false ∧
    (after .runOut (asked (.lineCommand 4) running) lineEmpty) = some true := by decide

theorem witness_ReleaseLeavesFaultHold :
    let s := asked (.lineCommand 5) { line .faultHold base with press := { base.press with state := .fault, temp := some 94 } }
    s.link.requests = [⟨.lineCommand 5, 7⟩] ∧ s.line.state = .faultHold ∧ s.press.state = .fault ∧ s.press.temp = some 94 ∧
    94 < s.params.tRef + 30 ∧ s.params.tRef + 30 ≤ 95 ∧
    (s.readers.get .s3).unresolved = none ∧ (s.readers.get .s4).unresolved = none ∧ (s.readers.get .s5).unresolved = none ∧
    (s.readers.get .s6).unresolved = none := by decide

/-- `spread` in FAULT_HOLD with an unresolved read at one reader, and the ticket last accepted there. -/
def unresolved (i : ReaderId) (last : Option Ticket) (rd : Reading Ticket) : State :=
  { spread with line := ⟨.faultHold, some .sequence⟩, readers := spread.readers.put i ⟨last, none, some rd⟩ }

/-- An unresolved S3 read of the book at the head of the infeed track, in a line that keeps the invariants of records and places. -/
theorem witness_ReleaseLeavesFaultHold_places :
    let s := unresolved .s3 none (.named (tk 3 1))
    s.line.state = .faultHold ∧ RecordInv s ∧ PlaceInv s :=
  ⟨rfl, recordInv_of rfl (by decide) (by decide) (by decide),
    placeInv_of (by decide) (by decide) (fun _ _ => nofun) rfl rfl rfl rfl⟩

/-- An unresolved read of each reader, evaluated again: ignored, a sequence fault, or accepted. -/
theorem witness_ReleaseLeavesFaultHold_reads :
    ((unresolved .s4 (some (tk 6 1)) (.named (tk 6 1))).readers.s4 = ⟨some (tk 6 1), none, some (.named (tk 6 1))⟩) ∧
    ((unresolved .s4 (some (tk 6 1)) .unreadable).press.positions.p6 = (unresolved .s4 (some (tk 6 1)) .unreadable).readers.s4.last) ∧
    ((unresolved .s5 none (.named (tk 8 1))).tracks.jacket.head? = some (tk 7 1) ∧
      (unresolved .s5 none (.named (tk 8 1))).readers.s5.last ≠ some (tk 8 1)) ∧
    ((unresolved .s3 none (.named (tk 3 1))).tracks.infeed.head?.map (·.ticket) = some (tk 3 1) ∧
      (unresolved .s3 none (.named (tk 3 1))).head ≠ .idle ∧ { unresolved .s3 none (.named (tk 3 1)) with head := .idle }.head = .idle) ∧
    ((unresolved .s5 none .unreadable).tracks.delivery.length < 2 ∧
      2 ≤ { unresolved .s5 none .unreadable with tracks.delivery := [tk 8 1, tk 9 1] }.tracks.delivery.length) ∧
    ((unresolved .s6 none (.named (tk 8 1))).tracks.delivery.head? = some (tk 8 1) ∧
      liveRecord (tk 8 1) (unresolved .s6 none (.named (tk 8 1))) = some (book (tk 8 1) 5 .delivery)) ∧
    (after .release (asked (.lineCommand 5) (unresolved .s5 none (.named (tk 8 1)))) fun t => t.readers.s5.unresolved)
      = some (some (.named (tk 8 1))) ∧
    (after .release (asked (.lineCommand 5) (unresolved .s6 none (.named (tk 8 1)))) fun t => (t.out, t.readers.s6.unresolved))
      = some ([.s6Deliver], none) := by decide

theorem witness_ClearLineEmptiesTheLine :
    let s := asked (.lineCommand 6) (fullQueue (books [book (tk 1 1) 5 .infeed] (line .stopped base)))
    s.link.requests = [⟨.lineCommand 6, 7⟩] ∧ s.line.state = .stopped ∧ base.line.state = .halted ∧
    (s.records.map (·.ticket)).Nodup ∧ 32 ≤ s.link.notices.length ∧
    liveRecord (tk 1 1) s = some (book (tk 1 1) 5 .infeed) := by decide

/-- Room for the notices, in STOPPED and in HALTED. -/
theorem witness_ClearLineEmptiesTheLine_room :
    (RecordInv spread ∧ spread.retiring = [] ∧ spread.link.held.any = false ∧ spread.link.notices.length < 32 ∧
      spread.line.state = .stopped) ∧
    (RecordInv waiting2 ∧ waiting2.retiring = [] ∧ waiting2.link.held.any = false ∧ waiting2.link.notices.length < 32 ∧
      waiting2.line.state = .halted) :=
  ⟨⟨spread_recordInv, by decide⟩, ⟨waiting2_recordInv, by decide⟩⟩

theorem witness_BlockAtTheGate :
    let s := books [book (tk 1 1) 5 .admitted] running
    Listens .s1 s ∧ { s with tracks.lastGated := some (tk 1 1) }.tracks.lastGated = some (tk 1 1) ∧
    (s.tracks.lastGated ≠ some (tk 2 1) ∧ liveRecord (tk 2 1) s = none) ∧
    (liveRecord (tk 1 1) s = some (book (tk 1 1) 5 .admitted) ∧ (book (tk 1 1) 5 .admitted).thickness = none ∧
      s.tracks.gateHold = none) ∧
    paramsOf (book (tk 1 1) 5 .admitted) s = some par ∧ par.s + s.params.tolerance < min (BitVec.toNat (15 : Byte)) 99 ∧
    (¬ par.s + s.params.tolerance < min (BitVec.toNat (14 : Byte)) 99 ∧
      ¬ min (BitVec.toNat (14 : Byte)) 99 + s.params.tolerance < par.s) ∧
    (s.line.state = .running ∧ s.press.state = .ready ∧ s.lanes.a.pastInitial = true ∧ s.lanes.b.pastInitial = true ∧
      s.tracks.infeed.length < 3) ∧ (line .stopped s).line.state ≠ .running := by
  refine ⟨rfl, ?_⟩
  decide

theorem witness_ReadingsAreJudgedInOrder :
    let s := { books [book (tk 1 1) 5 .delivery] running with tracks.delivery := [tk 1 1] }
    let kept := { running with readers.s4 := ⟨some (tk 1 1), none, some .unreadable⟩ }
    (∀ i : ReaderId, Listens i.station running) ∧ Listens .s6 s ∧ Listens .s4 kept ∧
    (s.readers.s6.last ≠ some (tk 1 1) ∧ s.readers.s6.waiting ≠ some (tk 1 1) ∧ s.readers.s6.unresolved = none ∧
      s.tracks.delivery.head? = some (tk 1 1) ∧ liveRecord (tk 1 1) s = some (book (tk 1 1) 5 .delivery)) ∧
    (kept.readers.s4.last = some (tk 1 1) ∧ kept.readers.s4.last ≠ some (tk 2 1) ∧ kept.readers.s4.unresolved ≠ none) ∧
    running.press.positions.p6 = none := by
  refine ⟨fun i => by cases i <;> rfl, rfl, rfl, ?_⟩
  decide

theorem witness_BlockArrivesAtTheHead :
    let s := { books [book (tk 1 1) 5 .infeed, tableBook (tk 1 2) 6 .infeed false] running with tracks.infeed := [⟨tk 1 1, false⟩] }
    Listens .s3 s ∧ s.tracks.infeed = ⟨tk 1 1, false⟩ :: [] ∧
    (s.readers.s3.last ≠ some (tk 1 1) ∧ s.readers.s3.waiting ≠ some (tk 1 1) ∧ s.readers.s3.unresolved = none) ∧
    s.head = .idle ∧ { s with head := .waitTitle (tk 2 1) }.head ≠ .idle ∧
    liveRecord (tk 1 1) s = some (book (tk 1 1) 5 .infeed) ∧ s.tracks.gateHold ≠ some (tk 1 1) ∧
    liveRecord (tk 1 2) s = some (tableBook (tk 1 2) 6 .infeed false) ∧
    { s with tracks.infeed := [⟨tk 1 1, true⟩] }.tracks.infeed = ⟨tk 1 1, true⟩ :: [] ∧
    ({ s with readers.s3 := ⟨some (tk 1 1), some (tk 1 1), none⟩ }.readers.s3.waiting = some (tk 1 1) ∧
      s.readers.s3.waiting = none) := by
  refine ⟨rfl, ?_⟩
  decide

/-- Two lanes whose contents do not depend on each other keep R72. -/
theorem laneInv_of {a b : Lane} {s : State} (hc : ∀ k n, a = .holding k n ∨ b = .holding k n → 1 ≤ n ∧ n ≤ 10)
    (hh : ∀ k, a.holds k = true → b.holds k = false) (hi : ∀ k n, a ≠ .purging .initial (some k) n ∧ b ≠ .purging .initial (some k) n) :
    LaneInv (lanes a b s) where
  counts l k n h := by cases l; exacts [hc k n (.inl h), hc k n (.inr h)]
  apart k h := hh k h
  initial l k n := by cases l; exacts [(hi k n).1, (hi k n).2]

/-- R72 with a lane HOLDING a key and the other EMPTY, UNKNOWN or PURGING without a key. -/
theorem laneInv_one {k : TitleKey} {n : Nat} (h : 1 ≤ n ∧ n ≤ 10) (s : State) : LaneInv (lanes (.holding k n) .empty s) :=
  laneInv_of (fun _ _ e => by rcases e with e | e <;> cases e; exact h) (fun _ _ => rfl) (fun _ _ => ⟨nofun, nofun⟩)

/-- R72 with two different keys held. -/
theorem laneInv_two {k k' : TitleKey} {n n' : Nat} (hk : k ≠ k') (h : 1 ≤ n ∧ n ≤ 10) (h' : 1 ≤ n' ∧ n' ≤ 10) (s : State) :
    LaneInv (lanes (.holding k n) (.holding k' n') s) :=
  laneInv_of (fun _ _ e => by rcases e with e | e <;> cases e; exacts [h, h'])
    (fun x hx => by
      simp only [Lane.holds, Lane.isHolding, Lane.isKept, Bool.or_false, beq_iff_eq] at hx ⊢
      subst hx
      simpa using Ne.symm hk)
    (fun _ _ => ⟨nofun, nofun⟩)

/-- R72 with both lanes EMPTY. -/
theorem laneInv_empty (s : State) : LaneInv (lanes .empty .empty s) :=
  laneInv_of (fun _ _ e => by rcases e with e | e <;> cases e) (fun _ _ => rfl) (fun _ _ => ⟨nofun, nofun⟩)

/-- R72 with lane A kept for a key and lane B purging without one. -/
theorem laneInv_kept (k : TitleKey) (s : State) : LaneInv (lanes (.reserved k) (.purging .exchange none 1) s) :=
  laneInv_of (fun _ _ e => by rcases e with e | e <;> cases e) (fun _ _ => rfl) (fun _ _ => ⟨nofun, nofun⟩)

/-- R72 with no lane to take: both are UNKNOWN. -/
theorem laneInv_unknown (s : State) : LaneInv (lanes .unknown .unknown s) :=
  laneInv_of (fun _ _ e => by rcases e with e | e <;> cases e) (fun _ _ => rfl) (fun _ _ => ⟨nofun, nofun⟩)

/-- R72 with the first lane purging without a key and the second HOLDING one. -/
theorem laneInv_freed (k : TitleKey) (s : State) : LaneInv (lanes (.purging .exchange none 0) (.holding k 10) s) :=
  laneInv_of (fun _ _ e => by rcases e with e | e <;> cases e; omega) (fun _ h => by simp [Lane.holds, Lane.isHolding, Lane.isKept] at h)
    (fun _ _ => ⟨nofun, nofun⟩)

/-- The infeed track with books of titles 6210 and 5120, head first. -/
def infeed2 (s : State) : State :=
  { books [book (tk 1 1) 9001 .head, book (tk 2 1) 6210 .infeed, book (tk 3 1) 5120 .infeed] s with
    tracks.infeed := [⟨tk 2 1, false⟩, ⟨tk 3 1, false⟩] }

theorem witness_LaneDecisionTakesTheFirstRow_kept :
    LaneInv (lanes (.holding 5120 10) .empty (infeed2 running)) ∧ keyOf (tk 3 1) (infeed2 running) = some 5120 ∧
    (lanes (.holding 5120 10) .empty (infeed2 running)).lanes.get .a = .holding 5120 10 ∧
    (lanes (.holding 5120 1) .empty (infeed2 running)).lanes.get .a = .holding 5120 1 ∧
    running.line.state.feeds = true ∧ base.line.state.feeds = false ∧
    LaneInv (lanes (.reserved 9001) (.purging .exchange none 1) running) ∧
    ((lanes (.reserved 9001) (.purging .exchange none 1) running).lanes.get .a).isKept 9001 = true :=
  ⟨laneInv_one (by decide) _, by decide, rfl, rfl, rfl, rfl, laneInv_kept _ _, by decide⟩

theorem witness_LaneDecisionTakesTheFirstRow_taken :
    (LaneInv (lanes .empty .empty running) ∧ ∀ l, ((lanes .empty .empty running).lanes.get l).holds 9001 = false) ∧
    (LaneInv (lanes (.holding 5120 3) .empty running) ∧ (lanes (.holding 5120 3) .empty running).lanes.b = .empty ∧
      ∀ l, ((lanes (.holding 5120 3) .empty running).lanes.get l).holds 9001 = false) ∧
    (LaneInv (lanes (.purging .exchange none 0) (.holding 5120 10) running) ∧
      ∀ l, ((lanes (.purging .exchange none 0) (.holding 5120 10) running).lanes.get l).holds 9001 = false) ∧
    (LaneInv (lanes (.holding 5120 3) (.holding 6210 2) (infeed2 running)) ∧
      (∀ l, ((lanes (.holding 5120 3) (.holding 6210 2) (infeed2 running)).lanes.get l).holds 9001 = false) ∧
      infeedPlace 5120 (infeed2 running) = some 1 ∧ infeedPlace 6210 (infeed2 running) = some 0) ∧
    (LaneInv (lanes .unknown .unknown running) ∧ ∀ l, ((lanes .unknown .unknown running).lanes.get l).holds 9001 = false) :=
  ⟨⟨laneInv_empty _, fun l => by cases l <;> rfl⟩,
    ⟨laneInv_one (by decide) _, rfl, fun l => by cases l <;> decide⟩,
    ⟨laneInv_freed _ _, fun l => by cases l <;> decide⟩,
    ⟨laneInv_two (by decide) (by decide) (by decide) _, fun l => by cases l <;> decide, by decide, by decide⟩,
    ⟨laneInv_unknown _, fun l => by cases l <;> rfl⟩⟩

theorem witness_GateTestAndReleaseCheck :
    let held := { books [book (tk 1 1) 5 .gated] running with tracks.gateHold := some (tk 1 1) }
    let waits := { books [book (tk 1 1) 5 .head] (lanes (.reserved 6) .unknown running) with head := .waitCase (tk 1 1) none }
    (held.tracks.gateHold = some (tk 1 1) ∧ gateOpen held = true) ∧ running.tracks.gateHold = none ∧
    gateOpen { held with tracks.infeed := List.replicate 3 ⟨tk 2 1, false⟩ } = false ∧
    (waits.head = .waitCase (tk 1 1) none ∧ keyOf (tk 1 1) waits = some 5 ∧ waits.lanes.get .a ≠ .empty ∧
      wanted 6 waits = false) := by decide

/-- A head without a lane, whose lanes hold what it does not want and stay as they are. -/
theorem witness_GateTestAndReleaseCheck_noLane :
    let waits := { books [book (tk 1 1) 5 .head] (lanes (.holding 6 1) .unknown running) with head := .waitCase (tk 1 1) none }
    waits.head = .waitCase (tk 1 1) none ∧ ∀ l ∈ [LaneId.a, .b], waits.lanes.get l ≠ .empty := by decide

/-- The record that a case is taken for has no lane yet. -/
theorem witness_LaneDecisionTakesTheFirstRow_used :
    liveRecord (tk 1 1) (infeed2 running) = some (book (tk 1 1) 9001 .head) ∧ (book (tk 1 1) 9001 .head).lane = none ∧
    keyOf (tk 1 1) (infeed2 running) = some 9001 := by decide

theorem witness_CasesAreSteered :
    (Listens .s2 (lanes (.holding 5 10) .empty running) ∧ LaneInv (lanes (.holding 5 10) .empty running) ∧
      (lanes (.holding 5 10) .empty running).lanes.get .a = .holding 5 10) ∧
    (LaneInv (lanes (.holding 5 9) .empty running) ∧ (lanes (.holding 5 9) .empty running).lanes.get .a = .holding 5 9 ∧ 9 < 10) ∧
    (LaneInv (lanes (.reserved 5) (.purging .exchange none 1) running) ∧
      (lanes (.reserved 5) (.purging .exchange none 1) running).lanes.get .a = .reserved 5 ∧
      ∀ t, running.head ≠ .waitCase t (some .a)) ∧
    (LaneInv (lanes .empty .empty running) ∧ ∀ l, ((lanes .empty .empty running).lanes.get l).holds 5 = false) ∧
    (LaneInv (lanes .unknown .unknown running) ∧ ∀ l, ((lanes .unknown .unknown running).lanes.get l).holds 5 = false) :=
  ⟨⟨rfl, laneInv_one (by decide) _, rfl⟩, ⟨laneInv_one (by decide) _, rfl, by decide⟩,
    ⟨laneInv_kept _ _, rfl, fun _ => nofun⟩, ⟨laneInv_empty _, fun l => by cases l <;> rfl⟩,
    ⟨laneInv_unknown _, fun l => by cases l <;> rfl⟩⟩

/-- R75: a head that waits on the lane that the case joins. -/
theorem witness_CasesAreSteered_offered :
    let s := { lanes (.holding 5 1) .empty running with head := .waitCase (tk 1 1) (some .a) }
    Listens .s2 s ∧ LaneInv s ∧ s.lanes.get .a = .holding 5 1 ∧ s.head = .waitCase (tk 1 1) (some .a) :=
  ⟨rfl, ⟨(laneInv_one (k := 5) (n := 1) (by decide) running).counts, (laneInv_one (k := 5) (n := 1) (by decide) running).apart,
    (laneInv_one (k := 5) (n := 1) (by decide) running).initial⟩, rfl, rfl⟩

/-- R74, row 5: a purge that carries the key. -/
theorem witness_CasesAreSteered_carried :
    LaneInv (lanes (.purging .exchange (some 5) 1) .unknown running) ∧
    (lanes (.purging .exchange (some 5) 1) .unknown running).lanes.get .a = .purging .exchange (some 5) 1 :=
  ⟨laneInv_of (fun _ _ e => by rcases e with e | e <;> cases e) (fun _ _ => rfl) (fun _ _ => ⟨nofun, nofun⟩), rfl⟩

theorem witness_PurgesEnd :
    Listens .s2 running ∧ (lanes (.purging .exchange (some 5) 0) .empty running).lanes.get .a = .purging .exchange (some 5) 0 ∧
    ((0 : Byte) ≠ 1 ∧ (0 : Byte) ≠ 2 ∧ (3 : Byte) ≠ 1 ∧ (3 : Byte) ≠ 2) ∧
    (∀ kind carried n, running.lanes.get .a ≠ .purging kind carried n) ∧
    (line .faultHold base).line.state = .faultHold ∧ running.line.state ≠ .faultHold ∧ (∀ t l', running.head ≠ .pasting t l') ∧
    (spread.line.state ≠ .faultHold ∧ spread.head = .pasting (tk 4 1) .a ∧ spread.tracks.waitingMarriage ≠ some (tk 4 1) ∧
      liveRecord (tk 4 1) spread = some { book (tk 4 1) 5 .head with flags := [.interrupted] } ∧
      .interrupted ∉ (book (tk 4 1) 5 .head).flags ∧
      liveRecord (tk 4 1) (books [book (tk 4 1) 5 .head] spread) = some (book (tk 4 1) 5 .head)) :=
  ⟨rfl, rfl, by decide, fun _ _ _ => nofun, rfl, by decide, fun _ _ => nofun, by decide⟩

theorem witness_TimersRunOut :
    let s := { running with head := .waitTitle (tk 1 1), marriageTimer := some 0 }
    let w := { running with head := .waitCase (tk 1 1) none, marriageTimer := some 0 }
    (s.marriageTimer = some 0 ∧ s.line.state.feeds = true ∧ s.head = .waitTitle (tk 1 1)) ∧
    (w.marriageTimer = some 0 ∧ w.head = .waitCase (tk 1 1) none) ∧
    { running with press.idleTimer := some 0 }.press.idleTimer = some 0 ∧ running.press.state ≠ .standby := by decide

theorem witness_MarriageTakesTheEntryPlace :
    let s := { books [book (tk 1 1) 5 .head] running with head := .pasting (tk 1 1) .a }
    Listens .s3 s ∧
    ((s.head = .pasting (tk 1 1) .a ∧ s.tracks.waitingMarriage = none ∧ s.tracks.entry = none ∧
      liveRecord (tk 1 1) s = some (book (tk 1 1) 5 .head) ∧ paramsOf (book (tk 1 1) 5 .head) s = some par ∧
      (book (tk 1 1) 5 .head).dwell = none ∧ (book (tk 1 1) 5 .head).force = none) ∧
    { s with tracks.entry := some (tk 2 1) }.tracks.entry = some (tk 2 1) ∧
    { s with head := .holdMarried (tk 1 1) .a }.head = .holdMarried (tk 1 1) .a ∧
    { s with tracks.waitingMarriage := some (tk 1 1) }.tracks.waitingMarriage = some (tk 1 1)) ∧
    (∀ t l, s.head = .pasting t l → Reading.unreadable ≠ .named t) ∧ (∀ t l, running.head ≠ .holdMarried t l) := by
  refine ⟨rfl, by decide, fun _ _ _ => nofun, fun _ _ => nofun⟩

theorem witness_TemperatureMovesThePress :
    Listens .s4 running ∧
    running.params.tRef + 30 ≤ min (BitVec.toInt (95 : Word)).toNat 150 ∧
    min (BitVec.toInt (94 : Word)).toNat 150 < running.params.tRef + 30 ∧
    running.params.tRef - 15 ≤ min (BitVec.toInt (50 : Word)).toNat 150 ∧
    min (BitVec.toInt (49 : Word)).toNat 150 < running.params.tRef - 15 ∧
    min (BitVec.toInt (46 : Word)).toNat 150 < running.params.tRef - 18 ∧
    running.params.tRef - 18 ≤ min (BitVec.toInt (47 : Word)).toNat 150 ∧
    (running.press.state = .ready ∧ base.press.state = .cold) ∧
    ({ running with press.state := .fault }.press.state = .fault ∧ running.line.state ≠ .faultHold) := by
  refine ⟨rfl, ?_⟩
  decide

theorem witness_IndexReadyIsAnswered :
    let s := { books [{ book (tk 1 1) 5 .entry with force := some 48 }] running with
      tracks.entry := some (tk 1 1), head := .holdMarried (tk 1 1) .a }
    Listens .s4 s ∧ (s.press.index = .clamp ∧ s.line.state = .running ∧ s.press.positions.p6 = none ∧ s.press.state ≠ .fault ∧
      s.tracks.entry = some (tk 1 1) ∧ liveRecord (tk 1 1) s = some { book (tk 1 1) 5 .entry with force := some 48 } ∧
      s.head = .holdMarried (tk 1 1) .a) ∧
    running.tracks.entry = none ∧ ¬(base.line.state = .running ∨ base.line.state = .runningOut) ∧
    ({ s with press.index := .held }.press.index = .held ∧ s.press.index ≠ .held) ∧
    { s with press.index := .moving }.press.index = .moving := by
  refine ⟨rfl, ?_⟩
  decide

/-- An index outstanding: a book at position 6, one at position 1, and the carried book at the entry place. -/
def moving : State :=
  { books [{ book (tk 1 1) 5 .press with dwell := some 5000, eff := some 4999, position := some 6 },
      { book (tk 2 1) 5 .press with dwell := some 5000, eff := some 0, position := some 1 },
      { book (tk 3 1) 5 .entry with dwell := some 5000 }] running with
    tracks.entry := some (tk 3 1)
    press := { running.press with
      index := .moving, carried := some (tk 3 1), positions := ⟨some (tk 2 1), none, none, none, none, some (tk 1 1)⟩ } }

theorem moving_recordInv : RecordInv moving where
  room := by decide
  tickets := by decide
  order := by decide
  retires t := by simp [moving, books, book, running, line, base, State.reset]
  outcome := by decide
  reasons := by decide
  flags := by decide

theorem moving_placeInv : PlaceInv moving where
  stands st h1 h2 t := by
    cases st <;>
      simp [standing, moving, books, book, running, line, base, State.reset, Tracks.resetValue, Positions.tickets] <;>
      first | contradiction | grind
  once st := by cases st <;> decide
  position := by decide
  married t l h := by cases h
  waiting t h := by cases h
  readS3 t h := by cases h
  readS5 t h := by cases h
  jacketing t h := by cases h

theorem witness_IndexDoneCompletesTheIndex :
    Listens .s4 moving ∧ moving.press.index = .moving ∧ RecordInv moving ∧ PlaceInv moving ∧ running.press.index ≠ .moving ∧
    ∀ c : Nat, (12 * 100 < c * 95 ↔ 13 ≤ c) :=
  ⟨rfl, rfl, moving_recordInv, moving_placeInv, by decide, fun c => by omega⟩

/-- The same index with a waiting marriage behind the carried book. -/
def movingWaits : State :=
  { books (moving.records ++ [book (tk 4 1) 5 .head]) moving with
    head := .pasting (tk 4 1) .a, tracks := { moving.tracks with waitingMarriage := some (tk 4 1) } }

theorem movingWaits_recordInv : RecordInv movingWaits where
  room := by decide
  tickets := by decide
  order := by decide
  retires t := by simp [movingWaits, moving, books, book, running, line, base, State.reset]
  outcome := by decide
  reasons := by decide
  flags := by decide

theorem movingWaits_placeInv : PlaceInv movingWaits where
  stands st h1 h2 t := by
    cases st <;>
      simp [standing, movingWaits, moving, books, book, running, line, base, State.reset, Tracks.resetValue,
        Positions.tickets] <;>
      first | contradiction | grind
  once st := by cases st <;> decide
  position := by decide
  married t l h := by cases h
  waiting t h := by cases h; exact ⟨rfl, .a, rfl⟩
  readS3 t h := by cases h
  readS5 t h := by cases h
  jacketing t h := by cases h

/-- The waiting marriage's record, and an early cycle in a line that is STOPPING with the head not PASTING afterwards. -/
theorem witness_IndexDoneCompletesTheIndex_closing :
    findRecord (tk 4 1) movingWaits = some (book (tk 4 1) 5 .head) ∧ paramsOf (book (tk 4 1) 5 .head) movingWaits = some par ∧
    (book (tk 4 1) 5 .head).dwell = none ∧ (book (tk 4 1) 5 .head).force = none ∧
    BitVec.toNat (1328 : Word) * 100 < 1398 * 95 ∧ ¬BitVec.toNat (1329 : Word) * 100 < 1398 * 95 ∧
    (after (.indexDone 900 1328) { movingWaits with line := ⟨.stopping, some .stopSoft⟩, pace.inForce := some 1398 } fun t => t.head)
      = some (.holdMarried (tk 4 1) .a) := by decide

theorem witness_IndexDoneCompletesTheIndex_waiting :
    RecordInv movingWaits ∧ PlaceInv movingWaits ∧ movingWaits.press.index = .moving ∧
    movingWaits.tracks.waitingMarriage = some (tk 4 1) ∧ movingWaits.tracks.entry = some (tk 3 1) ∧
    movingWaits.press.carried = some (tk 3 1) ∧ movingWaits.head.married (tk 3 1) = false :=
  ⟨movingWaits_recordInv, movingWaits_placeInv, rfl, rfl, rfl, rfl, rfl⟩

/-- Temperatures at the ends of each range of the factor, and none. -/
theorem witness_IndexDoneCompletesTheIndex_factor :
    let at_ (v : Option Nat) : State := { running with press := { running.press with temp := v } }
    (at_ none).press.temp = none ∧ running.params.tRef ≤ 65 ∧ (64 < running.params.tRef ∧ running.params.tRef ≤ 64 + 25) ∧
    (40 < running.params.tRef ∧ running.params.tRef ≤ 40 + 25) ∧ (25 ≤ running.params.tRef ∧ 40 + 25 ≤ running.params.tRef) ∧
    factor (at_ (some 40)) = 150 ∧ factor (at_ (some 64)) = 102 := by decide

theorem witness_BookArrivesAtTheJacketer :
    let s := { books [book (tk 1 1) 5 .jacket] running with tracks.jacket := [tk 1 1], jackets.sequence := [6, 7, 5] }
    Listens .s5 s ∧ s.tracks.jacket = tk 1 1 :: [] ∧ keyOf (tk 1 1) s = some 5 ∧
    (s.readers.s5.last ≠ some (tk 1 1) ∧ s.readers.s5.waiting ≠ some (tk 1 1) ∧ s.readers.s5.unresolved = none) ∧
    2 ≤ { s with tracks.delivery := [tk 2 1, tk 3 1] }.tracks.delivery.length ∧ s.tracks.delivery.length < 2 ∧
    (s.jackets.mode = .normal ∧ 1 ≤ 2 ∧ 2 ≤ s.params.skipLimit ∧ s.jackets.sequence[2]? = some 5 ∧
      ∀ j, j < 2 → s.jackets.sequence[j]? ≠ some 5) ∧
    { s with jackets.sequence := [5, 7] }.jackets.sequence.head? = some 5 ∧
    { s with jackets.mode := .bypass }.jackets.mode = .bypass ∧
    (∀ j, j ≤ s.params.skipLimit → { s with jackets.sequence := [6, 7, 8, 5] }.jackets.sequence[j]? ≠ some 5) ∧
    { s with readers.s5 := ⟨some (tk 1 1), some (tk 1 1), none⟩ }.readers.s5.waiting = some (tk 1 1) := by
  refine ⟨rfl, ?_⟩
  decide

theorem witness_JacketsAreVerifiedAndApplied :
    let s := { books [book (tk 1 1) 5 .jacket] running with
      tracks.jacket := [tk 1 1], jackets := ⟨[5, 6], .normal, 2, .verify (tk 1 1)⟩ }
    Listens .s5 s ∧ ((s.jackets.state = .verify (tk 1 1) ∧ s.jackets.sequence.head? = some 5 ∧ Reading.named (5 : TitleKey) = .named 5) ∧
    (2 ≤ s.jackets.mismatch ∧ Reading.named (6 : TitleKey) ≠ .named 5) ∧
    { s with jackets.mismatch := 1 }.jackets.mismatch < 2 ∧
    { s with jackets.state := .applying (tk 1 1) }.jackets.state = .applying (tk 1 1) ∧
    liveRecord (tk 2 1) (books [book (tk 2 1) 5 .delivery] s) = some (book (tk 2 1) 5 .delivery) ∧
    .noJacket ∉ (book (tk 2 1) 5 .delivery).flags) ∧ (∀ t, running.jackets.state ≠ .verify t) := by
  refine ⟨rfl, by decide, fun _ => nofun⟩

theorem witness_PassedRetiresTheBook :
    let s := { books [book (tk 1 1) 5 .delivery] running with
      tracks.delivery := [tk 1 1], readers.s6 := ⟨some (tk 1 1), none, none⟩ }
    Listens .s6 s ∧ s.tracks.delivery.head? = some (tk 1 1) ∧ s.readers.s6.last = some (tk 1 1) ∧
    liveRecord (tk 1 1) s = some (book (tk 1 1) 5 .delivery) ∧ s.tracks.delivery.head? ≠ some (tk 2 1) := by
  refine ⟨rfl, ?_⟩
  decide

/-! ### Witnesses of the invariants: an index outstanding, with INDEX_DONE in front -/

/-- INDEX_DONE in front of `moving`, whose press demand is up to date. -/
def movingNext : State :=
  { moving with pending := [.indexDone 4000 4300], press := { moving.press with pd := pressDemand moving } }

theorem movingNext_answers : ∃ t, step movingNext = .next t := ⟨_, rfl⟩

theorem witness_LinkInvariantIsKept : LinkInv movingNext ∧ ArbiterInv movingNext :=
  ⟨⟨by decide, by decide, by decide, by decide, by decide⟩, ⟨by decide, by decide, by decide, by decide, by decide⟩⟩

theorem witness_RecordInvariantIsKept : RecordInv movingNext :=
  ⟨by decide, by decide, by decide, moving_recordInv.retires, by decide, by decide, by decide⟩

theorem witness_TitleInvariantsAreKept : TitleInv movingNext ∧ PendingInv movingNext :=
  ⟨⟨fun i w => by cases w <;> revert i <;> decide, by decide, fun i w => by cases w <;> revert i <;> decide,
      fun i w => by cases w <;> revert i <;> decide, by decide⟩,
    ⟨by decide, by decide, by decide, by decide, by decide⟩⟩

theorem witness_LanesAndBoundsAreKept : LaneInv movingNext ∧ TrackInv movingNext ∧ JacketInv movingNext ∧ PaceInv movingNext := by
  refine ⟨⟨fun l k n h => ?_, fun _ _ => rfl, fun l k n => ?_⟩, ⟨by decide, by decide, by decide, by decide, by decide⟩,
    ⟨by decide, by decide, by decide⟩, ⟨fun number lo hi h => ?_, by decide, by decide⟩⟩
  · cases l <;> cases h
  · cases l <;> exact nofun
  · unfold parameterRange at h
    split at h <;> first | (cases h; decide) | cases h

theorem witness_PlaceInvariantIsKept : RecordInv movingNext ∧ TrackInv movingNext ∧ PlaceInv movingNext :=
  ⟨witness_RecordInvariantIsKept, witness_LanesAndBoundsAreKept.2.1,
    ⟨moving_placeInv.stands, moving_placeInv.once, moving_placeInv.position, moving_placeInv.married, moving_placeInv.waiting,
      moving_placeInv.readS3, moving_placeInv.readS5, moving_placeInv.jacketing⟩⟩

theorem witness_IdleTimerAndDemandAreKept : IdleInv movingNext ∧ DemandInv movingNext := ⟨by unfold IdleInv; decide, rfl⟩

end Sys2Proof.Tests
end

section
/-! Device reset and the Title Table (chapter 2, R32): what every title set reads after reset, and that nothing is left in the
link to report the counts lost. -/

namespace Sys2Proof.Machine

/-- DEVICE_RESET leaves only the commands that wait and the model's own counter (log 24). -/
theorem exec_deviceReset (s : State) :
    exec .deviceReset s = .next { State.reset with pending := s.pending, openChoices := s.openChoices } := rfl

/-- R32: both ways of an empty set read as the empty entry. -/
@[simp] theorem TitleSet.get_resetValue (w : Way) : TitleSet.resetValue.get w = .resetValue := by cases w <;> rfl

@[simp] theorem TitleSet.lru_resetValue : TitleSet.resetValue.lru = .w0 := rfl

/-- R32: reset empties all 32 sets. -/
@[simp] theorem State.titles_get_reset (i : Fin 32) : State.reset.titles.get i = .resetValue :=
  Vector.get_replicate 32 TitleSet.resetValue i

/-- R32, R175, R183, R184: after reset no answer, refusal, notice or held notice waits, and no frame has been sent, so nothing
reports the counts lost. -/
theorem State.reset_reports_nothing :
    State.reset.link.answers = [] ∧ State.reset.link.refusal = none ∧ State.reset.link.notices = [] ∧
    State.reset.link.held = .empty ∧ State.reset.sentFrame = [] := ⟨rfl, rfl, rfl, rfl, rfl⟩

/-- Settles O4: the state after device reset is `State.reset` in everything the statement reads, so its title sets are the empty
ones and its link reports nothing. -/
theorem deviceResetEmptiesTitles : Obligations.DeviceResetEmptiesTitles := by
  intro s
  refine ⟨_, exec_deviceReset s, fun i w => ?entry, fun i => ?mark, ?pending, State.reset_reports_nothing⟩
  case entry =>
    calc (State.reset.titles.get i).get w
      _ = TitleSet.resetValue.get w := by rw [State.titles_get_reset]
      _ = TitleEntry.resetValue := TitleSet.get_resetValue w
  case mark =>
    show (State.reset.titles.get i).lru = .w0
    rw [State.titles_get_reset, TitleSet.lru_resetValue]
  case pending => rfl

end Sys2Proof.Machine
end

section
/-! The pitch (chapter 6): the largest demand, the order of the deciding sources and the two outcomes of a recompute; and the FLOOR
reports of the stations. -/

namespace Sys2Proof.Machine

/-! ### The contributors in their order (R130) -/

/-- In a list sorted by `f`, `find?` gives the least element that passes the test. -/
theorem find?_eq_some_iff_least {α : Type} {f : α → Nat} {p : α → Bool} {a : α} {l : List α} (h : l.Pairwise (f · < f ·)) :
    l.find? p = some a ↔ a ∈ l ∧ p a = true ∧ ∀ b ∈ l, f b < f a → p b = false := by
  induction h with
  | nil => simp
  | @cons x xs hx _ ih =>
    cases hp : p x with
    | false =>
      have ne_of_passes : p a = true → a ≠ x := by rintro ha rfl; simp [hp] at ha
      grind
    | true =>
      have none_below : ∀ b ∈ xs, ¬f b < f x := fun b hb => (hx b hb).not_gt
      grind

theorem contributors_sorted : contributors.Pairwise (·.code < ·.code) := by decide

@[simp] theorem mem_contributors (c : Contributor) : c ∈ contributors := by cases c <;> decide

theorem find?_contributors {p : Contributor → Bool} {c : Contributor} :
    contributors.find? p = some c ↔ p c = true ∧ ∀ c', c'.code < c.code → p c' = false := by
  simp [find?_eq_some_iff_least contributors_sorted]

/-! ### The demands (R123, R128) -/

/-- The values that take part in the aggregate are PD and the effective contributor values. -/
theorem mem_demand_values {s : State} {v : Nat} :
    v ∈ (demands s).map Prod.snd ↔ v = s.press.pd ∨ ∃ c, (s.pace.floors.get c).effective = some v := by
  simp [demands]

theorem coe_largestDemand (s : State) : (largestDemand s : WithBot Nat) = ((demands s).map Prod.snd).maximum := by
  rw [← List.foldr_max_of_ne_nil (by simp [demands]), largestDemand, List.foldl_eq_foldr]
  rfl

theorem le_largestDemand {s : State} {v : Nat} (h : v ∈ (demands s).map Prod.snd) : v ≤ largestDemand s :=
  List.le_maximum_of_mem h (coe_largestDemand s).symm

theorem largestDemand_mem (s : State) : largestDemand s ∈ (demands s).map Prod.snd :=
  List.maximum_mem (coe_largestDemand s).symm

theorem pd_le_largestDemand (s : State) : s.press.pd ≤ largestDemand s := le_largestDemand (mem_demand_values.2 (.inl rfl))

theorem effective_le_largestDemand {s : State} {c : Contributor} {v : Nat} (h : (s.pace.floors.get c).effective = some v) :
    v ≤ largestDemand s := le_largestDemand (mem_demand_values.2 (.inr ⟨c, h⟩))

/-! ### The deciding source (R130) -/

/-- R130, case 1. -/
theorem decidingSource_above {s : State} (h : s.params.pMax < largestDemand s) : decidingSource s = .pMax := by
  simp [decidingSource, h]

/-- R130, case 2 for PRESS. -/
theorem decidingSource_press {s : State} (h : largestDemand s ≤ s.params.pMax) (hp : s.press.pd = targetPitch s) :
    decidingSource s = .press := by
  simp [decidingSource, demands, Nat.not_lt.2 h, hp]

/-- R130: the first contributor that demands `v`, in the order IN to CTL. -/
def firstDemanding (s : State) (v : Nat) : Option Contributor :=
  contributors.find? fun c => (s.pace.floors.get c).effective == some v

theorem firstDemanding_eq_some {s : State} {v : Nat} {c : Contributor} : firstDemanding s v = some c ↔
    (s.pace.floors.get c).effective = some v ∧ ∀ c', c'.code < c.code → (s.pace.floors.get c').effective ≠ some v := by
  simp [firstDemanding, find?_contributors]

theorem firstDemanding_eq_none {s : State} {v : Nat} :
    firstDemanding s v = none ↔ ∀ c, (s.pace.floors.get c).effective ≠ some v := by
  simp [firstDemanding]

/-- Behind a PD of another value, the first demand of `v` is a contributor's. -/
theorem find?_demands {s : State} {v : Nat} (hp : s.press.pd ≠ v) :
    (demands s).find? (fun d => d.2 == v) = (firstDemanding s v).map fun c => (.contributor c, v) := by
  have passes (c : Contributor) : ((s.pace.floors.get c).effective.map fun w => (PaceSource.contributor c, w)).any
      (fun d => d.2 == v) = ((s.pace.floors.get c).effective == some v) := by
    cases (s.pace.floors.get c).effective <;> simp
  rw [demands, List.find?_cons_of_neg (by simpa using hp), List.find?_filterMap]
  simp only [passes]
  change (firstDemanding s v).bind _ = _
  cases hc : firstDemanding s v with
  | none => rfl
  | some c =>
    obtain ⟨demanded, -⟩ := firstDemanding_eq_some.1 hc
    simp [demanded]

/-- R130, cases 2 and 3 behind PRESS: the first contributor that demands the target, else P_MIN. -/
theorem decidingSource_behind_press {s : State} (h : largestDemand s ≤ s.params.pMax) (hp : s.press.pd ≠ targetPitch s) :
    decidingSource s = (firstDemanding s (targetPitch s)).elim .pMin .contributor := by
  rw [decidingSource, if_neg (Nat.not_lt.2 h), find?_demands hp]
  cases firstDemanding s (targetPitch s) <;> rfl

/-- R130, case 2 for a contributor: it is the first to demand the target. -/
theorem decidingSource_contributor {s : State} (h : largestDemand s ≤ s.params.pMax) (hp : s.press.pd ≠ targetPitch s)
    (c : Contributor) : decidingSource s = .contributor c ↔
      (s.pace.floors.get c).effective = some (targetPitch s) ∧
        ∀ c', c'.code < c.code → (s.pace.floors.get c').effective ≠ some (targetPitch s) := by
  rw [decidingSource_behind_press h hp, ← firstDemanding_eq_some]
  cases firstDemanding s (targetPitch s) <;> simp

/-- R130, case 3: when every demand is below P_min, the target is P_min and no demand equals it. -/
theorem decidingSource_below {s : State} (h : largestDemand s < s.params.pMin) (hb : s.params.pMin ≤ s.params.pMax) :
    decidingSource s = .pMin := by
  have target : targetPitch s = s.params.pMin := by simp only [targetPitch]; omega
  have no_press : s.press.pd ≠ targetPitch s := by have := pd_le_largestDemand s; omega
  have no_contributor : firstDemanding s (targetPitch s) = none := by
    refine firstDemanding_eq_none.2 fun c hc => ?_
    have := effective_le_largestDemand hc
    omega
  rw [decidingSource_behind_press (by omega) no_press, no_contributor, Option.elim_none]

/-! ### The recompute (R128 to R132) -/

/-- R129, row 4, and a row that gives the pitch already commanded: only the target and its source are stored. -/
theorem recomputePitch_stays {s : State}
    (h : pitchMoves s.params s.pace.commanded (targetPitch s) = false ∨ targetPitch s = s.pace.commanded) :
    recomputePitch s = { s with pace := { s.pace with target := some (targetPitch s, decidingSource s) } } := by
  rcases h with h | h <;> simp [recomputePitch, h]

/-- R129, rows 1 to 3, R131, R132: the pitch changes, and PACE and Pace Changed go out. -/
theorem recomputePitch_moves {s : State} (h : pitchMoves s.params s.pace.commanded (targetPitch s) = true)
    (hne : targetPitch s ≠ s.pace.commanded) :
    recomputePitch s = produce (.paceChanged (targetPitch s) (decidingSource s))
      (send (.s4Pace (targetPitch s)) (send (.drivePace (targetPitch s))
        { s with pace := { s.pace with
            target := some (targetPitch s, decidingSource s)
            commanded := targetPitch s
            source := some (decidingSource s) } })) := by
  simp [recomputePitch, h, hne]

/-- Settles O28: the maximum by what the list of demands holds, the source by the cases of R130, and the new state by whether a row of
R129 gives another pitch. -/
theorem recomputeOfThePitch : Obligations.RecomputeOfThePitch := fun s =>
  ⟨⟨pd_le_largestDemand s, fun _ _ => effective_le_largestDemand⟩, .inr (mem_demand_values.1 (largestDemand_mem s)),
    decidingSource_above, decidingSource_press, decidingSource_contributor, decidingSource_below,
    recomputePitch_stays, recomputePitch_moves⟩

/-! ### FLOOR (R124) -/

/-- R200: a FLOOR report at a port that listens. -/
theorem exec_floor_listens {st : Station} {s : State} (h : Listens st s) (value : Word) :
    exec (.floor st value) s = .next (noteSending (takeFloor st value.toNat (openStep s))) :=
  takeMessage_listens h _

/-- R124: a station with an entry has its report recorded, and the pitch is recomputed. -/
theorem takeFloor_recorded {st : Station} {c : Contributor} (h : floorEntry st = some c) (v : Nat) (s : State) :
    takeFloor st v s = recomputePitch { s with pace := { s.pace with
      floors := s.pace.floors.put c { s.pace.floors.get c with reported := clampFloor v } } } := by
  simp [takeFloor, h, writeFloor]

/-- R124: the port of S4 counts an error. -/
theorem takeFloor_s4 (v : Nat) (s : State) : takeFloor .s4 v s = countError .s4 s := rfl

/-- R49: an error at a port that listens, whose quiet time is none. -/
theorem countError_listens {st : Station} {s : State} (h : Listens st s) :
    countError st s = { s with ports := s.ports.put st ⟨min ((s.ports.get st).errors + 1) 65535, none⟩ } := by
  rw [← show (s.ports.get st).quiet = none from h]
  rfl

/-- R124: the rows of the clamp table by their lower ends. -/
theorem clampFloor_rows (v : Nat) :
    clampFloor v = if v = 0 then 0 else if v < 300 then 300 else if v < 10000 then v else 9999 := by
  unfold clampFloor
  split_ifs <;> omega

/-- Settles O30: at a port that listens the report goes to its station's entry, and S4 has none. -/
theorem floorReportIsRecorded : Obligations.FloorReportIsRecorded := by
  intro st value s listens
  rw [exec_floor_listens listens]
  refine ⟨fun c names => ?recorded, ?s4⟩
  case recorded =>
    have entry : floorEntry st = some c := by
      rcases names with ⟨rfl, rfl⟩ | ⟨rfl, rfl⟩ | ⟨rfl, rfl⟩ | ⟨rfl, rfl⟩ | ⟨rfl, rfl⟩ <;> rfl
    rw [takeFloor_recorded entry, clampFloor_rows]
    rfl
  case s4 =>
    rintro rfl
    have opened : Listens .s4 (openStep s) := listens
    rw [takeFloor_s4, countError_listens opened]
    rfl

end Sys2Proof.Machine
end

section
/-! Set Parameter (chapter 9, R188, R189): its checks, the parameter that it writes, and what the write brings in the block that
owns the parameter. -/

namespace Sys2Proof.Machine

/-! ### The checks (R188, R189) -/

/-- R188, check 1: a number that is not in the table. -/
theorem parameterOk_unknown {number : Nat} (h : parameterRange number = none) (p : Params) (value : Nat) :
    parameterOk p number value = false := by
  simp [parameterOk, h]

/-- R188, checks 2 and 3: within the range of the number, and P_min not above P_max. -/
theorem parameterOk_iff {number lo hi : Nat} (h : parameterRange number = some (lo, hi)) (p : Params) (value : Nat) :
    parameterOk p number value = true ↔
      lo ≤ value ∧ value ≤ hi ∧ (number = 16 → value ≤ p.pMax) ∧ (number = 17 → p.pMin ≤ value) := by
  simp [parameterOk, h, within, imp_iff_not_or, and_assoc]

/-! ### The write (R188) -/

/-- R188: the parameter written holds the value. -/
theorem Params.value_write_same {number lo hi : Nat} (h : parameterRange number = some (lo, hi)) (p : Params) (value : Nat) :
    (p.write number value).value number = value := by
  unfold parameterRange at h
  split at h
  all_goals first | rfl | cases h

/-- R188: every other parameter holds what it held, for no two numbers name the same one. -/
theorem Params.value_write_other {number m : Nat} (h : m ≠ number) (p : Params) (value : Nat) :
    (p.write number value).value m = p.value m := by
  fun_cases Params.value p m
  case case20 => simp only [Params.value]
  all_goals
    fun_cases Params.write p number value
    all_goals first | rfl | exact absurd rfl h

/-! ### What the recomputes read (R107, R116, R118) -/

/-- R107, R116: the press demand reads the records, the entry place, the press positions, the temperature and the parameters. -/
theorem pressDemand_congr {s t : State} (records : t.records = s.records) (tracks : t.tracks = s.tracks)
    (positions : t.press.positions = s.press.positions) (temp : t.press.temp = s.press.temp) (params : t.params = s.params) :
    pressDemand t = pressDemand s := by
  have place : placeDemand t = placeDemand s := by
    funext r p
    simp only [placeDemand, factor, liveRecord_congr records, temp, params]
  simp only [pressDemand, place, tracks, positions]

/-- R118: the conditions of the idle timer do not read the timer itself. -/
theorem idleRuns_congr {s t : State} (positions : t.press.positions = s.press.positions) (state : t.press.state = s.press.state)
    (tracks : t.tracks = s.tracks) (head : t.head = s.head) (params : t.params = s.params) : idleRuns t = idleRuns s := by
  simp only [idleRuns, positions, state, tracks, head, params]

/-! ### What the write brings in the block that owns the parameter (R120, R135) -/

/-- R120: no written parameter moves a book in the press, or changes its state or its temperature. -/
@[simp] theorem parameterEffect_press (number : Nat) (s : State) :
    (parameterEffect number s).press.positions = s.press.positions ∧ (parameterEffect number s).press.state = s.press.state ∧
    (parameterEffect number s).press.temp = s.press.temp := by
  unfold parameterEffect
  split
  all_goals simp [recomputeDemand, idleRefresh]

/-- The state with a parameter written and its recomputes done, before the request is answered. -/
def writeParameter (number value : Nat) (s : State) : State :=
  parameterEffect number { s with out := [], params := s.params.write number value }

/-- R188: what a written parameter leaves as it was, whatever its number. -/
@[simp] theorem writeParameter_frame (number value : Nat) (s : State) :
    let u := writeParameter number value s
    u.records = s.records ∧ u.retiring = s.retiring ∧ u.titles = s.titles ∧ u.pendingTitles = s.pendingTitles ∧
    u.tracks = s.tracks ∧ u.readers = s.readers ∧ u.lanes = s.lanes ∧ u.head = s.head ∧
    u.marriageTimer = s.marriageTimer ∧ u.press.positions = s.press.positions ∧ u.press.state = s.press.state ∧
    u.press.temp = s.press.temp ∧ u.jackets = s.jackets ∧ u.line = s.line ∧
    u.params = s.params.write number value ∧ u.ports = s.ports ∧ u.openChoices = s.openChoices := by
  simp [writeParameter]

/-- R188: what a written parameter leaves of the link. -/
@[simp] theorem writeParameter_requests (number value : Nat) (s : State) :
    let u := writeParameter number value s
    u.link.assembly = s.link.assembly ∧ u.link.answers = s.link.answers ∧ u.link.refusal = s.link.refusal ∧
    u.link.overrun = s.link.overrun ∧ u.link.nextArrival = s.link.nextArrival := by
  simp [writeParameter]

/-- R188: the parameters that no block recomputes from. -/
theorem writeParameter_plain {number : Nat} (h : number < 13 ∨ number = 19) (value : Nat) (s : State) :
    writeParameter number value s = { s with out := [], params := s.params.write number value } := by
  unfold writeParameter parameterEffect
  split
  case h_7 => rfl
  all_goals omega

/-- R120: T_ref and T_x bring a recompute of PD, and with it of the pitch. -/
theorem writeParameter_demand {number : Nat} (h : number = 13 ∨ number = 14) (value : Nat) (s : State) :
    writeParameter number value s = recomputePitch
      { s with
        out := [], params := s.params.write number value
        press := { s.press with pd := pressDemand { s with params := s.params.write number value } } } := by
  rcases h with rfl | rfl <;> rfl

/-- R120: the idle time starts its timer anew. -/
theorem writeParameter_idleTime (value : Nat) (s : State) :
    writeParameter 15 value s =
      { s with
        out := [], params := s.params.write 15 value
        press := { s.press with
          idleTimer := if idleRuns { s with params := s.params.write 15 value } then some (value * 60000) else none } } := rfl

/-- R135: P_min, P_max and the decrease step bring a recompute of the pitch. -/
theorem writeParameter_pitch {number : Nat} (h : number = 16 ∨ number = 17 ∨ number = 18) (value : Nat) (s : State) :
    writeParameter number value s = recomputePitch { s with out := [], params := s.params.write number value } := by
  rcases h with rfl | rfl | rfl <;> rfl

/-! ### The request leaves the queue (R180) -/

/-- The state whose request queue holds `rest`, in a step that sends no frame. -/
def dequeued (rest : List QueuedRequest) (s : State) : State :=
  { s with sentFrame := [], link := { s.link with requests := rest } }

/-- R50: sending does not read the request queue. -/
theorem send_dequeued (c : PortCommand) (rest : List QueuedRequest) (s : State) :
    send c (dequeued rest s) = dequeued rest (send c s) := by
  by_cases h : (c.toDrive && s.drive.stopDue.isSome) = true
  · simp [send, dequeued, h]
  · simp [send, dequeued, h]

/-- R183, R184: producing a notice does not read the request queue. -/
theorem produce_dequeued (n : Notice) (rest : List QueuedRequest) (s : State) :
    produce n (dequeued rest s) = dequeued rest (produce n s) := by
  by_cases h : s.link.notices.length < 32 ∧ noticeWaits s = false
  · obtain ⟨room, none_waits⟩ := h
    rw [produce_queued room none_waits, produce_queued (s := dequeued rest s) room none_waits]
    rfl
  · rw [produce_held h, produce_held (s := dequeued rest s) h]
    rfl

/-- A recompute of the pitch does not read the request queue. -/
theorem recomputePitch_dequeued (rest : List QueuedRequest) (s : State) :
    recomputePitch (dequeued rest s) = dequeued rest (recomputePitch s) := by
  by_cases h : pitchMoves s.params s.pace.commanded (targetPitch s) = true ∧ targetPitch s ≠ s.pace.commanded
  · obtain ⟨moves, differs⟩ := h
    rw [recomputePitch_moves moves differs, recomputePitch_moves (s := dequeued rest s) moves differs, ← produce_dequeued,
      ← send_dequeued, ← send_dequeued]
    rfl
  · rw [not_and_or, Bool.not_eq_true, not_not] at h
    rw [recomputePitch_stays h, recomputePitch_stays (s := dequeued rest s) h]
    rfl

/-- What a written parameter brings does not read the request queue. -/
theorem parameterEffect_dequeued (number : Nat) (rest : List QueuedRequest) (s : State) :
    parameterEffect number (dequeued rest s) = dequeued rest (parameterEffect number s) := by
  have demand : recomputeDemand (dequeued rest s) = dequeued rest (recomputeDemand s) :=
    recomputePitch_dequeued rest { s with press := { s.press with pd := pressDemand s } }
  unfold parameterEffect
  split
  · exact demand
  · exact demand
  · rfl
  · exact recomputePitch_dequeued rest s
  · exact recomputePitch_dequeued rest s
  · exact recomputePitch_dequeued rest s
  · rfl

/-- The end of the step of a request that is answered OK, where `u` is the state after the request's effects. -/
def answeredOk (q : QueuedRequest) (rest : List QueuedRequest) (body : List Word) (u : State) : State :=
  noteSending (fillAnswer q (accept (dequeued rest u) body))

/-- What the answer and the end of the step leave as they were (R180, R181). -/
@[simp] theorem answeredOk_frame (q : QueuedRequest) (rest : List QueuedRequest) (body : List Word) (u : State) :
    let t := answeredOk q rest body u
    t.records = u.records ∧ t.retiring = u.retiring ∧ t.titles = u.titles ∧ t.pendingTitles = u.pendingTitles ∧
    t.tracks = u.tracks ∧ t.readers = u.readers ∧ t.lanes = u.lanes ∧ t.head = u.head ∧
    t.marriageTimer = u.marriageTimer ∧ t.press = u.press ∧ t.pace = u.pace ∧ t.jackets = u.jackets ∧ t.line = u.line ∧
    t.params = u.params ∧ t.ports = u.ports ∧ t.drive = u.drive ∧ t.out = u.out ∧ t.openChoices = u.openChoices := by
  simp [answeredOk, fillAnswer, accept, dequeued]

/-- R180: an answer takes no place of a notice. -/
theorem answeredOk_notices (q : QueuedRequest) (rest : List QueuedRequest) (body : List Word) (u : State) :
    SameNotices u (answeredOk q rest body u) := by
  simp [SameNotices, answeredOk, fillAnswer, accept, dequeued]

/-- R180: the request leaves the queue and its answer fills its place. -/
theorem answeredOk_answered (q : QueuedRequest) (rest : List QueuedRequest) (body : List Word) (u : State) :
    Answered q rest .ok body u (answeredOk q rest body u) := by
  simp [Answered, answeredOk, fillAnswer, accept, dequeued]

/-! ### The row of Set Parameter (R180, R188) -/

/-- R180: SET_PARAMETER at its own request. -/
theorem exec_setParameter {number value : Nat} {n : Word} {rest : List QueuedRequest} {s : State}
    (hq : s.link.requests = ⟨.setParameter number value, n⟩ :: rest) :
    exec .setParameter s = .next (noteSending (fillAnswer ⟨.setParameter number value, n⟩
      (handleSetParameter number value (dequeued rest (openStep s))))) := by
  rw [show exec .setParameter s = execSetParameter s from rfl, execSetParameter,
    serve_own (h := handleSetParameter number value) hq rfl]
  rfl

/-- R188: a request that fails a check only leaves the queue and is answered RANGE. -/
theorem exec_setParameter_refused {number value : Nat} {n : Word} {rest : List QueuedRequest} {s : State}
    (hq : s.link.requests = ⟨.setParameter number value, n⟩ :: rest) (bad : parameterOk s.params number value = false) :
    exec .setParameter s = .next (noteSending (answered ⟨.setParameter number value, n⟩ rest .range [] s)) := by
  have refused : handleSetParameter number value (dequeued rest (openStep s)) = refuse (dequeued rest (openStep s)) .range :=
    if_pos bad
  rw [exec_setParameter hq, refused]
  rfl

/-- R188: a request that passes the checks writes its parameter and is answered with its number and value. -/
theorem exec_setParameter_accepted {number value : Nat} {n : Word} {rest : List QueuedRequest} {s : State}
    (hq : s.link.requests = ⟨.setParameter number value, n⟩ :: rest) (ok : parameterOk s.params number value = true) :
    exec .setParameter s = .next (answeredOk ⟨.setParameter number value, n⟩ rest [numWord number, numWord value]
      (writeParameter number value s)) := by
  have accepted : handleSetParameter number value (dequeued rest (openStep s)) =
      accept (dequeued rest (writeParameter number value s)) [numWord number, numWord value] := by
    rw [writeParameter, ← parameterEffect_dequeued]
    exact if_neg (by simp [dequeued, openStep, ok])
  rw [exec_setParameter hq, accepted]
  rfl

section Accepted

variable (q : QueuedRequest) (rest : List QueuedRequest) (body : List Word) (number value : Nat) (s : State)

/-- R116: PD over the state that the request leaves is PD with the new parameter. -/
theorem pressDemand_answeredOk :
    pressDemand (answeredOk q rest body (writeParameter number value s)) =
      pressDemand { s with params := s.params.write number value } :=
  pressDemand_congr (by simp) (by simp) (by simp) (by simp) (by simp)

/-- R118: the idle timer's conditions over the state that the request leaves are those with the new parameter. -/
theorem idleRuns_answeredOk :
    idleRuns (answeredOk q rest body (writeParameter number value s)) =
      idleRuns { s with params := s.params.write number value } :=
  idleRuns_congr (by simp) (by simp) (by simp) (by simp) (by simp)

end Accepted

/-- Settles O27: a value that fails a check is refused, and an accepted one leaves the state of `writeParameter`, whose equation
for each group of numbers gives that group's clause. -/
theorem setParameterWritesTheValue : Obligations.SetParameterWritesTheValue := by
  intro number value n rest s q hq
  refine ⟨fun unknown => exec_setParameter_refused hq (parameterOk_unknown unknown _ _),
    fun lo hi known => ⟨fun outside => ?refused, fun least most pMin pMax => ?accepted⟩⟩
  case refused =>
    refine exec_setParameter_refused hq (Bool.eq_false_iff.2 fun ok => ?_)
    have checks := (parameterOk_iff known _ _).1 ok
    omega
  case accepted =>
    have ok := (parameterOk_iff known s.params value).2 ⟨least, most, pMin, pMax⟩
    have notices := answeredOk_notices q rest [numWord number, numWord value] (writeParameter number value s)
    refine ⟨_, exec_setParameter_accepted hq ok, ?answer, ?written, ?others, ?plain, ?demand, ?idleTime, ?pitch, ?frame⟩
    case answer =>
      simpa [Answered] using answeredOk_answered q rest [numWord number, numWord value] (writeParameter number value s)
    case written => simpa using Params.value_write_same known s.params value
    case others => exact fun m other => by simpa using Params.value_write_other other s.params value
    case plain =>
      intro plain
      rw [writeParameter_plain plain] at notices ⊢
      exact ⟨by simp [SamePress], by simp [SamePace], notices, by simp [Sent]⟩
    case demand =>
      intro demand
      simp only [pressDemand_answeredOk, answeredOk_frame, writeParameter_frame, ← writeParameter_demand demand]
      exact ⟨by simp [SamePace], notices, trivial, trivial, by simp [writeParameter_demand demand]⟩
    case idleTime =>
      rintro rfl
      rw [idleRuns_answeredOk]
      rw [writeParameter_idleTime] at notices ⊢
      exact ⟨by simp [SamePace], notices, by simp [Sent], by simp⟩
    case pitch =>
      intro pitch
      simp only [answeredOk_frame, writeParameter_frame, ← writeParameter_pitch pitch]
      exact ⟨by simp [SamePress, writeParameter_pitch pitch], by simp [SamePace], notices, trivial, trivial⟩
    case frame => simp [SameBooks, SameTitles, SameTracks, SameLanes]

end Sys2Proof.Machine
end

section
/-! What an effect of the part does, said once. Every effect on the books, the places, the lanes and the settings is a run of a few acts;
an invariant that each act keeps is kept by every effect. A calm run leaves the demand of the books in the press as it was. -/

namespace Sys2Proof.Machine

/-! ### The acts -/

/-- A ticket that stands on the way to the head: at the gate, in the infeed track, in a reading that waits at S3, or as a record that
is not yet married (R6, R18). -/
def Upstream (t : Ticket) (s : State) : Prop :=
  s.tracks.gateHold = some t ∨ t ∈ s.tracks.infeed.map (·.ticket) ∨ s.readers.s3.waiting = some t ∨
    ∃ r, liveRecord t s = some r ∧ r.stage.unmarried = true

/-- A ticket at the entry place or at a press position: its record counts in PD (R116). -/
def AtPress (t : Ticket) (s : State) : Prop := s.tracks.entry = some t ∨ t ∈ s.press.positions.tickets

/-- A change of a record that leaves alone what other blocks count (R8, R29, R33). -/
structure Mild (r r' : BookRecord) : Prop where
  ticket : r'.ticket = r.ticket
  key : r'.key = r.key
  source : r'.source = r.source
  resolved : r'.resolved = r.resolved
  outcome : r'.outcome = r.outcome
  reasons : r'.reasons = r.reasons
  retiring : r'.stage = .retiring ↔ r.stage = .retiring
  flags : r.flags.Nodup → r'.flags.Nodup

/-- One act; with `true` a calm one, which leaves the demand of the books in the press as it was. -/
inductive Act : Bool → State → State → Prop
  /-- R50 -/
  | send {b : Bool} (c : PortCommand) (s : State) : Act b s (send c s)
  /-- R183 -/
  | notice {b : Bool} (n : Notice) (s : State) : Act b s (produce n s)
  /-- R7 -/
  | edit {b : Bool} (t : Ticket) (f : BookRecord → BookRecord) (s : State)
      (mild : ∀ r, liveRecord t s = some r → Mild r (f r))
      (calm : b = true → ∀ r, liveRecord t s = some r →
        (f r).dwell = r.dwell ∧ (f r).eff = r.eff ∧ ((f r).stage.unmarried = true → Upstream t s)) :
      Act b s (changeRecord t f s)
  /-- R8 -/
  | retire {b : Bool} (t : Ticket) (o : BookOutcome) (e : Option Reason) (s : State)
      (calm : b = true → ∀ r, liveRecord t s = some r → Upstream t s ∨ ¬ AtPress t s) : Act b s (retire t o e s)
  /-- R36 -/
  | resolve {b : Bool} (k : TitleKey) (r : BookRecord) (s : State) (live : liveRecord r.ticket s = some r)
      (waits : waitsOn k r = true) (valid : (titleWay k s).isSome = true) :
      Act b s (pinTitle k (putRecord { r with resolved := true } s))
  /-- The places of the line, the press and the jacketer. -/
  | place {b : Bool} (x : Tracks) (p : Press) (j : Jackets) (s : State)
      (tracks : TrackInv s → TrackInv { s with tracks := x, press := p, jackets := j })
      (jackets : JacketInv s → JacketInv { s with tracks := x, press := p, jackets := j })
      (pd : p.pd = s.press.pd)
      (calm : b = true → x.entry = s.tracks.entry ∧ p.positions = s.press.positions ∧ p.temp = s.press.temp ∧
        ∀ t, x.gateHold = some t ∨ t ∈ x.infeed.map (·.ticket) → Upstream t s) :
      Act b s { s with tracks := x, press := p, jackets := j }
  /-- R63 -/
  | read {b : Bool} (rs : Readers) (s : State) (calm : b = true → ∀ t, rs.s3.waiting = some t → Upstream t s) :
      Act b s { s with readers := rs }
  /-- R72 -/
  | lanes {b : Bool} (x : Lanes) (s : State) (keeps : LaneInv s → LaneInv { s with lanes := x }) : Act b s { s with lanes := x }
  /-- The head, the marriage wait timer, the line state and the model's counter. -/
  | control {b : Bool} (h : Head) (m : Option Nat) (l : Line) (n : Nat) (s : State) :
      Act b s { s with head := h, marriageTimer := m, line := l, openChoices := n }
  /-- R129 -/
  | pace {b : Bool} (p : Pace) (s : State) (keeps : PaceInv s → PaceInv { s with pace := p }) : Act b s { s with pace := p }
  /-- R117 -/
  | demand {b : Bool} (s : State) : Act b s { s with press := { s.press with pd := pressDemand s } }

/-- A run of acts. -/
abbrev Acts (b : Bool) : State → State → Prop := Relation.ReflTransGen (Act b)

namespace Acts

variable {b : Bool} {s : State}

theorem none : Acts b s s := Relation.ReflTransGen.refl

theorem send (c : PortCommand) (s : State) : Acts b s (send c s) := .single (.send c s)

theorem notice (n : Notice) (s : State) : Acts b s (produce n s) := .single (.notice n s)

/-- A change of the head, the marriage wait timer, the line state or the counter. -/
theorem control (h : Head) (m : Option Nat) (l : Line) (n : Nat) (s : State) :
    Acts b s { s with head := h, marriageTimer := m, line := l, openChoices := n } := .single (.control h m l n s)

theorem moveHead (h : Head) (s : State) : Acts b s { s with head := h } := control h s.marriageTimer s.line s.openChoices s

/-- A change of the press that moves no book and starts no index. -/
theorem press (p : Press) (s : State) (index : p.index = .moving → s.press.index = .moving)
    (positions : p.positions = s.press.positions) (pd : p.pd = s.press.pd) (temp : b = true → p.temp = s.press.temp) :
    Acts b s { s with press := p } :=
  .single (.place s.tracks p s.jackets s
    (fun h => ⟨h.infeed, h.jacket, h.delivery, fun m => by simpa only [positions] using h.exit (index m), h.handOver⟩)
    (fun h => ⟨h.keys, h.count, h.bypass⟩) pd
    fun hb => ⟨rfl, positions, temp hb, fun _ ht => ht.elim .inl (.inr ∘ .inl)⟩)

/-- A change of a record that keeps its stage and its dwell, as of its flags. -/
theorem editQuiet (t : Ticket) (f : BookRecord → BookRecord) (s : State)
    (mild : ∀ r, Mild r (f r)) (quiet : ∀ r, (f r).dwell = r.dwell ∧ (f r).eff = r.eff ∧ (f r).stage = r.stage) :
    Acts b s (changeRecord t f s) :=
  .single (.edit t f s (fun r _ => mild r) fun _ r live =>
    ⟨(quiet r).1, (quiet r).2.1, fun h => .inr (.inr (.inr ⟨r, live, by rw [← (quiet r).2.2]; exact h⟩))⟩)

theorem setFlag (f : Flag) (t : Ticket) (s : State) : Acts b s (setFlag f t s) :=
  editQuiet t _ s
    (fun _ => ⟨rfl, rfl, rfl, rfl, rfl, rfl, .rfl, fun h => by
      simp only [addFlag]
      split
      · exact h
      · next new => exact List.nodup_append.2 ⟨h, List.nodup_singleton f, by grind⟩⟩)
    fun _ => ⟨rfl, rfl, rfl⟩

/-- A stage change of a live record (R6); one to a stage before the marriage is calm for a ticket on the way to the head. -/
theorem setStage (st : Stage) (t : Ticket) (s : State) (live : st ≠ .retiring)
    (calm : b = true → st.unmarried = true → Upstream t s) : Acts b s (setStage st t s) :=
  .single (.edit t _ s
    (fun _ hr => ⟨rfl, rfl, rfl, rfl, rfl, rfl, iff_of_false live (liveRecord_iff.1 hr).2, id⟩)
    fun hb _ _ => ⟨rfl, rfl, calm hb⟩)

end Acts

/-! ### The pace and the press demand (chapter 6) -/

/-- R128: the target lies between P_min and P_max. -/
theorem targetPitch_bounds {s : State} (h : s.params.pMin ≤ s.params.pMax) :
    s.params.pMin ≤ targetPitch s ∧ targetPitch s ≤ s.params.pMax := by
  simp only [targetPitch]
  omega

theorem PaceInv.of_commanded {s : State} (h : PaceInv s) {p : Pace}
    (pitch : s.params.pMin ≤ p.commanded ∧ p.commanded ≤ s.params.pMax) : PaceInv { s with pace := p } :=
  ⟨h.ranges, h.limits, pitch⟩

theorem recomputePitch_acts {b : Bool} (s : State) : Acts b s (recomputePitch s) := by
  by_cases h : pitchMoves s.params s.pace.commanded (targetPitch s) = true ∧ targetPitch s ≠ s.pace.commanded
  · obtain ⟨moves, differs⟩ := h
    rw [recomputePitch_moves moves differs]
    have moved : Acts b s { s with pace := { s.pace with
        target := some (targetPitch s, decidingSource s), commanded := targetPitch s, source := some (decidingSource s) } } :=
      .single (.pace _ s fun h => h.of_commanded (targetPitch_bounds h.limits))
    exact ((moved.trans (Acts.send _ _)).trans (Acts.send _ _)).trans (Acts.notice _ _)
  · rw [not_and_or, Bool.not_eq_true, not_not] at h
    rw [recomputePitch_stays h]
    exact .single (.pace _ s fun h => h.of_commanded h.pitch)

theorem recomputeDemand_acts {b : Bool} (s : State) : Acts b s (recomputeDemand s) :=
  Relation.ReflTransGen.head (.demand s) (recomputePitch_acts _)

theorem resendPace_acts {b : Bool} (s : State) : Acts b s (resendPace s) := (Acts.send _ _).trans (Acts.send _ _)

theorem checkEarlyIndex_acts {b : Bool} (cycle : Nat) (s : State) : Acts b s (checkEarlyIndex cycle s) := by
  have inForce (u : State) : Acts b u { u with pace := { u.pace with inForce := some u.pace.commanded } } :=
    .single (.pace _ u fun h => h.of_commanded h.pitch)
  unfold checkEarlyIndex
  split
  · split
    · exact (Acts.notice _ _).trans (inForce _)
    · exact inForce _
  · exact inForce _

/-! ### The line (chapter 8) -/

section Line

variable {b : Bool}

theorem setLine_acts (st : LineState) (c : Cause) (s : State) : Acts b s (setLine st c s) :=
  (Acts.control s.head s.marriageTimer ⟨st, some c⟩ s.openChoices s).trans (Acts.notice _ _)

theorem stopDrive_acts (s : State) : Acts b s (stopDrive s) := by
  unfold stopDrive
  split
  · exact Acts.send _ _
  · exact Acts.none

theorem haltPaste_acts (s : State) : Acts b s (haltPaste s) := by
  unfold haltPaste
  repeat' split
  all_goals first | exact Acts.none | exact (Acts.send _ _).trans (Acts.setFlag _ _ _)

theorem enterFault_acts (c : Cause) (s : State) : Acts b s (enterFault c s) := by
  unfold enterFault
  split
  · exact Acts.none
  · exact ((stopDrive_acts _).trans (haltPaste_acts _)).trans (setLine_acts _ _ _)

theorem softStopTest_acts (s : State) : Acts b s (softStopTest s) := by
  unfold softStopTest
  repeat' split
  all_goals first | exact Acts.none | exact (stopDrive_acts _).trans (setLine_acts _ _ _)

theorem runOutTest_acts (s : State) : Acts b s (runOutTest s) := by
  unfold runOutTest
  split
  · exact (stopDrive_acts _).trans (setLine_acts _ _ _)
  · exact Acts.none

theorem idleRefresh_acts (s : State) : Acts b s (idleRefresh s) := Acts.press _ s id rfl rfl fun _ => rfl

theorem settleLine_acts (s : State) : Acts b s (settleLine s) := (runOutTest_acts s).trans (idleRefresh_acts _)

theorem setPress_acts (st : PressState) (s : State) : Acts b s (setPress st s) := by
  unfold setPress
  split
  · exact Acts.none
  · exact (Acts.press { s.press with state := st } s id rfl rfl fun _ => rfl).trans (Acts.notice _ _)

theorem wakePress_acts (s : State) : Acts b s (wakePress s) := by
  unfold wakePress
  split
  · exact (Acts.send _ _).trans (setPress_acts _ _)
  · exact Acts.none

end Line

end Sys2Proof.Machine
end

section
/-! The lanes, the gate and the head (section 3.3, chapter 4) as runs of acts. -/

namespace Sys2Proof.Machine

variable {b : Bool}

/-! ### The lanes (R72, R76, R77) -/

/-- A lane that holds only keys which the lane it replaces held, or no other lane holds. -/
theorem LaneInv.put {s : State} (h : LaneInv s) (l : LaneId) (x : Lane)
    (counts : ∀ k n, x = .holding k n → 1 ≤ n ∧ n ≤ 10) (initial : ∀ k n, x ≠ .purging .initial (some k) n)
    (apart : ∀ k, x.holds k = true → ∀ j, j ≠ l → (s.lanes.get j).holds k = false) :
    LaneInv { s with lanes := s.lanes.put l x } where
  counts j k n hj := by
    by_cases e : j = l
    · subst e; exact counts k n (by simpa using hj)
    · exact h.counts j k n (by rwa [Lanes.get_put_other e] at hj)
  apart k hk := by
    have other := h.apart k
    cases l
    · exact apart k hk .b (by decide)
    · exact Bool.eq_false_iff.2 fun hb => by simpa [Lanes.get, show s.lanes.a.holds k = true from hk] using apart k hb .a (by decide)
  initial j k n := by
    by_cases e : j = l
    · subst e; simpa using initial k n
    · rw [Lanes.get_put_other e]; exact h.initial j k n

theorem setLane_acts (l : LaneId) (x : Lane) (s : State)
    (counts : LaneInv s → ∀ k n, x = .holding k n → 1 ≤ n ∧ n ≤ 10) (initial : ∀ k n, x ≠ .purging .initial (some k) n)
    (apart : LaneInv s → ∀ k, x.holds k = true → ∀ j, j ≠ l → (s.lanes.get j).holds k = false) :
    Acts b s (setLane l x s) :=
  .single (.lanes _ s fun h => h.put l x (counts h) initial (apart h))

/-- R72: the other lane does not hold a key that a lane holds. -/
theorem LaneInv.other {s : State} (h : LaneInv s) {l j : LaneId} {k : TitleKey} (held : (s.lanes.get l).holds k = true)
    (ne : j ≠ l) : (s.lanes.get j).holds k = false := by
  have apart := h.apart k
  cases l <;> cases j
  · exact absurd rfl ne
  · exact apart held
  · exact Bool.eq_false_iff.2 fun ha => by simp [Lanes.get, apart ha] at held
  · exact absurd rfl ne

/-- A lane found by a test passes it. -/
theorem Lanes.first_some {p : Lane → Bool} {ls : Lanes} {l : LaneId} (h : ls.first p = some l) : p (ls.get l) = true := by
  unfold Lanes.first at h
  grind [Lanes.get]

/-- No lane passes a test that finds none. -/
theorem Lanes.first_none {p : Lane → Bool} {ls : Lanes} (h : ls.first p = none) (l : LaneId) : p (ls.get l) = false := by
  unfold Lanes.first at h
  cases l <;> grind [Lanes.get]

@[simp] theorem Lane.holds_empty (k : TitleKey) : Lane.empty.holds k = false := rfl
@[simp] theorem Lane.holds_unknown (k : TitleKey) : Lane.unknown.holds k = false := rfl
@[simp] theorem Lane.holds_holding (k k' : TitleKey) (n : Nat) : (Lane.holding k' n).holds k = (k' == k) := by
  simp [Lane.holds, Lane.isHolding, Lane.isKept]
@[simp] theorem Lane.holds_reserved (k k' : TitleKey) : (Lane.reserved k').holds k = (k' == k) := by
  simp [Lane.holds, Lane.isHolding, Lane.isKept]
@[simp] theorem Lane.holds_purging (k : TitleKey) (kind : PurgeKind) (c : Option TitleKey) (n : Nat) :
    (Lane.purging kind c n).holds k = (c == some k) := by
  cases c <;> simp [Lane.holds, Lane.isHolding, Lane.isKept]

/-- R76: a released lane holds no key that the lane did not hold. -/
theorem releasedLane_holds {s : State} {x : Lane} {k : TitleKey} (h : (releasedLane s x).holds k = true) : x.holds k = true := by
  unfold releasedLane at h
  grind [Lane.holds_empty, Lane.holds_purging]

theorem releasedLane_holding {s : State} {x : Lane} {k : TitleKey} {n : Nat} (h : releasedLane s x = .holding k n) :
    x = .holding k n := by
  unfold releasedLane at h
  grind

theorem releasedLane_initial {s : State} {x : Lane} {k : TitleKey} {n : Nat}
    (h : releasedLane s x = .purging .initial (some k) n) : x = .purging .initial (some k) n := by
  unfold releasedLane at h
  grind

theorem releaseLanes_acts (s : State) : Acts b s (releaseLanes s) := by
  have get (l : LaneId) : (Lanes.mk (releasedLane s s.lanes.a) (releasedLane s s.lanes.b)).get l =
      releasedLane s (s.lanes.get l) := by cases l <;> rfl
  refine .single (.lanes _ s fun h => ⟨fun l k n hl => ?_, fun k hk => ?_, fun l k n hl => ?_⟩)
  · exact h.counts l k n (releasedLane_holding (by rw [← get]; exact hl))
  · exact Bool.eq_false_iff.2 fun hb => by simpa [h.apart k (releasedLane_holds hk)] using releasedLane_holds hb
  · exact h.initial l k n (releasedLane_initial (by rw [← get]; exact hl))

theorem takeCase_acts {t : Ticket} {l : LaneId} {k : TitleKey} {n : Nat} {s : State} (holding : s.lanes.get l = .holding k n) :
    Acts b s (takeCase t l k n s) := by
  have written : Acts b s (changeRecord t (fun r => { r with lane := r.lane.or (some l) }) (Machine.send (.s3TakeCase l) s)) :=
    (Acts.send _ _).trans (Acts.editQuiet _ _ _ (fun _ => ⟨rfl, rfl, rfl, rfl, rfl, rfl, .rfl, id⟩) fun _ => ⟨rfl, rfl, rfl⟩)
  unfold takeCase
  refine written.trans (Relation.ReflTransGen.trans ?_ (releaseLanes_acts _))
  generalize hu : changeRecord t (fun r => { r with lane := r.lane.or (some l) }) (Machine.send (.s3TakeCase l) s) = u
  have lanes : u.lanes.get l = .holding k n := by rw [← hu]; simpa using holding
  refine (Acts.control (.pasting t l) none u.line u.openChoices u).trans (setLane_acts _ _ _ ?_ ?_ ?_)
  · intro h k' n' hx
    have := h.counts l k n lanes
    grind [laneAfterTake]
  · grind [laneAfterTake]
  · intro h k' hk j hj
    have same : k = k' := by
      unfold laneAfterTake at hk
      grind [Lane.holds_empty, Lane.holds_reserved, Lane.holds_holding]
    exact h.other (l := l) (by simp [lanes, same]) hj

theorem tryTakeCase_acts (s : State) : Acts b s (tryTakeCase s) := by
  unfold tryTakeCase
  split
  · split
    · next holding =>
      split
      · exact takeCase_acts holding
      · exact Acts.none
    · exact Acts.none
  · exact Acts.none

theorem startPurge_acts {l : LaneId} {kind : PurgeKind} {carried : Option TitleKey} {s : State}
    (initial : ∀ k, carried = some k → kind = .exchange)
    (apart : LaneInv s → ∀ k, carried = some k → ∀ j, j ≠ l → (s.lanes.get j).holds k = false) :
    Acts b s (startPurge l kind carried s) := by
  refine (Acts.send _ _).trans (setLane_acts _ _ _ (fun _ _ _ => nofun) (fun k n h => ?_) fun h k hk j hj => ?_)
  · cases h; exact absurd (initial k rfl) (by decide)
  · have lanes : (Machine.send (.s2Purge l) s).lanes = s.lanes := by simp
    rw [lanes]
    exact apart ⟨by simpa [lanes] using h.counts, by simpa [lanes] using h.apart, by simpa [lanes] using h.initial⟩ k
      (by simpa using hk) j hj

theorem Lane.isFreed_iff {x : Lane} : x.isFreed = true ↔ ∃ n, x = .purging .exchange none n := by
  unfold Lane.isFreed
  split <;> simp_all

/-- R80, row 4: the lane found is PURGING of kind EXCHANGE with nothing carried. -/
theorem freedLane_freed {s : State} {l : LaneId} (h : freedLane s = some l) : ∃ n, s.lanes.get l = .purging .exchange none n := by
  refine Lane.isFreed_iff.1 ?_
  unfold freedLane at h
  split at h
  · next both =>
    rw [Bool.and_eq_true] at both
    cases l
    · exact both.1
    · exact both.2
  · exact Lanes.first_some h

theorem laneDecision_acts (t : Ticket) (k : TitleKey) (s : State) : Acts b s (laneDecision t k s) := by
  unfold laneDecision
  split
  · exact (Acts.moveHead _ s).trans (tryTakeCase_acts _)
  next noneHolds =>
  split
  · exact Acts.moveHead _ s
  next noneKeeps =>
  have free (j : LaneId) : (s.lanes.get j).holds k = false := by
    simp [Lane.holds, Lanes.first_none noneHolds j, Lanes.first_none noneKeeps j]
  split
  · refine (Acts.moveHead _ s).trans (setLane_acts _ _ _ (fun _ _ _ => nofun) (fun _ _ => nofun) fun _ k' hk j _ => ?_)
    obtain rfl : k = k' := by simpa using hk
    exact free j
  split
  · next l hl =>
    obtain ⟨n, freed⟩ := freedLane_freed hl
    refine Relation.ReflTransGen.trans (Acts.control (.waitCase t (some l)) s.marriageTimer s.line (s.openChoices + 1) s)
      (setLane_acts _ _ _ ?_ ?_ ?_)
    · exact fun _ _ _ e => by simp [freed, carryKey] at e
    · exact fun _ _ e => by simp [freed, carryKey] at e
    · intro _ k' hk j _
      obtain rfl : k = k' := by simpa [freed, carryKey] using hk
      exact free j
  split
  · refine (Acts.moveHead _ s).trans (startPurge_acts (fun _ _ => rfl) fun _ k' hk j _ => ?_)
    obtain rfl : k = k' := by simpa using hk
    exact free j
  · exact Acts.moveHead _ s

theorem decideAgain_acts (s : State) : Acts b s (decideAgain s) := by
  unfold decideAgain
  repeat' split
  all_goals first | exact laneDecision_acts _ _ _ | exact Acts.none

theorem releaseCheck_acts (s : State) : Acts b s (releaseCheck s) := by
  unfold releaseCheck
  dsimp only
  split
  · exact (releaseLanes_acts s).trans (decideAgain_acts _)
  · exact releaseLanes_acts s

/-! ### The gate (R59, R60) -/

theorem TrackInv.of_tracks {s : State} (h : TrackInv s) {x : Tracks} (infeed : x.infeed.length ≤ 3)
    (jacket : x.jacket.length ≤ s.tracks.jacket.length) (delivery : x.delivery.length ≤ s.tracks.delivery.length) :
    TrackInv { s with tracks := x } :=
  ⟨infeed, jacket.trans h.jacket, delivery.trans h.delivery, fun m => (h.exit m).imp_right jacket.trans_lt,
    fun j => delivery.trans_lt (h.handOver j)⟩

/-- A change of the tracks in front of the marriage, and of the waiting marriage. -/
theorem tracks_acts (x : Tracks) (s : State) (infeed : TrackInv s → x.infeed.length ≤ 3)
    (jacket : x.jacket = s.tracks.jacket) (delivery : x.delivery = s.tracks.delivery)
    (calm : b = true → x.entry = s.tracks.entry ∧
      ∀ t, x.gateHold = some t ∨ t ∈ x.infeed.map (·.ticket) → Upstream t s) : Acts b s { s with tracks := x } :=
  .single (.place x s.press s.jackets s (fun h => h.of_tracks (infeed h) (by rw [jacket]) (by rw [delivery]))
    (fun h => ⟨h.keys, h.count, h.bypass⟩) rfl fun hb => ⟨(calm hb).1, rfl, rfl, (calm hb).2⟩)

/-- Sending leaves every ticket where it is. -/
theorem Upstream.send {t : Ticket} {s : State} (h : Upstream t s) (c : PortCommand) : Upstream t (Machine.send c s) := by
  have live : liveRecord t (Machine.send c s) = liveRecord t s := liveRecord_congr (by simp)
  simpa [Upstream, live] using h

/-- A record moved to a stage before the marriage is on the way to the head, if it is live. -/
theorem upstream_of_changeRecord {t : Ticket} {s : State} {f : BookRecord → BookRecord} (ticket : ∀ r, (f r).ticket = r.ticket)
    (unmarried : ∀ r, (f r).stage.unmarried = true) (h : Upstream t s) : Upstream t (changeRecord t f s) := by
  cases live : liveRecord t s with
  | none => rwa [changeRecord_absent live]
  | some r =>
    have found := findRecord_changeRecord_same f ((ticket r).trans (findRecord_ticket (liveRecord_iff.1 live).1)) live
    refine .inr (.inr (.inr ⟨f r, liveRecord_iff.2 ⟨found, fun retiring => ?_⟩, unmarried r⟩))
    have := unmarried r
    rw [retiring] at this
    cases this

theorem upstream_setStage_of_ne {t u : Ticket} {s : State} {st : Stage} (unmarried : st.unmarried = true) (ht : Upstream t s)
    (hu : Upstream u s) : Upstream u (setStage st t s) := by
  by_cases e : u = t
  · subst e; exact upstream_of_changeRecord (fun _ => rfl) (fun _ => unmarried) hu
  · have live : liveRecord u (setStage st t s) = liveRecord u s := by
      simp only [liveRecord, setStage]
      rw [findRecord_changeRecord_other _ (fun r => by rfl) e]
    simpa [Upstream, live] using hu

end Sys2Proof.Machine
end

section
/-! The gate, the arrival at the head, retirement, the press and the jacketer as runs of acts. -/

namespace Sys2Proof.Machine

variable {b : Bool}

/-! ### The gate (R59, R60) -/

theorem admitHeld_acts {t : Ticket} {s : State} (calm : b = true → Upstream t s) (room : s.tracks.infeed.length < 3) :
    Acts b s (admitHeld t s) := by
  unfold admitHeld
  refine ((Acts.send _ _).trans (Acts.setStage _ _ _ (by decide) fun hb _ => (calm hb).send _)).trans
    (tracks_acts _ _ (fun _ => ?_) rfl rfl fun hb => ⟨rfl, fun u hu => ?_⟩)
  · simpa using room
  · have up := calm hb
    refine upstream_setStage_of_ne rfl (up.send _) ?_
    have hu : u ∈ s.tracks.infeed.map (·.ticket) ∨ u = t := by simpa using hu
    rcases hu with hu | rfl
    · exact Upstream.send (.inr (.inl hu)) _
    · exact up.send _

theorem gateOpen_room {s : State} (h : gateOpen s = true) : s.tracks.infeed.length < 3 := by
  rw [gateOpen, Bool.and_eq_true] at h
  exact of_decide_eq_true h.2

theorem gateTest_acts (s : State) : Acts b s (gateTest s) := by
  unfold gateTest
  split
  · next held =>
    split
    · next isOpen => exact admitHeld_acts (fun _ => .inl held) (gateOpen_room isOpen)
    · exact Acts.none
  · exact Acts.none

/-! ### Arrival at the head (R66, R79) -/

/-- A record that is live after its stage was written is in that stage. -/
theorem stage_of_setStage {st : Stage} {t : Ticket} {s : State} {r : BookRecord} (h : liveRecord t (setStage st t s) = some r) :
    r.stage = st := by
  cases live : liveRecord t s with
  | none => rw [setStage, changeRecord_absent live, live] at h; cases h
  | some r0 =>
    have found := findRecord_changeRecord_same (fun r => { r with stage := st })
      (findRecord_ticket (liveRecord_iff.1 live).1 :) live
    have := (liveRecord_iff.1 h).1
    rw [setStage, found] at this
    cases this
    rfl

/-- Writing a stage before the marriage takes no other record past it. -/
theorem unmarried_of_setStage {st : Stage} {t u : Ticket} {s : State} (unmarried : st.unmarried = true)
    (h : ∀ r, liveRecord t s = some r → r.stage.unmarried = true) :
    ∀ r, liveRecord t (setStage st u s) = some r → r.stage.unmarried = true := by
  intro r hr
  by_cases e : t = u
  · subst e
    rwa [stage_of_setStage hr]
  · refine h r ?_
    rw [liveRecord, setStage, findRecord_changeRecord_other _ (fun _ => by rfl) e] at hr
    exact hr

theorem unmarried_of_gateTest {t : Ticket} {s : State} (h : ∀ r, liveRecord t s = some r → r.stage.unmarried = true) :
    ∀ r, liveRecord t (gateTest s) = some r → r.stage.unmarried = true := by
  unfold gateTest
  split
  · split
    · next u _ _ =>
      exact unmarried_of_setStage (u := u) (s := send .s1Admit s) (st := .infeed) rfl
        fun r hr => h r (by rwa [liveRecord_congr (s := s) (by simp)] at hr)
    · exact h
  · exact h

/-- R79: a block that has left the infeed track for the head is not married. -/
theorem unmarried_of_leaveInfeed {t : Ticket} {s : State} {r : BookRecord} (h : liveRecord t (leaveInfeed t s) = some r) :
    r.stage.unmarried = true :=
  unmarried_of_gateTest (fun _ hr => by rw [stage_of_setStage hr]; rfl) r h

/-- A stage change does not read the tracks or the readers. -/
theorem setStage_places (st : Stage) (t : Ticket) (x : Tracks) (rs : Readers) (s : State) :
    setStage st t { s with tracks := x, readers := rs } = { setStage st t s with tracks := x, readers := rs } := by
  have live : liveRecord t { s with tracks := x, readers := rs } = liveRecord t s := rfl
  simp only [setStage, changeRecord, live]
  split <;> rfl

/-- R79: a block that leaves the infeed track takes its stage with the tracks and the readers as they stand. -/
theorem leaveInfeed_eq (t : Ticket) (rs : Readers) (s : State) : leaveInfeed t { s with readers := rs } =
    gateTest { setStage .head t s with
      tracks := { s.tracks with infeed := s.tracks.infeed.filter fun e => !(e.ticket == t) }, readers := rs } :=
  congrArg gateTest (setStage_places .head t _ rs s)

theorem read_acts (rs : Readers) (s : State) (calm : b = true → ∀ t, rs.s3.waiting = some t → Upstream t s) :
    Acts b s { s with readers := rs } := .single (.read rs s calm)

/-- R66, R79: a block leaves the infeed track, and with it the reading that waited for it. -/
theorem leaveInfeed_acts {t : Ticket} {w : Option Ticket} {s : State} (waits : w = none ∨ w = s.readers.s3.waiting)
    (calm : b = true → Upstream t s) :
    Acts b s (leaveInfeed t { s with readers := { s.readers with s3 := { s.readers.s3 with waiting := w } } }) := by
  rw [leaveInfeed_eq]
  refine Relation.ReflTransGen.trans ?_ (gateTest_acts _)
  refine (Acts.setStage .head t s (by decide) fun hb _ => calm hb).trans (Relation.ReflTransGen.trans
    (tracks_acts { s.tracks with infeed := s.tracks.infeed.filter fun e => !(e.ticket == t) } _ ?_ (by simp) (by simp) ?_)
    (read_acts _ _ ?_))
  · intro h
    exact (List.length_filter_le _ _).trans (by simpa using h.infeed)
  · refine fun hb => ⟨by simp, fun u hu => upstream_setStage_of_ne rfl (calm hb) ?_⟩
    rcases hu with hu | hu
    · exact .inl (by simpa using hu)
    · obtain ⟨e, he, rfl⟩ := List.mem_map.1 hu
      exact .inr (.inl (List.mem_map_of_mem (List.mem_filter.1 he).1))
  · intro _ u hu
    rcases waits with rfl | rfl
    · cases hu
    · exact .inr (.inr (.inl (by simpa using hu)))

theorem retire_acts (t : Ticket) (o : BookOutcome) (e : Option Reason) (s : State)
    (calm : b = true → ∀ r, liveRecord t s = some r → Upstream t s ∨ ¬ AtPress t s) : Acts b s (retire t o e s) :=
  .single (.retire t o e s calm)

theorem startWait_acts (s : State) : Acts b s (startWait s) :=
  Acts.control s.head (some (s.params.marriageWait * 1000)) s.line s.openChoices s

theorem arrive_acts {t : Ticket} {w : Option Ticket} {s : State} (waits : w = none ∨ w = s.readers.s3.waiting)
    (calm : b = true → Upstream t s) :
    Acts b s (arrive t { s with readers := { s.readers with s3 := { s.readers.s3 with waiting := w } } }) := by
  refine (leaveInfeed_acts waits calm).trans ?_
  unfold arrive
  dsimp only
  generalize hu : leaveInfeed t { s with readers := { s.readers with s3 := { s.readers.s3 with waiting := w } } } = u
  split
  · refine ((Acts.send _ u).trans (retire_acts _ _ _ _ fun _ r hr => .inl (.inr (.inr (.inr ⟨r, hr, ?_⟩))))).trans
      (releaseCheck_acts _)
    rw [liveRecord_congr (s := u) (by simp), ← hu] at hr
    exact unmarried_of_leaveInfeed hr
  split
  · exact Acts.none
  refine (startWait_acts u).trans ?_
  split
  · exact (laneDecision_acts _ _ _).trans (releaseCheck_acts _)
  · exact (Acts.moveHead _ _).trans (releaseCheck_acts _)

theorem actWaitingS3_acts (s : State) : Acts b s (actWaitingS3 s) := by
  unfold actWaitingS3
  split
  · split
    · next waiting => exact arrive_acts (.inl rfl) fun _ => .inr (.inr (.inl waiting))
    · exact Acts.none
  · exact Acts.none

theorem clearHead_acts (s : State) : Acts b s (clearHead s) := Acts.control .idle none s.line s.openChoices s

/-- Whether a record may retire without a change of PD. -/
abbrev RetiresCalmly (t : Ticket) (s : State) : Prop := ∀ r, liveRecord t s = some r → Upstream t s ∨ ¬ AtPress t s

theorem RetiresCalmly.congr {t : Ticket} {s u : State} (h : RetiresCalmly t s) (records : u.records = s.records)
    (tracks : u.tracks = s.tracks) (readers : u.readers = s.readers) (press : u.press = s.press) : RetiresCalmly t u := by
  intro r hr
  have live : liveRecord t u = liveRecord t s := liveRecord_congr records
  rw [live] at hr
  simpa [Upstream, AtPress, live, tracks, readers, press] using h r hr

theorem RetiresCalmly.of_stage {t : Ticket} {s : State} {r : BookRecord} (live : liveRecord t s = some r)
    (unmarried : r.stage.unmarried = true) : RetiresCalmly t s := fun _ _ => .inl (.inr (.inr (.inr ⟨r, live, unmarried⟩)))

theorem ejectHead_acts {t : Ticket} {why : Reason} {s : State} (calm : b = true → RetiresCalmly t s) :
    Acts b s (ejectHead t why s) := by
  unfold ejectHead
  refine (((Acts.send .s3Eject s).trans (clearHead_acts _)).trans (retire_acts _ _ _ _ fun hb => ?_)).trans
    ((releaseCheck_acts _).trans (actWaitingS3_acts _))
  exact (calm hb).congr (by simp) (by simp) (by simp) (by simp)

theorem refuseGated_acts {t : Ticket} {s : State} (calm : b = true → RetiresCalmly t s) : Acts b s (refuseGated t s) :=
  (Acts.send _ _).trans (retire_acts _ _ _ _ fun hb => (calm hb).congr (by simp) (by simp) (by simp) (by simp))

theorem markWrong_acts (t : Ticket) (s : State) : Acts b s (markWrong t s) := by
  have tickets : (s.tracks.infeed.map fun e => if e.ticket = t then { e with wrongBlock := true } else e).map (·.ticket) =
      s.tracks.infeed.map (·.ticket) := by
    rw [List.map_map]
    exact List.map_congr_left fun e _ => by simp only [Function.comp]; split <;> rfl
  refine tracks_acts _ s (fun h => by simpa using h.infeed) rfl rfl fun _ => ⟨rfl, fun u hu => ?_⟩
  rw [tickets] at hu
  exact hu.elim .inl (.inr ∘ .inl)

theorem announceResolved_acts (t : Ticket) (s : State) : Acts b s (announceResolved t s) := by
  unfold announceResolved
  split
  · exact Acts.none
  next r live =>
  split
  · split
    · exact (laneDecision_acts _ _ _).trans (releaseCheck_acts _)
    · exact Acts.none
  · split
    · next stage => exact refuseGated_acts fun _ => .of_stage live (by rw [stage]; rfl)
    · exact markWrong_acts _ _
    · next stage => exact ejectHead_acts fun _ => .of_stage live (by rw [stage]; rfl)
    · exact Acts.none

/-! ### The index (R108 to R110) -/

theorem headGivesUp_acts (t : Ticket) (s : State) : Acts b s (headGivesUp t s) := by
  unfold headGivesUp
  split
  · split
    · exact (Acts.moveHead _ s).trans (actWaitingS3_acts _)
    · exact Acts.none
  · exact Acts.none

theorem indexPermitted_room {s : State} (h : indexPermitted s = true) :
    s.press.positions.p6 = none ∨ s.tracks.jacket.length < 3 := by
  simp only [indexPermitted, Bool.and_eq_true, Bool.or_eq_true, Option.isNone_iff_eq_none] at h
  exact h.1.2.imp_right of_decide_eq_true

theorem startIndex_acts {c : Option Ticket} {s : State} (permitted : indexPermitted s = true) :
    Acts b s { s with press := { s.press with index := .moving, carried := c } } :=
  .single (.place s.tracks _ s.jackets s
    (fun h => ⟨h.infeed, h.jacket, h.delivery, fun _ => indexPermitted_room permitted, h.handOver⟩)
    (fun h => ⟨h.keys, h.count, h.bypass⟩) rfl fun _ => ⟨rfl, rfl, rfl, fun _ ht => ht.elim .inl (.inr ∘ .inl)⟩)

theorem sendIndexGo_acts {s : State} (permitted : indexPermitted s = true) : Acts b s (sendIndexGo s) := by
  unfold sendIndexGo
  split
  · exact (startIndex_acts permitted).trans (Acts.send _ _)
  · exact ((startIndex_acts permitted).trans (Acts.send _ _)).trans (headGivesUp_acts _ _)

theorem indexRetest_acts (s : State) : Acts b s (indexRetest s) := by
  unfold indexRetest
  split
  · next h => exact sendIndexGo_acts h.2
  · exact Acts.none

/-! ### Marriage (R54, R93) -/

theorem edit_acts (t : Ticket) (f : BookRecord → BookRecord) (s : State)
    (mild : ∀ r, liveRecord t s = some r → Mild r (f r)) : Acts false s (changeRecord t f s) := .single (.edit t f s mild nofun)

theorem takeMarriage_acts (t : Ticket) (l : LaneId) (s : State) : Acts false s (takeMarriage t l s) := by
  unfold takeMarriage
  have fixed (r : BookRecord) (live : liveRecord t s = some r) : Mild r (fixDwell s r) := by
    have stage := (liveRecord_iff.1 live).2
    unfold fixDwell
    split <;> exact ⟨rfl, rfl, rfl, rfl, rfl, rfl, iff_of_false (by simp) stage, id⟩
  refine (edit_acts t _ s fixed).trans ?_
  generalize changeRecord t (fixDwell s) s = u
  exact (tracks_acts (b := false) { u.tracks with entry := some t, waitingMarriage := none } u (fun h => h.infeed) rfl rfl
    nofun).trans (Acts.moveHead _ _)

theorem takeWaiting_acts (s : State) : Acts false s (takeWaiting s) := by
  unfold takeWaiting
  repeat' split
  all_goals first | exact takeMarriage_acts _ _ _ | exact Acts.none

/-! ### Credit, exit and move (R112 to R114) -/

theorem changeEach_acts {f : BookRecord → BookRecord} (mild : ∀ r, Mild r (f r)) (ts : List Ticket) (s : State) :
    Acts false s (changeEach ts f s) := by
  unfold changeEach
  induction ts generalizing s with
  | nil => exact Acts.none
  | cons t ts ih => exact (edit_acts t f s fun r _ => mild r).trans (ih _)

theorem creditStep_acts (m : Nat) (s : State) : Acts false s (creditStep m s) :=
  changeEach_acts (f := creditBook m (factor s)) (fun _ => ⟨rfl, rfl, rfl, rfl, rfl, rfl, .rfl, id⟩) _ s

theorem addFlag_nodup {f : Flag} {fs : List Flag} (h : fs.Nodup) : (addFlag f fs).Nodup := by
  unfold addFlag
  split
  · exact h
  · next new => exact List.nodup_append.2 ⟨h, List.nodup_singleton f, by grind⟩

theorem exitStep_acts {s : State} (moving : s.press.index = .moving) : Acts false s (exitStep s) := by
  unfold exitStep
  split
  · exact Acts.none
  next t atExit =>
  have exited : Acts false s (changeRecord t exitBook s) := by
    refine edit_acts t _ s fun r live =>
      ⟨rfl, rfl, rfl, rfl, rfl, rfl, iff_of_false (by simp [exitBook]) (liveRecord_iff.1 live).2, fun h => ?_⟩
    unfold exitBook
    split
    · exact addFlag_nodup h
    · exact h
  refine exited.trans ?_
  have moving : (changeRecord t exitBook s).press.index = .moving := by simpa using moving
  have atExit : (changeRecord t exitBook s).press.positions.p6 = some t := by simpa using atExit
  generalize changeRecord t exitBook s = u at moving atExit
  refine .single (.place { u.tracks with jacket := u.tracks.jacket ++ [t] }
    { u.press with positions := { u.press.positions with p6 := none } } u.jackets u
    (fun h => ⟨h.infeed, ?_, h.delivery, fun _ => .inl rfl, h.handOver⟩) (fun h => ⟨h.keys, h.count, h.bypass⟩) rfl nofun)
  have room := (h.exit moving).resolve_left (by simp [atExit])
  simpa using room

/-- The end of an index does not read what a waiting marriage reads. -/
theorem endIndex_takeWaiting (s : State) : endIndex (takeWaiting s) = takeWaiting (endIndex s) := by
  have fixed (t : Ticket) : changeRecord t (fixDwell (endIndex s)) (endIndex s) = endIndex (changeRecord t (fixDwell s) s) := by
    have live : liveRecord t (endIndex s) = liveRecord t s := rfl
    have dwell : fixDwell (endIndex s) = fixDwell s := rfl
    simp only [changeRecord, live, dwell]
    split <;> rfl
  have marriage (t : Ticket) (l : LaneId) : endIndex (takeMarriage t l s) = takeMarriage t l (endIndex s) := by
    unfold takeMarriage
    rw [fixed]
    rfl
  have entry : (endIndex s).tracks = s.tracks := by simp
  have head : (endIndex s).head = s.head := by simp
  unfold takeWaiting
  rw [entry, head]
  split
  · split
    · split
      · exact marriage _ _
      · rfl
    · rfl
  · rfl

/-- The carried book, when there is one, takes position 1 (R114). -/
def enterCarried (c : Option Ticket) (s : State) : State :=
  match c with
  | some t => changeRecord t enterBook { s with tracks := { s.tracks with entry := none } }
  | none => s

/-- The carrier moved up by one position, with `c` at position 1 (R114). -/
def moveUp (c : Option Ticket) (s : State) : State :=
  { s with press := { s.press with positions := s.press.positions.up c } }

theorem moveStep_eq (s : State) : moveStep s = takeWaiting (enterCarried (enteringBook s)
    (moveUp (enteringBook s) (changeEach s.press.positions.tickets moveBook s))) := by
  have press : (changeEach s.press.positions.tickets moveBook s).press = s.press := by simp
  cases entering : enteringBook s <;> simp only [moveStep, enterCarried, moveUp, entering, press]

theorem endIndex_enterCarried (c : Option Ticket) (s : State) : endIndex (enterCarried c s) = enterCarried c (endIndex s) := by
  cases c with
  | none => rfl
  | some t =>
    have live : liveRecord t { endIndex s with tracks := { (endIndex s).tracks with entry := none } } =
      liveRecord t { s with tracks := { s.tracks with entry := none } } := rfl
    simp only [enterCarried, changeRecord, live]
    split <;> rfl

theorem enterCarried_acts (c : Option Ticket) (s : State) : Acts false s (enterCarried c s) := by
  cases c with
  | none => exact Acts.none
  | some t =>
    refine (tracks_acts (b := false) { s.tracks with entry := none } s (fun h => h.infeed) rfl rfl nofun).trans
      (edit_acts t _ _ fun r live => ?_)
    exact ⟨rfl, rfl, rfl, rfl, rfl, rfl, iff_of_false (by simp [enterBook]) (liveRecord_iff.1 live).2, id⟩

theorem endMove_acts (s : State) : Acts false s (endIndex (moveStep s)) := by
  rw [moveStep_eq, endIndex_takeWaiting, endIndex_enterCarried]
  refine (changeEach_acts (f := moveBook) (fun _ => ⟨rfl, rfl, rfl, rfl, rfl, rfl, .rfl, id⟩) s.press.positions.tickets s).trans
    (Relation.ReflTransGen.trans ?_ ((enterCarried_acts _ _).trans (takeWaiting_acts _)))
  generalize changeEach s.press.positions.tickets moveBook s = u
  exact .single (.place (b := false) u.tracks
    { u.press with positions := u.press.positions.up (enteringBook s), index := .clamp, carried := none } u.jackets u
    (fun h => ⟨h.infeed, h.jacket, h.delivery, nofun, h.handOver⟩) (fun h => ⟨h.keys, h.count, h.bypass⟩) rfl nofun)

/-! ### The jacketer (R142 to R149) -/

theorem handOver_acts {t : Ticket} {s : State} (room : s.jackets.state ≠ .free ∨ s.tracks.delivery.length < 2) :
    Acts b s (handOver t s) := by
  have staged : Acts b s (setStage .delivery t s) := Acts.setStage .delivery t s (by decide) fun _ => nofun
  unfold handOver
  refine staged.trans ?_
  have room : (setStage .delivery t s).jackets.state ≠ .free ∨ (setStage .delivery t s).tracks.delivery.length < 2 := by
    simpa using room
  generalize setStage .delivery t s = u at room
  refine Relation.ReflTransGen.trans (.single (.place
    { u.tracks with jacket := u.tracks.jacket.filter (fun x => !(x == t)), delivery := u.tracks.delivery ++ [t] } u.press
    { u.jackets with state := .free } u (fun h => ?_) (fun h => ⟨h.keys, h.count, h.bypass⟩) rfl
    fun _ => ⟨rfl, rfl, rfl, fun _ hu => hu.elim .inl (.inr ∘ .inl)⟩)) (indexRetest_acts _)
  have shorter : (u.tracks.jacket.filter (fun x => !(x == t))).length ≤ u.tracks.jacket.length := List.length_filter_le _ _
  refine ⟨h.infeed, shorter.trans h.jacket, ?_, fun m => (h.exit m).imp_right shorter.trans_lt, fun busy => absurd rfl busy⟩
  have := room.elim h.handOver id
  simpa using this

theorem passBook_acts {t : Ticket} {s : State} (room : s.jackets.state ≠ .free ∨ s.tracks.delivery.length < 2) :
    Acts b s (passBook t s) :=
  ((Acts.send _ _).trans (Acts.setFlag _ _ _)).trans (handOver_acts (by simpa using room))

theorem jackets_acts (j : Jackets) (s : State) (keeps : JacketInv s → JacketInv { s with jackets := j })
    (room : j.state ≠ .free → s.jackets.state ≠ .free ∨ s.tracks.delivery.length < 2) : Acts b s { s with jackets := j } :=
  .single (.place s.tracks s.press j s
    (fun h => ⟨h.infeed, h.jacket, h.delivery, h.exit, fun busy => (room busy).elim h.handOver id⟩)
    keeps rfl fun _ => ⟨rfl, rfl, rfl, fun _ ht => ht.elim .inl (.inr ∘ .inl)⟩)

theorem beginVerify_acts {t : Ticket} {s : State} (room : s.tracks.delivery.length < 2) : Acts b s (beginVerify t s) :=
  (jackets_acts { s.jackets with state := .verify t } s (fun h => ⟨h.keys, h.count, h.bypass⟩) fun _ => .inr room).trans
    (Acts.send _ _)

theorem jacketArrival_acts {t : Ticket} {s : State} (room : s.tracks.delivery.length < 2) : Acts b s (jacketArrival t s) := by
  unfold jacketArrival
  split
  · exact Acts.none
  split
  · exact passBook_acts (.inr room)
  split
  · exact passBook_acts (.inr room)
  split
  · exact beginVerify_acts room
  split
  · next n _ =>
    refine Relation.ReflTransGen.trans (jackets_acts { s.jackets with sequence := s.jackets.sequence.drop n } s
      (fun h => ⟨?_, h.count, h.bypass⟩) fun _ => .inr room) ((Acts.send _ _).trans (beginVerify_acts (by simpa using room)))
    have := h.keys
    rw [List.length_drop]
    omega
  · exact passBook_acts (.inr room)

theorem actWaitingS5_acts (s : State) : Acts b s (actWaitingS5 s) := by
  unfold actWaitingS5
  split
  · next room =>
    split
    · refine Relation.ReflTransGen.trans (read_acts { s.readers with s5 := { s.readers.s5 with waiting := none } } s
        fun _ _ waiting => .inr (.inr (.inl waiting))) (jacketArrival_acts ?_)
      exact room
    · exact Acts.none
  · exact Acts.none

/-- Sending does not read the jacketer. -/
theorem send_jackets (c : PortCommand) (j : Jackets) (s : State) :
    send c { s with jackets := j } = { send c s with jackets := j } := by
  unfold send
  split <;> rfl

theorem jacketMismatch_acts {t : Ticket} {read : Reading TitleKey} {s : State} (busy : s.jackets.state ≠ .free) :
    Acts b s (jacketMismatch t read s) := by
  have sent : (send .s5Spoil s).jackets = s.jackets := by simp
  unfold jacketMismatch
  simp only [send_jackets]
  split
  · next reached =>
    unfold enterBypass
    refine (Acts.send .s5Spoil s).trans (Relation.ReflTransGen.trans ?_
      ((Acts.notice _ _).trans (passBook_acts (by simpa using .inl busy))))
    exact jackets_acts _ _ (fun h => ⟨h.keys, by simp [Config.bypassCount], nofun⟩) fun _ => .inl (by simpa using busy)
  · next below =>
    refine (Acts.send _ _).trans (jackets_acts _ _ (fun h => ⟨by simpa using h.keys, ?_, fun _ => ?_⟩) fun _ => .inl (by simpa using busy))
    all_goals
      simp only [Config.bypassCount] at below ⊢
      omega

/-! ### The readers (section 3.4) -/

theorem setReader_acts (i : ReaderId) (r : Reader) (s : State)
    (calm : b = true → i = .s3 → ∀ t, r.waiting = some t → Upstream t s) : Acts b s (setReader i r s) := by
  refine read_acts _ s fun hb t ht => ?_
  cases i
  case s3 => exact calm hb rfl t ht
  all_goals exact .inr (.inr (.inl ht))

/-- A reader change that keeps the reading which waits. -/
theorem setReader_quiet_acts (i : ReaderId) (r : Reader) (s : State) (waiting : r.waiting = (s.readers.get i).waiting) :
    Acts b s (setReader i r s) := by
  refine setReader_acts i r s fun _ hi t ht => ?_
  subst hi
  exact .inr (.inr (.inl (waiting.symm.trans ht)))

/-- R64: only the expected book is accepted. -/
theorem judge_accepted {r : Reader} {e : Option Ticket} {reading : Reading Ticket} {t : Ticket} {u : Bool}
    (h : judge r e reading = .accepted t u) : e = some t := by
  unfold judge at h
  grind

/-- The ticket expected at S3 stands in the infeed track. -/
theorem mem_infeed_of_expected {t : Ticket} {s : State} (h : expectedBook .s3 s = some t) : t ∈ s.tracks.infeed.map (·.ticket) := by
  have h' : s.tracks.infeed.head?.map (·.ticket) = some t := h
  rw [← List.head?_map] at h'
  exact List.mem_of_mem_head? h'

theorem acceptedEffect_acts {i : ReaderId} {t : Ticket} {s : State}
    (expected : i = .s3 → t ∈ s.tracks.infeed.map (·.ticket)) : Acts b s (acceptedEffect i t s) := by
  unfold acceptedEffect
  split
  · split
    · exact arrive_acts (w := s.readers.s3.waiting) (.inr rfl) fun _ => .inr (.inl (expected rfl))
    · exact setReader_acts _ _ _ fun _ _ u hu => by cases hu; exact .inr (.inl (expected rfl))
  · exact Acts.none
  · split
    · next room => exact jacketArrival_acts room
    · exact setReader_acts _ _ _ fun _ => nofun
  · split
    · exact Acts.send _ _
    · exact Acts.none

theorem acceptReading_acts {i : ReaderId} {t : Ticket} {u : Bool} {s : State}
    (expected : i = .s3 → t ∈ s.tracks.infeed.map (·.ticket)) : Acts b s (acceptReading i t u s) := by
  unfold acceptReading
  refine (setReader_quiet_acts i { s.readers.get i with last := some t } s rfl).trans ?_
  dsimp only
  split
  · exact (Acts.setFlag _ _ _).trans (acceptedEffect_acts (by simpa using expected))
  · exact acceptedEffect_acts (by simpa using expected)

theorem sequenceFault_acts (i : ReaderId) (reading : Reading Ticket) (s : State) : Acts b s (sequenceFault i reading s) :=
  (setReader_quiet_acts i { s.readers.get i with unresolved := some reading } s rfl).trans
    ((enterFault_acts _ _).trans (Acts.notice _ _))

theorem takeReading_acts (i : ReaderId) (reading : Reading Ticket) (s : State) : Acts b s (takeReading i reading s) := by
  unfold takeReading
  split
  · exact Acts.none
  · exact setReader_quiet_acts _ _ _ rfl
  · next accepted =>
    refine acceptReading_acts fun hi => ?_
    subst hi
    exact mem_infeed_of_expected (judge_accepted accepted)
  · exact sequenceFault_acts _ _ _

theorem evaluateAgain_acts (i : ReaderId) (s : State) : Acts b s (evaluateAgain i s) := by
  unfold evaluateAgain
  split
  · exact Acts.none
  · exact (setReader_quiet_acts i { s.readers.get i with unresolved := none } s rfl).trans (takeReading_acts _ _ _)

end Sys2Proof.Machine
end

section
/-! The effects of the commands as runs of acts. -/

namespace Sys2Proof.Machine

variable {b : Bool}

/-! ### The Line Commands (chapter 8) -/

theorem initialPurge_acts (l : LaneId) (s : State) : Acts b s (initialPurge l s) := by
  unfold initialPurge
  split
  · exact startPurge_acts nofun fun _ => nofun
  · exact Acts.none

theorem initialPurges_acts (s : State) : Acts b s (initialPurges s) := by
  unfold initialPurges
  dsimp only
  split
  · exact ((initialPurge_acts .a s).trans (initialPurge_acts .b _)).trans (decideAgain_acts _)
  · exact (initialPurge_acts .a s).trans (initialPurge_acts .b _)

theorem runLine_acts (s : State) : Acts b s (runLine s) :=
  (setLine_acts .running .run s).trans <| (resendPace_acts _).trans <| (Acts.send .driveRun _).trans <|
    (initialPurges_acts _).trans <| (tryTakeCase_acts _).trans <| (wakePress_acts _).trans <| (indexRetest_acts _).trans <|
    (gateTest_acts _).trans (settleLine_acts _)

theorem softStop_acts (s : State) : Acts b s (softStop s) := (setLine_acts .stopping .stopSoft s).trans (softStopTest_acts _)

theorem stopNowLine_acts (s : State) : Acts b s (stopNowLine s) :=
  ((stopDrive_acts s).trans (haltPaste_acts _)).trans (setLine_acts _ _ _)

theorem runOutLine_acts (s : State) : Acts b s (runOutLine s) :=
  (setLine_acts .runningOut .runOut s).trans <| (tryTakeCase_acts _).trans <| (indexRetest_acts _).trans (settleLine_acts _)

theorem pressLeavesFault_acts (s : State) : Acts b s (pressLeavesFault s) := by
  unfold pressLeavesFault
  split
  · exact (setPress_acts _ _).trans (indexRetest_acts _)
  · exact Acts.none

theorem releaseLine_acts (s : State) : Acts b s (releaseLine s) :=
  (setLine_acts .stopped .release s).trans <| (pressLeavesFault_acts _).trans <| (evaluateAgain_acts .s3 _).trans <|
    (evaluateAgain_acts .s4 _).trans <| (evaluateAgain_acts .s5 _).trans <| (evaluateAgain_acts .s6 _).trans (settleLine_acts _)

theorem clearedLine_acts (s : State) : Acts b s (clearedLine s) := by
  unfold clearedLine
  split
  · exact Acts.none
  · exact setLine_acts _ _ _

/-! ### The block at S1 (R56 to R59) -/

theorem refuseStray_acts (t : Reading Ticket) (s : State) : Acts b s (refuseStray t s) := (Acts.send _ _).trans (Acts.notice _ _)

theorem gateBook_acts {t : Ticket} {s : State} (m : Nat) (calm : b = true → Upstream t s) : Acts b s (gateBook t m s) := by
  have edited : Acts b s (changeRecord t (fun r => { r with stage := .gated, thickness := r.thickness.or (some m) }) s) :=
    .single (.edit t _ s
      (fun _ live => ⟨rfl, rfl, rfl, rfl, rfl, rfl, iff_of_false nofun (liveRecord_iff.1 live).2, id⟩)
      fun hb _ _ => ⟨rfl, rfl, fun _ => calm hb⟩)
  have upstream (hb : b = true) :
      Upstream t (changeRecord t (fun r => { r with stage := .gated, thickness := r.thickness.or (some m) }) s) :=
    upstream_of_changeRecord (fun _ => rfl) (fun _ => rfl) (calm hb)
  unfold gateBook
  refine edited.trans (Relation.ReflTransGen.trans ?_ (wakePress_acts _))
  generalize changeRecord t (fun r => { r with stage := .gated, thickness := r.thickness.or (some m) }) s = u at upstream
  refine .single (.place { u.tracks with gateHold := some t, lastGated := some t } { u.press with idleTimer := none } u.jackets u
    (fun h => ⟨h.infeed, h.jacket, h.delivery, h.exit, h.handOver⟩) (fun h => ⟨h.keys, h.count, h.bypass⟩) rfl
    fun hb => ⟨rfl, rfl, rfl, fun v hv => ?_⟩)
  rcases hv with hv | hv
  · cases hv
    exact upstream hb
  · exact .inr (.inl hv)

theorem answerGate_acts {t : Ticket} {s : State} (calm : b = true → Upstream t s) : Acts b s (answerGate t s) := by
  unfold answerGate
  split
  · next isOpen => exact admitHeld_acts calm (gateOpen_room isOpen)
  · exact Acts.send _ _

theorem checkGated_acts {t : Ticket} {s : State} (calm : b = true → Upstream t s) : Acts b s (checkGated t s) := by
  unfold checkGated
  split
  · split
    · exact refuseGated_acts fun hb _ _ => .inl (calm hb)
    · exact answerGate_acts calm
  · exact Acts.none

theorem gateBook_gateHold (t : Ticket) (m : Nat) (s : State) : (gateBook t m s).tracks.gateHold = some t := by
  simp [gateBook]

theorem sortBlock_acts (reading : Reading Ticket) (m : Nat) (s : State) : Acts b s (sortBlock reading m s) := by
  unfold sortBlock
  split
  · exact refuseStray_acts _ _
  next t =>
  split
  · exact Acts.none
  split
  · exact refuseStray_acts _ _
  next r live =>
  split
  · exact refuseStray_acts _ _
  next stage =>
  split
  · exact refuseStray_acts _ _
  have admitted : r.stage = .admitted := by simpa using stage
  exact (gateBook_acts m fun _ => .inr (.inr (.inr ⟨r, live, by rw [admitted]; rfl⟩))).trans
    ((checkGated_acts fun _ => .inl (gateBook_gateHold t m s)).trans (settleLine_acts _))

/-! ### Cases and purges (R74, R75, R85, R87) -/

/-- A lane that counts the key for a case (R74) holds it, with at most the cases that a lane takes. -/
theorem Lane.stock_some {k : TitleKey} {x : Lane} {n : Nat} (h : x.stock k = some n) :
    x = .holding k n ∨ (x = .reserved k ∧ n = 0) := by
  unfold Lane.stock at h
  grind

theorem Lane.holds_of_stock_none {k : TitleKey} {x : Lane} (h : x.stock k = none) (kept : x.isKept k = false) :
    x.holds k = false := by
  unfold Lane.stock at h
  cases x <;> simp_all [Lane.holds, Lane.isHolding]

theorem steerCase_acts {l : LaneId} {k : TitleKey} {n : Nat} {s : State} (few : 1 ≤ n ∧ n ≤ 10)
    (apart : LaneInv s → ∀ j, j ≠ l → (s.lanes.get j).holds k = false) : Acts b s (steerCase l k n s) := by
  refine (Acts.send _ _).trans (setLane_acts _ _ _ (fun _ _ _ e => by cases e; exact few) (fun _ _ => nofun) fun h k' hk j hj => ?_)
  obtain rfl : k = k' := by simpa using hk
  have lanes : (send (.s2Lane l) s).lanes = s.lanes := by simp
  rw [lanes]
  exact apart ⟨by simpa [lanes] using h.counts, by simpa [lanes] using h.apart, by simpa [lanes] using h.initial⟩ j hj

theorem joinLane_acts {l : LaneId} {k : TitleKey} {n : Nat} {s : State} (stock : (s.lanes.get l).stock k = some n) :
    Acts b s (joinLane l k n s) := by
  unfold joinLane
  split
  · exact Acts.send _ _
  next room =>
  have steered : Acts b s (steerCase l k (n + 1) s) := by
    refine steerCase_acts ⟨by omega, ?_⟩ fun h j hj => h.other (l := l) ?_ hj
    · simp only [Config.laneCases] at room
      omega
    · rcases Lane.stock_some stock with e | ⟨e, -⟩ <;> simp [e]
  refine steered.trans ?_
  dsimp only
  split
  · split
    · exact tryTakeCase_acts _
    · exact Acts.none
  · exact Acts.none

theorem takeCaseRead_acts (k : TitleKey) (s : State) : Acts b s (takeCaseRead k s) := by
  unfold takeCaseRead
  split
  · next stock => exact joinLane_acts (l := .a) stock
  · next stock => exact joinLane_acts (l := .b) stock
  next noneA noneB =>
  split
  · exact Acts.send _ _
  next notKept =>
  simp only [Bool.or_eq_true, not_or, Bool.not_eq_true] at notKept
  split
  · refine steerCase_acts ⟨le_rfl, by decide⟩ fun _ j _ => ?_
    cases j
    · exact Lane.holds_of_stock_none noneA notKept.1
    · exact Lane.holds_of_stock_none noneB notKept.2
  · exact Acts.send _ _

theorem endPurge_acts (l : LaneId) (s : State) : Acts b s (endPurge l s) := by
  unfold endPurge
  split
  · next kind carried n purging =>
    refine Relation.ReflTransGen.trans ?_ ((decideAgain_acts _).trans ((gateTest_acts _).trans (settleLine_acts _)))
    refine setLane_acts l _ s (fun _ _ _ e => ?_) (fun _ _ e => ?_) fun h k hk j hj => ?_
    · cases kind <;> cases carried <;> cases e
    · cases kind <;> cases carried <;> cases e
    · have held : (s.lanes.get l).holds k = true := by
        rw [purging]
        cases kind <;> cases carried <;> simp_all [purgedLane]
      exact h.other held hj
  · exact Acts.none

theorem purgeTimedOut_acts (l : LaneId) (s : State) : Acts b s (purgeTimedOut l s) :=
  (Acts.moveHead (unassignLane l s.head) s).trans <|
    (setLane_acts l .unknown _ (fun _ _ _ => nofun) (fun _ _ => nofun) fun _ _ => nofun).trans <|
    (enterFault_acts _ _).trans <| (Acts.notice _ _).trans (decideAgain_acts _)

/-! ### The marriage (R91 to R94) -/

/-- R91: the record that the expiry ejects. -/
def waitingRecord (s : State) : Option Ticket :=
  match s.head with
  | .waitTitle t => some t
  | .waitCase t _ => some t
  | _ => none

theorem waitExpired_acts {s : State} (calm : b = true → ∀ t, waitingRecord s = some t → RetiresCalmly t s) :
    Acts b s (waitExpired s) := by
  unfold waitExpired
  split
  · next t h => exact ejectHead_acts fun hb => calm hb t (by simp [waitingRecord, h])
  · next t l h => exact ejectHead_acts fun hb => calm hb t (by simp [waitingRecord, h])
  · exact Acts.none

theorem marriedElse_acts (reading : Reading Ticket) (s : State) : Acts b s (marriedElse reading s) := by
  unfold marriedElse
  repeat' split
  all_goals first | exact Acts.none | exact Acts.notice _ _

theorem marriedHead_acts (t : Ticket) (l : LaneId) (s : State) : Acts false s (marriedHead t l s) := by
  unfold marriedHead
  split
  · exact Acts.none
  split
  · exact (takeMarriage_acts _ _ _).trans ((recomputeDemand_acts _).trans ((softStopTest_acts _).trans (settleLine_acts _)))
  · exact tracks_acts _ _ (fun h => h.infeed) rfl rfl nofun

theorem takeMarried_acts (reading : Reading Ticket) (s : State) : Acts false s (takeMarried reading s) := by
  unfold takeMarried
  split
  · split
    · exact marriedHead_acts _ _ _
    · exact marriedElse_acts _ _
  · exact marriedElse_acts _ _

/-! ### The press (R100 to R103, R109, R111, R119) -/

theorem overheat_acts (s : State) : Acts b s (overheat s) := by
  unfold overheat
  dsimp only
  split
  · exact (setPress_acts _ _).trans (enterFault_acts _ _)
  · exact ((setPress_acts _ _).trans (enterFault_acts _ _)).trans (Acts.notice _ _)

theorem pressReady_acts (s : State) : Acts b s (pressReady s) := (setPress_acts _ _).trans (gateTest_acts _)

theorem pressByTemp_acts (t : Nat) (s : State) : Acts b s (pressByTemp t s) := by
  unfold pressByTemp
  split
  · exact overheat_acts _
  split
  · split
    · exact pressReady_acts _
    · exact setPress_acts _ _
  · split
    · exact pressReady_acts _
    · exact Acts.none
  · split
    · exact setPress_acts _ _
    · exact Acts.none
  · split
    · exact Acts.none
    · exact (setPress_acts _ _).trans (indexRetest_acts _)
  · exact Acts.none

theorem takeTemperature_acts (t : Nat) (s : State) : Acts false s (takeTemperature t s) :=
  (Acts.press (b := false) { s.press with temp := some t } s id rfl rfl nofun).trans <| (pressByTemp_acts _ _).trans <|
    (recomputeDemand_acts _).trans (settleLine_acts _)

theorem takeIndexReady_acts (s : State) : Acts b s (takeIndexReady s) := by
  unfold takeIndexReady
  split
  · split
    · next permitted => exact (sendIndexGo_acts permitted).trans (settleLine_acts _)
    · exact (Acts.press { s.press with index := .held } s nofun rfl rfl fun _ => rfl).trans (Acts.send _ _)
  · exact Acts.send _ _
  · exact Acts.none

theorem takeIndexDone_acts (m cycle : Nat) (s : State) : Acts false s (takeIndexDone m cycle s) := by
  unfold takeIndexDone
  split
  · next moving =>
    have moving : (creditStep m s).press.index = .moving := by simpa using moving
    exact (creditStep_acts m s).trans <| (exitStep_acts moving).trans <| (endMove_acts _).trans <|
      (checkEarlyIndex_acts _ _).trans <| (recomputeDemand_acts _).trans <| (softStopTest_acts _).trans (settleLine_acts _)
  · exact Acts.none

theorem goStandby_acts (s : State) : Acts b s (goStandby s) :=
  (Acts.press { s.press with idleTimer := none } s id rfl rfl fun _ => rfl).trans <|
    (Acts.send _ _).trans (setPress_acts _ _)

/-! ### Jacketing and delivery (R145 to R149, R155) -/

theorem takeJacketRead_acts (reading : Reading TitleKey) (s : State) : Acts b s (takeJacketRead reading s) := by
  unfold takeJacketRead
  split
  · next verifies =>
    have busy : s.jackets.state ≠ .free := by simp [verifies]
    split
    · split
      · refine Relation.ReflTransGen.trans (jackets_acts { s.jackets with mismatch := 0, state := .applying _ } s
          (fun h => ⟨h.keys, Nat.zero_le _, fun _ => Nat.zero_lt_succ _⟩) fun _ => .inl busy) (Acts.send _ _)
      · exact (jacketMismatch_acts busy).trans (settleLine_acts _)
    · exact (jacketMismatch_acts busy).trans (settleLine_acts _)
  · exact Acts.none

theorem takeApplied_acts (reading : Reading Ticket) (s : State) : Acts b s (takeApplied reading s) := by
  unfold takeApplied
  split
  · exact Acts.notice _ _
  split
  · next applies =>
    have busy : s.jackets.state ≠ .free := by simp [applies]
    refine Relation.ReflTransGen.trans (jackets_acts { s.jackets with sequence := s.jackets.sequence.tail } s
      (fun h => ⟨?_, h.count, h.bypass⟩) fun _ => .inl busy) ((handOver_acts (.inl (by simpa using busy))).trans (settleLine_acts _))
    have := h.keys
    rw [List.length_tail]
    omega
  · split
    · exact Acts.none
    · exact Acts.notice _ _

theorem takePassed_acts {reading : Reading Ticket} {s : State}
    (calm : b = true → ∀ t, passedTaken t s = true → RetiresCalmly t s) : Acts b s (takePassed reading s) := by
  unfold takePassed
  split
  · exact Acts.notice _ _
  split
  · next taken =>
    split
    · exact (retire_acts _ _ _ _ fun hb => calm hb _ taken).trans ((actWaitingS5_acts _).trans (settleLine_acts _))
    · exact Acts.notice _ _
  · exact Acts.notice _ _

/-! ### Floors, jackets and Force Retire (R22, R124, R126, R140, R150) -/

theorem writeFloor_acts (c : Contributor) (e : FloorEntry) (s : State) : Acts b s (writeFloor c e s) :=
  Relation.ReflTransGen.trans (.single (.pace { s.pace with floors := s.pace.floors.put c e } s fun h => h.of_commanded h.pitch))
    (recomputePitch_acts _)

theorem releaseJackets_acts (empty : Bool) (s : State) : Acts b s (releaseJackets empty s) := by
  refine jackets_acts _ s (fun h => ⟨?_, Nat.zero_le _, fun _ => Nat.zero_lt_succ _⟩) fun busy => .inl busy
  cases empty
  · exact h.keys
  · exact Nat.zero_le _

theorem loadJackets_acts {keys : List TitleKey} {s : State} (fits : s.jackets.sequence.length + keys.length ≤ 32) :
    Acts b s { s with jackets := { s.jackets with sequence := s.jackets.sequence ++ keys } } :=
  jackets_acts _ s (fun h => ⟨by simpa using fits, h.count, h.bypass⟩) fun busy => .inl busy

theorem forcedAtHead_acts (s : State) : Acts b s (forcedAtHead s) :=
  (clearHead_acts s).trans ((releaseCheck_acts _).trans (actWaitingS3_acts _))

theorem forcedAtJacketer_acts (t : Ticket) (s : State) : Acts b s (forcedAtJacketer t s) := by
  unfold forcedAtJacketer
  split
  · exact jackets_acts _ s (fun h => ⟨h.keys, h.count, h.bypass⟩) (absurd rfl)
  split
  · refine jackets_acts _ s (fun h => ⟨?_, h.count, h.bypass⟩) (absurd rfl)
    have := h.keys
    rw [List.length_tail]
    omega
  · exact Acts.none

/-- R22: what follows a forced retirement is calm, but at the entry place, where a waiting marriage may be taken. -/
theorem forcedConsequence_acts {t : Ticket} {stage : Stage} {s : State} (calm : b = true → stage ≠ .entry) :
    Acts b s (forcedConsequence t stage s) := by
  unfold forcedConsequence
  split
  · exact (gateTest_acts _).trans (releaseCheck_acts _)
  · exact forcedAtHead_acts _
  · cases b
    · exact (takeWaiting_acts s).trans ((recomputeDemand_acts _).trans (headGivesUp_acts _ _))
    · exact absurd rfl (calm rfl)
  · exact (recomputeDemand_acts _).trans (indexRetest_acts _)
  · exact (forcedAtJacketer_acts _ _).trans (indexRetest_acts _)
  · exact actWaitingS5_acts _
  · exact Acts.none

end Sys2Proof.Machine
end

section
/-! What one step can do, said once: a step is a millisecond, a device reset, nothing, or one of the events below; and the principle by
which an invariant is kept by every step. -/

namespace Sys2Proof.Machine

/-- What a request does to the tables of the part, or to its parameters, other than as a run of acts. -/
inductive ServesTable : State → State → Prop
  /-- R15 -/
  | admitted (t : Ticket) (k : TitleKey) (override : Option Nat) (oneOff : Option TitleParams) (s : State)
      (fresh : findRecord t s = none) (room : s.records.length < 64) (backlog : backlogFull k oneOff s = false) :
      ServesTable s (admitRecord t k override oneOff s)
  /-- R19 -/
  | attached (t : Ticket) (r : BookRecord) (p : TitleParams) (s : State) (live : liveRecord t s = some r)
      (source : r.source = .table) (unresolved : r.resolved = false) : ServesTable s (attachRecord r p s)
  /-- R40 -/
  | updated (k : TitleKey) (p : TitleParams) (s : State) : ServesTable s (updateTitle k p s)
  /-- R42 -/
  | installed (k : TitleKey) (p : TitleParams) (w : Way) (s : State) (missing : titleWay k s = none)
      (victim : (titleSet k s).victim = some w) : ServesTable s (installTitle k p w s)
  /-- R46 -/
  | dropped (k : TitleKey) (w : Way) (s : State) (valid : titleWay k s = some w) (unpinned : ((titleSet k s).get w).pin = 0) :
      ServesTable s (changeEntry k (fun e => { e with valid := false }) s)
  /-- R188 -/
  | parameter (number value : Nat) (s : State) (ok : parameterOk s.params number value = true) :
      ServesTable s (parameterEffect number { s with params := s.params.write number value })
  /-- R173 -/
  | clear (s : State) : ServesTable s (clearWhole s)

/-- What a request does to the state, once it has left the queue (R180). -/
inductive Serves : State → State → Prop
  /-- A refusal or a query. -/
  | unchanged (s : State) : Serves s s
  /-- R16 -/
  | withdrawn (t : Ticket) (r : BookRecord) (s : State) (live : liveRecord t s = some r) (stage : r.stage = .admitted) :
      Serves s (retire t .withdrawn none s)
  /-- R21, R22 -/
  | forced (t : Ticket) (r : BookRecord) (s : State) (live : liveRecord t s = some r) :
      Serves s (settleLine (forcedConsequence t r.stage (retire t .forced none s)))
  /-- R126 -/
  | floor (c : Contributor) (e : FloorEntry) (s : State) : Serves s (writeFloor c e s)
  /-- R140 -/
  | jacketsLoaded (keys : List TitleKey) (s : State) (fits : s.jackets.sequence.length + keys.length ≤ 32) :
      Serves s { s with jackets := { s.jackets with sequence := s.jackets.sequence ++ keys } }
  /-- R150 -/
  | jacketsReleased (empty : Bool) (s : State) : Serves s (releaseJackets empty s)
  /-- R162 -/
  | run (s : State) : Serves s (runLine s)
  /-- R164 -/
  | stopSoft (s : State) : Serves s (softStop s)
  /-- R166 -/
  | stopNow (s : State) : Serves s (stopNowLine s)
  /-- R168 -/
  | runOut (s : State) : Serves s (runOutLine s)
  /-- R171 -/
  | release (s : State) : Serves s (releaseLine s)
  | table {s u : State} (h : ServesTable s u) : Serves s u

/-- What a station message or the expiry of a timer does. -/
inductive Reports : State → State → Prop
  | nothing (s : State) : Reports s s
  /-- R56 -/
  | block (reading : Reading Ticket) (m : Nat) (s : State) : Reports s (sortBlock reading m s)
  /-- R64 -/
  | reading (i : ReaderId) (reading : Reading Ticket) (s : State) : Reports s (settleLine (takeReading i reading s))
  /-- R74, row 1 -/
  | caseUnread (s : State) : Reports s (send .s2Recirculate s)
  /-- R74 -/
  | caseRead (k : TitleKey) (s : State) : Reports s (takeCaseRead k s)
  /-- R85 -/
  | purgeDone (l : LaneId) (s : State) : Reports s (endPurge l s)
  /-- R87 -/
  | purgeTimeout (l : LaneId) (s : State) : Reports s (settleLine (purgeTimedOut l s))
  /-- R91 -/
  | waitExpiry (s : State) : Reports s (settleLine (waitExpired s))
  /-- R93, R94 -/
  | married (reading : Reading Ticket) (s : State) : Reports s (takeMarried reading s)
  /-- R100 -/
  | temperature (t : Nat) (s : State) : Reports s (takeTemperature t s)
  /-- R109 -/
  | indexReady (s : State) : Reports s (takeIndexReady s)
  /-- R111 -/
  | indexDone (m cycle : Nat) (s : State) : Reports s (takeIndexDone m cycle s)
  /-- R119 -/
  | idleExpiry (s : State) : Reports s (goStandby s)
  /-- R145 to R148 -/
  | jacketRead (reading : Reading TitleKey) (s : State) : Reports s (takeJacketRead reading s)
  /-- R149 -/
  | applied (reading : Reading Ticket) (s : State) : Reports s (takeApplied reading s)
  /-- R67, R155 -/
  | passed (reading : Reading Ticket) (s : State) : Reports s (takePassed reading s)
  /-- R124 -/
  | floor (c : Contributor) (e : FloorEntry) (s : State) : Reports s (writeFloor c e s)

/-- The events that change the state; those that show a frame sent on the link are events with `true` only. -/
inductive Event : Bool → State → State → Prop
  /-- R201 -/
  | driveStop {b : Bool} (s : State) : Event b s { s with out := .driveStop :: s.drive.waiting, drive := ⟨none, []⟩ }
  /-- R49, R200 -/
  | port {b : Bool} (st : Station) (x : StationPort) (s : State) : Event b s (setPort st x s)
  /-- R175 -/
  | words {b : Bool} (ws : List LinkWord) (s : State) : Event b s (ws.foldl takeWord s)
  /-- R181 -/
  | refusalSent (a : Answer) (s : State) : Event true s (frameOut (answerFrame a) { s with link := { s.link with refusal := none } })
  /-- R181 -/
  | answerSent (a : Answer) (rest : List Answer) (s : State) (oldest : s.link.answers = a :: rest) :
      Event true s (frameOut (answerFrame a) { s with link := { s.link with answers := rest } })
  /-- R185 -/
  | noticeSent (e : NoticeEntry) (rest : List NoticeEntry) (ws : List Word) (s : State) (head : s.link.notices = e :: rest) :
      Event true s (noticeOut rest (frameOut ws s))
  /-- R180 -/
  | request {b : Bool} (q : QueuedRequest) (rest : List QueuedRequest) (h : Handled) (s : State) (head : s.link.requests = q :: rest)
      (served : Serves { s with link := { s.link with requests := rest } } h.state) : Event b s (fillAnswer q h)
  | report {b : Bool} {s u : State} (h : Reports s u) : Event b s u

/-- What a command that is not a device reset comes to. -/
def Comes (b : Bool) (s t : State) : Prop := t = openStep s ∨ ∃ u, Event b (openStep s) u ∧ t = noteSending u

variable {b : Bool}

/-! ### The requests -/

theorem handleAdmit_serves (t : Ticket) (k : TitleKey) (o : Word) (override : Option Nat) (oneOff : Option TitleParams) (s : State) :
    Serves s (handleAdmit t k o override oneOff s).state := by
  unfold handleAdmit
  split
  · exact .unchanged s
  split
  · exact .unchanged s
  split
  · exact .unchanged s
  next fresh =>
  split
  · exact .unchanged s
  next room =>
  split
  · exact .unchanged s
  next backlog => exact .table (.admitted t k override oneOff s (by simpa using fresh) (Nat.not_le.1 room) (by simpa using backlog))

theorem handleWithdraw_serves (t : Ticket) (s : State) : Serves s (handleWithdraw t s).state := by
  unfold handleWithdraw
  split
  · exact .unchanged s
  split
  · exact .unchanged s
  next r live =>
  split
  · next stage => exact .withdrawn t r s live stage
  · exact .unchanged s

theorem handleAttach_serves (t : Ticket) (o : Word) (p : TitleParams) (s : State) : Serves s (handleAttach t o p s).state := by
  unfold handleAttach
  split
  · exact .unchanged s
  split
  · exact .unchanged s
  next r live =>
  split
  · exact .unchanged s
  split
  · exact .unchanged s
  next waits =>
  refine .table (.attached t r p s live ?_ ?_)
  · cases h : r.source <;> simp_all
  · simpa using fun h => waits (.inr h)

theorem handleForceRetire_serves (t : Ticket) (s : State) : Serves s (handleForceRetire t s).state := by
  unfold handleForceRetire
  split
  · exact .unchanged s
  split
  · exact .unchanged s
  split
  · exact .unchanged s
  next r live => exact .forced t r s live

theorem handleLoadTitle_serves (k : TitleKey) (o : Word) (p : TitleParams) (s : State) :
    Serves s (handleLoadTitle k o p s).state := by
  unfold handleLoadTitle
  split
  · exact .unchanged s
  split
  · exact .table (.updated k p s)
  next missing =>
  split
  · exact .unchanged s
  next w victim => exact .table (.installed k p w s missing victim)

theorem handleDropTitle_serves (k : TitleKey) (s : State) : Serves s (handleDropTitle k s).state := by
  unfold handleDropTitle
  split
  · exact .unchanged s
  split
  · exact .unchanged s
  next w valid =>
  dsimp only
  split
  · exact .unchanged s
  next unpinned => exact .table (.dropped k w s valid (by simpa using unpinned))

theorem handleSetFloor_serves (entry : Nat) (marks : Byte) (v : Nat) (s : State) : Serves s (handleSetFloor entry marks v s).state := by
  unfold handleSetFloor
  split
  · exact .unchanged s
  split
  · exact .unchanged s
  · exact .floor _ _ s

theorem handleLoadJackets_serves (keys : List TitleKey) (s : State) : Serves s (handleLoadJackets keys s).state := by
  unfold handleLoadJackets
  split
  · exact .unchanged s
  split
  · exact .unchanged s
  next fits => exact .jacketsLoaded keys s (Nat.not_lt.1 fits)

theorem handleReleaseJacketer_serves (choice : Nat) (s : State) : Serves s (handleReleaseJacketer choice s).state := by
  unfold handleReleaseJacketer
  split
  · exact .jacketsReleased false s
  · split
    · exact .jacketsReleased true s
    · exact .unchanged s
  · exact .unchanged s

theorem handleSetParameter_serves (number value : Nat) (s : State) : Serves s (handleSetParameter number value s).state := by
  unfold handleSetParameter
  split
  · exact .unchanged s
  next ok => exact .table (.parameter number value s (by simpa using ok))

theorem handleQueryBook_state (t : Ticket) (s : State) : (handleQueryBook t s).state = s := by
  unfold handleQueryBook
  repeat' split
  all_goals rfl

theorem handleQueryTitle_state (k : TitleKey) (s : State) : (handleQueryTitle k s).state = s := by
  unfold handleQueryTitle
  repeat' split
  all_goals rfl

theorem handleReadSlot_state (set way : Nat) (s : State) : (handleReadSlot set way s).state = s := by
  unfold handleReadSlot
  repeat' split
  all_goals rfl

theorem handleStatus_state (part : Nat) (s : State) : (handleStatus part s).state = s := by
  unfold handleStatus
  split <;> rfl

theorem Serves.of_eq {s u : State} (h : u = s) : Serves s u := h ▸ .unchanged s

/-- R180: a row of the request table comes to its request's effect. -/
theorem serve_comes {handle : Request → Option (State → Handled)} (serves : ∀ r h, handle r = some h → ∀ s, Serves s (h s).state)
    (s : State) : ∃ t, serve handle s = .next t ∧ Comes b s t := by
  cases hq : s.link.requests with
  | nil => exact ⟨_, serve_empty hq, .inl rfl⟩
  | cons q rest =>
    cases hh : handle q.request with
    | none => exact ⟨_, serve_other hq hh, .inl rfl⟩
    | some h => exact ⟨_, serve_own hq hh, .inr ⟨_, .request q rest _ _ hq (serves _ h hh _), rfl⟩⟩

theorem lineCommand_comes {code : Nat} {ok : LineState → Bool} {f : State → State} (effect : ∀ s, Serves s (f s)) (s : State) :
    ∃ t, serve (lineCommand code ok f) s = .next t ∧ Comes b s t := by
  refine serve_comes (fun r h hr u => ?_) s
  unfold lineCommand at hr
  split at hr
  · split at hr
    · cases hr
      dsimp only
      split
      · exact effect u
      · exact .unchanged u
    · cases hr
  · cases hr

/-- R180: a request that does not act on the tables is a run of acts. -/
theorem Serves.acts_or_table {s u : State} (h : Serves s u) : Acts false s u ∨ ServesTable s u := by
  cases h with
  | unchanged => exact .inl Acts.none
  | withdrawn => exact .inl (retire_acts _ _ _ _ nofun)
  | forced => exact .inl ((retire_acts (b := false) _ _ _ _ nofun).trans ((forcedConsequence_acts (b := false) nofun).trans (settleLine_acts _)))
  | floor => exact .inl (writeFloor_acts _ _ _)
  | jacketsLoaded _ _ fits => exact .inl (loadJackets_acts fits)
  | jacketsReleased => exact .inl (releaseJackets_acts _ _)
  | run => exact .inl (runLine_acts _)
  | stopSoft => exact .inl (softStop_acts _)
  | stopNow => exact .inl (stopNowLine_acts _)
  | runOut => exact .inl (runOutLine_acts _)
  | release => exact .inl (releaseLine_acts _)
  | table h => exact .inr h

/-! ### The station messages and the expiries -/

/-- What the stations report is a run of acts. -/
theorem Reports.acts {s u : State} (h : Reports s u) : Acts false s u := by
  cases h with
  | nothing => exact Acts.none
  | block => exact sortBlock_acts _ _ _
  | reading => exact (takeReading_acts _ _ _).trans (settleLine_acts _)
  | caseUnread => exact Acts.send _ _
  | caseRead => exact takeCaseRead_acts _ _
  | purgeDone => exact endPurge_acts _ _
  | purgeTimeout => exact (purgeTimedOut_acts _ _).trans (settleLine_acts _)
  | waitExpiry => exact (waitExpired_acts (b := false) nofun).trans (settleLine_acts _)
  | married => exact takeMarried_acts _ _
  | temperature => exact takeTemperature_acts _ _
  | indexReady => exact takeIndexReady_acts _
  | indexDone => exact takeIndexDone_acts _ _ _
  | idleExpiry => exact goStandby_acts _
  | jacketRead => exact takeJacketRead_acts _ _
  | applied => exact takeApplied_acts _ _
  | passed => exact takePassed_acts nofun
  | floor => exact writeFloor_acts _ _ _


theorem takeMessage_comes {st : Station} {f : State → State} {s : State} (effect : Event b (openStep s) (f (openStep s))) :
    ∃ t, takeMessage st f s = .next t ∧ Comes b s t := by
  cases hq : (s.ports.get st).quiet with
  | none => exact ⟨_, takeMessage_listens hq f, .inr ⟨_, effect, rfl⟩⟩
  | some n => exact ⟨_, takeMessage_discards hq f, .inr ⟨_, .port _ _ _, rfl⟩⟩

theorem stepWith_comes {f : State → State} {s : State} (effect : Event b (openStep s) (f (openStep s))) :
    ∃ t, stepWith f s = .next t ∧ Comes b s t := ⟨_, stepWith_next f s, .inr ⟨_, effect, rfl⟩⟩

theorem opened_comes (s : State) : ∃ t, (Host.Outcome.next (openStep s) : Host.Outcome State Fault Refusal) = .next t ∧ Comes b s t :=
  ⟨_, rfl, .inl rfl⟩

/-! ### The commands -/

theorem exec_link_comes {c : Instr} (s : State) (shows : b = false → (∀ p, c ≠ .answerSent p) ∧ c ≠ .noticeSent) (link : c = .driveStopAfterReset ∨ (∃ ws, c = .requestFrame ws) ∨
    (∃ ws h, c = .frameCutShort ws h) ∨ (∃ p, c = .answerSent p) ∨ c = .noticeSent) : ∃ t, exec c s = .next t ∧ Comes b s t := by
  rcases link with rfl | ⟨ws, rfl⟩ | ⟨ws, h, rfl⟩ | ⟨p, rfl⟩ | rfl
  · show ∃ t, execDriveStopAfterReset s = .next t ∧ Comes b s t
    unfold execDriveStopAfterReset
    split
    · exact opened_comes s
    · exact stepWith_comes (.driveStop _)
  · exact stepWith_comes (f := fun s' => ws.foldl takeWord s') (.words ws _)
  · have words := Event.words (b := b) (ws ++ [⟨true, h⟩]) (openStep s)
    rw [List.foldl_append] at words
    exact stepWith_comes (f := fun s' => takeWord (ws.foldl takeWord s') ⟨true, h⟩) words
  · obtain rfl : b = true := by
      cases b
      · exact absurd rfl ((shows rfl).1 p)
      · rfl
    show ∃ t, execAnswerSent p s = .next t ∧ Comes true s t
    unfold execAnswerSent
    split
    · split
      · split
        · exact stepWith_comes (.refusalSent _ _)
        · exact opened_comes s
      · exact opened_comes s
    · split
      · split
        · next oldest _ => exact stepWith_comes (.answerSent _ _ _ oldest)
        · exact opened_comes s
      · exact opened_comes s
  · obtain rfl : b = true := by
      cases b
      · exact absurd rfl (shows rfl).2
      · rfl
    show ∃ t, execNoticeSent s = .next t ∧ Comes true s t
    unfold execNoticeSent
    split
    · exact opened_comes s
    · next e rest head =>
      split
      · exact stepWith_comes (.noticeSent e rest _ _ head)
      · exact opened_comes s

/-- What every command but a device reset comes to. -/
theorem exec_comes {c : Instr} (s : State) (noReset : c ≠ .deviceReset)
    (shows : b = false → (∀ p, c ≠ .answerSent p) ∧ c ≠ .noticeSent) : ∃ t, exec c s = .next t ∧ Comes b s t := by
  cases c with
  | deviceReset => exact absurd rfl noReset
  | driveStopAfterReset => exact exec_link_comes s shows (by simp)
  | requestFrame ws => exact exec_link_comes s shows (by simp)
  | frameCutShort ws h => exact exec_link_comes s shows (by simp)
  | answerSent p => exact exec_link_comes s shows (by simp)
  | noticeSent => exact exec_link_comes s shows (by simp)
  | portQuietTime st => exact stepWith_comes (.port st _ _)
  | messageCharacterTimeout st => exact takeMessage_comes (.port st _ _)
  | damagedMessage st bytes =>
    refine takeMessage_comes ?_
    split
    · exact .report (.nothing _)
    · exact .port st _ _
  | admitBook =>
    show ∃ t, execAdmitBook s = .next t ∧ Comes b s t
    unfold execAdmitBook
    refine serve_comes (fun r h hr u => ?_) s
    split at hr <;> cases hr
    exact handleAdmit_serves _ _ _ _ _ u
  | withdrawBook =>
    show ∃ t, execWithdrawBook s = .next t ∧ Comes b s t
    unfold execWithdrawBook
    refine serve_comes (fun r h hr u => ?_) s
    split at hr <;> cases hr
    exact handleWithdraw_serves _ u
  | attachParameters =>
    show ∃ t, execAttachParameters s = .next t ∧ Comes b s t
    unfold execAttachParameters
    refine serve_comes (fun r h hr u => ?_) s
    split at hr <;> cases hr
    exact handleAttach_serves _ _ _ u
  | queryBook =>
    show ∃ t, execQueryBook s = .next t ∧ Comes b s t
    unfold execQueryBook
    refine serve_comes (fun r h hr u => ?_) s
    split at hr <;> cases hr
    exact .of_eq (handleQueryBook_state _ u)
  | forceRetire =>
    show ∃ t, execForceRetire s = .next t ∧ Comes b s t
    unfold execForceRetire
    refine serve_comes (fun r h hr u => ?_) s
    split at hr <;> cases hr
    exact handleForceRetire_serves _ u
  | loadTitle =>
    show ∃ t, execLoadTitle s = .next t ∧ Comes b s t
    unfold execLoadTitle
    refine serve_comes (fun r h hr u => ?_) s
    split at hr <;> cases hr
    exact handleLoadTitle_serves _ _ _ u
  | dropTitle =>
    show ∃ t, execDropTitle s = .next t ∧ Comes b s t
    unfold execDropTitle
    refine serve_comes (fun r h hr u => ?_) s
    split at hr <;> cases hr
    exact handleDropTitle_serves _ u
  | queryTitle =>
    show ∃ t, execQueryTitle s = .next t ∧ Comes b s t
    unfold execQueryTitle
    refine serve_comes (fun r h hr u => ?_) s
    split at hr <;> cases hr
    exact .of_eq (handleQueryTitle_state _ u)
  | readTitleSlot =>
    show ∃ t, execReadTitleSlot s = .next t ∧ Comes b s t
    unfold execReadTitleSlot
    refine serve_comes (fun r h hr u => ?_) s
    split at hr <;> cases hr
    exact .of_eq (handleReadSlot_state _ _ u)
  | setParameter =>
    show ∃ t, execSetParameter s = .next t ∧ Comes b s t
    unfold execSetParameter
    refine serve_comes (fun r h hr u => ?_) s
    split at hr <;> cases hr
    exact handleSetParameter_serves _ _ u
  | setFloor =>
    show ∃ t, execSetFloor s = .next t ∧ Comes b s t
    unfold execSetFloor
    refine serve_comes (fun r h hr u => ?_) s
    split at hr <;> cases hr
    exact handleSetFloor_serves _ _ _ u
  | loadJackets =>
    show ∃ t, execLoadJackets s = .next t ∧ Comes b s t
    unfold execLoadJackets
    refine serve_comes (fun r h hr u => ?_) s
    split at hr <;> cases hr
    exact handleLoadJackets_serves _ u
  | releaseJacketer =>
    show ∃ t, execReleaseJacketer s = .next t ∧ Comes b s t
    unfold execReleaseJacketer
    refine serve_comes (fun r h hr u => ?_) s
    split at hr <;> cases hr
    exact handleReleaseJacketer_serves _ u
  | status =>
    show ∃ t, execStatus s = .next t ∧ Comes b s t
    unfold execStatus
    refine serve_comes (fun r h hr u => ?_) s
    split at hr <;> cases hr
    exact .of_eq (handleStatus_state _ u)
  | run => exact lineCommand_comes .run s
  | stopSoft => exact lineCommand_comes .stopSoft s
  | stopNow => exact lineCommand_comes .stopNow s
  | runOut => exact lineCommand_comes .runOut s
  | release => exact lineCommand_comes .release s
  | clearLine => exact lineCommand_comes (fun s => .table (.clear s)) s
  | lineCommandNamingNoCommand =>
    show ∃ t, execLineCommandNamingNoCommand s = .next t ∧ Comes b s t
    unfold execLineCommandNamingNoCommand
    refine serve_comes (fun r h hr u => ?_) s
    split at hr
    · split at hr
      · cases hr
      · cases hr; exact .unchanged u
    · cases hr
  | blockReadS1 r m => exact takeMessage_comes (.report (.block r _ _))
  | blockReadS3 r => exact takeMessage_comes (.report (.reading .s3 r _))
  | exitRead r => exact takeMessage_comes (.report (.reading .s4 r _))
  | bookArrived r => exact takeMessage_comes (.report (.reading .s5 r _))
  | bookRead r => exact takeMessage_comes (.report (.reading .s6 r _))
  | caseRead k =>
    cases k with
    | unreadable => exact takeMessage_comes (.report (.caseUnread _))
    | named k => exact takeMessage_comes (.report (.caseRead k _))
  | purgeDone lane =>
    refine takeMessage_comes (.report ?_)
    split
    · exact .purgeDone _ _
    · exact .nothing _
  | purgeTimeout l =>
    show ∃ t, execPurgeTimeout l s = .next t ∧ Comes b s t
    unfold execPurgeTimeout
    split
    · exact stepWith_comes (.report (.purgeTimeout l _))
    · exact opened_comes s
  | marriageWaitExpiry =>
    show ∃ t, execMarriageWaitExpiry s = .next t ∧ Comes b s t
    unfold execMarriageWaitExpiry
    split
    · exact stepWith_comes (.report (.waitExpiry _))
    · exact opened_comes s
  | married r => exact takeMessage_comes (.report (.married r _))
  | temperature v => exact takeMessage_comes (.report (.temperature _ _))
  | indexReady => exact takeMessage_comes (.report (.indexReady _))
  | indexDone m c => exact takeMessage_comes (.report (.indexDone _ _ _))
  | idleTimerExpiry =>
    show ∃ t, execIdleTimerExpiry s = .next t ∧ Comes b s t
    unfold execIdleTimerExpiry
    split
    · exact stepWith_comes (.report (.idleExpiry _))
    · exact opened_comes s
  | jacketRead k => exact takeMessage_comes (.report (.jacketRead k _))
  | applied r => exact takeMessage_comes (.report (.applied r _))
  | passed r => exact takeMessage_comes (.report (.passed r _))
  | floor st v =>
    refine takeMessage_comes ?_
    unfold takeFloor
    split
    · exact .report (.floor _ _ _)
    · exact .port st _ _

/-- What a step can do. -/
theorem step_cases {s t : State} (h : step s = .next t) :
    (s.pending = [] ∧ t = tick s) ∨
    (∃ rest, t = { State.reset with pending := rest, openChoices := s.openChoices }) ∨
    ∃ rest, Comes true { s with pending := rest } t := by
  unfold step at h
  split at h
  · next empty => cases h; exact .inl ⟨empty, rfl⟩
  next c rest _ =>
  by_cases reset : c = .deviceReset
  · subst reset
    rw [exec_deviceReset] at h
    cases h
    exact .inr (.inl ⟨rest, rfl⟩)
  · obtain ⟨t', ht', comes⟩ := exec_comes (b := true) { s with pending := rest } reset nofun
    rw [ht'] at h
    cases h
    exact .inr (.inr ⟨rest, comes⟩)

/-- An invariant that time, reset and every event keep is kept by every step; it may not read what a step shows of its commands. -/
theorem step_keeps {P : State → Prop} (passes : ∀ s, P s → P (tick s))
    (resets : ∀ rest n, P { State.reset with pending := rest, openChoices := n })
    (opens : ∀ s rest, P s → P (openStep { s with pending := rest }))
    (event : ∀ s u, P s → Event true s u → P (noteSending u)) {s t : State} (h : step s = .next t) (hs : P s) : P t := by
  rcases step_cases h with ⟨-, rfl⟩ | ⟨rest, rfl⟩ | ⟨rest, rfl | ⟨u, happens, rfl⟩⟩
  · exact passes s hs
  · exact resets rest s.openChoices
  · exact opens s rest hs
  · exact event _ u (opens s rest hs) happens

end Sys2Proof.Machine
end

section
/-! The book records (chapter 1): every step keeps `RecordInv`. -/

namespace Sys2Proof.Machine

variable {b : Bool}

/-! ### The Title Table under the acts (R26 to R29) -/

/-- A title set reads its ways by its valid keys. -/
theorem TitleSet.wayOf_congr {ts us : TitleSet} (h : ∀ w, (us.get w).valid = (ts.get w).valid ∧ (us.get w).key = (ts.get w).key)
    (k : TitleKey) : us.wayOf k = ts.wayOf k := by
  obtain ⟨v0, k0⟩ := h .w0
  obtain ⟨v1, k1⟩ := h .w1
  simp only [TitleSet.get] at v0 k0 v1 k1
  simp only [TitleSet.wayOf, v0, k0, v1, k1]

/-- Which keys are valid is not changed by what keeps every entry's mark and key. -/
theorem titleWay_congr {s u : State}
    (h : ∀ (i : Fin 32) (w : Way), ((u.titles.get i).get w).valid = ((s.titles.get i).get w).valid ∧
      ((u.titles.get i).get w).key = ((s.titles.get i).get w).key) (k : TitleKey) : titleWay k u = titleWay k s :=
  TitleSet.wayOf_congr (h (setOf k)) k

/-- What a change of the set of `k` makes of every entry. -/
theorem changeSet_get (k : TitleKey) (f : TitleSet → TitleSet) (s : State) (i : Fin 32) :
    (changeSet k f s).titles.get i = if i = setOf k then f (s.titles.get i) else s.titles.get i := by
  split
  · next e => subst e; exact changeSet_get_same k f s
  · next e => exact changeSet_get_other k f s e

/-- A change of an entry that keeps its mark and its key keeps which keys are valid. -/
theorem titleWay_changeEntry {f : TitleEntry → TitleEntry} (keeps : ∀ e, (f e).valid = e.valid ∧ (f e).key = e.key)
    (k k' : TitleKey) (s : State) : titleWay k (changeEntry k' f s) = titleWay k s := by
  unfold changeEntry
  split
  · next w _ =>
    refine titleWay_congr (fun i v => ?_) k
    rw [changeSet_get]
    split
    · cases w <;> cases v <;> simp [TitleSet.get, TitleSet.put, keeps]
    · exact ⟨rfl, rfl⟩
  · rfl

@[simp] theorem titleWay_pinTitle (k k' : TitleKey) (s : State) : titleWay k (pinTitle k' s) = titleWay k s :=
  titleWay_changeEntry (f := fun e => { e with pin := e.pin + 1 }) (fun _ => ⟨rfl, rfl⟩) k k' s

theorem titleWay_of_titles {s u : State} (h : u.titles = s.titles) (k : TitleKey) : titleWay k u = titleWay k s := by
  simp only [titleWay, titleSet, h]

theorem countOutcome_keeps (o : Option BookOutcome) (e : TitleEntry) :
    (countOutcome o e).valid = e.valid ∧ (countOutcome o e).key = e.key ∧ (countOutcome o e).pin = e.pin := by
  unfold countOutcome
  split <;> exact ⟨rfl, rfl, rfl⟩

@[simp] theorem titleWay_freeRecord (k : TitleKey) (r : BookRecord) (s : State) : titleWay k (freeRecord r s) = titleWay k s := by
  unfold freeRecord
  dsimp only
  split
  · rw [titleWay_changeEntry fun e => ?_]
    · rfl
    · obtain ⟨valid, key, -⟩ := countOutcome_keeps r.outcome { e with pin := e.pin - 1 }
      exact ⟨valid, key⟩
  · rfl

@[simp] theorem titleWay_offerRetired (k : TitleKey) (t : Ticket) (s : State) : titleWay k (offerRetired t s) = titleWay k s := by
  unfold offerRetired
  split
  · rw [titleWay_freeRecord]
    exact titleWay_of_titles (by simp) k
  · rfl

@[simp] theorem titleWay_offerAll (k : TitleKey) (ts : List Ticket) (s : State) : titleWay k (offerAll ts s) = titleWay k s := by
  induction ts generalizing s with
  | nil => rfl
  | cons t ts ih =>
    unfold offerAll
    split
    · rw [ih, titleWay_offerRetired]
    · rfl

@[simp] theorem titleWay_retire (k : TitleKey) (t : Ticket) (o : BookOutcome) (e : Option Reason) (s : State) :
    titleWay k (retire t o e s) = titleWay k s := by
  unfold retire
  rw [titleWay_offerAll]
  exact titleWay_of_titles (by simp) k

/-- No act makes a key valid or invalid. -/
theorem Act.titleWay {s u : State} (h : Act b s u) (k : TitleKey) : titleWay k u = titleWay k s := by
  cases h with
  | retire => exact titleWay_retire _ _ _ _ _
  | resolve => rw [titleWay_pinTitle]; exact titleWay_of_titles (by simp) k
  | send => exact titleWay_of_titles (by simp) k
  | notice => exact titleWay_of_titles (by simp) k
  | edit => exact titleWay_of_titles (by simp) k
  | _ => rfl

theorem Acts.titleWay {s u : State} (h : Acts b s u) (k : TitleKey) : titleWay k u = titleWay k s := by
  induction h with
  | refl => rfl
  | tail _ act ih => rw [act.titleWay, ih]

/-- R36: one waiting record after the other resolves. -/
theorem resolveRecord_acts {k : TitleKey} {s : State} (valid : (titleWay k s).isSome = true) (t : Ticket) :
    Acts b s (resolveRecord k s t) := by
  unfold resolveRecord
  split
  · next r live =>
    split
    · next waits =>
      have ticket := findRecord_ticket (liveRecord_iff.1 live).1
      exact (Relation.ReflTransGen.single (.resolve k r s (by rw [ticket]; exact live) waits valid)).trans
        (announceResolved_acts _ _)
    · exact Acts.none
  · exact Acts.none

theorem resolveEach_acts {k : TitleKey} (ts : List Ticket) {s : State} (valid : (titleWay k s).isSome = true) :
    Acts b s (ts.foldl (resolveRecord k) s) := by
  induction ts generalizing s with
  | nil => exact Acts.none
  | cons t ts ih =>
    have first : Acts b s (resolveRecord k s t) := resolveRecord_acts valid t
    exact first.trans (ih (by rw [first.titleWay]; exact valid))

/-- R36: the resolution of the waiting records is a run of acts once the key has left the Pending Title List. -/
theorem resolveWaiting_acts {k : TitleKey} {s : State} (valid : (titleWay k s).isSome = true) :
    Acts b { s with pendingTitles := s.pendingTitles.filter (fun p => !(p.key == k)) } (resolveWaiting k s) :=
  resolveEach_acts _ valid

/-- R42: the key just installed is valid. -/
theorem titleWay_installed (k : TitleKey) (p : TitleParams) (w : Way) (s : State) :
    (titleWay k (changeSet k (fun ts => ts.put w (installedEntry k p)) s)).isSome = true := by
  rw [titleWay, titleSet_changeSet]
  unfold TitleSet.wayOf
  cases w <;> simp only [TitleSet.put, installedEntry] <;> grind

/-! ### Records by their tickets (R1) -/

/-- With different tickets, a ticket finds exactly the record that holds it. -/
theorem findRecord_iff {s : State} (nodup : (s.records.map (·.ticket)).Nodup) {t : Ticket} {r : BookRecord} :
    findRecord t s = some r ↔ r ∈ s.records ∧ r.ticket = t := by
  refine ⟨fun h => ⟨findRecord_mem h, findRecord_ticket h⟩, ?_⟩
  rintro ⟨mem, rfl⟩
  cases found : findRecord r.ticket s with
  | none =>
    have := List.find?_eq_none.1 found r mem
    simp at this
  | some r' =>
    rw [List.inj_on_of_nodup_map nodup (findRecord_mem found) mem (findRecord_ticket found)]

theorem liveRecord_iff_mem {s : State} (nodup : (s.records.map (·.ticket)).Nodup) {t : Ticket} {r : BookRecord} :
    liveRecord t s = some r ↔ r ∈ s.records ∧ r.ticket = t ∧ r.stage ≠ .retiring := by
  rw [liveRecord_iff, findRecord_iff nodup, and_assoc]

/-- The records after one of them has been replaced. -/
theorem mem_putRecord {s : State} {r x : BookRecord} : x ∈ (putRecord r s).records ↔
    (x ∈ s.records ∧ x.ticket ≠ r.ticket) ∨ (x = r ∧ ∃ y ∈ s.records, y.ticket = r.ticket) := by
  simp only [putRecord_records, List.mem_map]
  constructor
  · rintro ⟨y, mem, rfl⟩
    split
    · next e => exact .inr ⟨rfl, y, mem, e⟩
    · next e => exact .inl ⟨mem, e⟩
  · rintro (⟨mem, e⟩ | ⟨rfl, y, mem, e⟩)
    · exact ⟨x, mem, if_neg e⟩
    · exact ⟨y, mem, if_pos e⟩

/-! ### The record invariant under the acts -/

theorem RecordInv.congr {s u : State} (h : RecordInv s) (records : u.records = s.records) (retiring : u.retiring = s.retiring) :
    RecordInv u where
  room := records ▸ h.room
  tickets := records ▸ h.tickets
  order := retiring ▸ h.order
  retires t := by rw [retiring, records]; exact h.retires t
  outcome := records ▸ h.outcome
  reasons := records ▸ h.reasons
  flags := records ▸ h.flags

/-- R8: a ticket in the retirement order is not live. -/
theorem RecordInv.not_retiring {s : State} (h : RecordInv s) {t : Ticket} {r : BookRecord} (live : liveRecord t s = some r) :
    t ∉ s.retiring := by
  intro mem
  obtain ⟨r', mem', ticket', stage'⟩ := (h.retires t).1 mem
  obtain ⟨mem, ticket, stage⟩ := (liveRecord_iff_mem h.tickets).1 live
  have : r' = r := List.inj_on_of_nodup_map h.tickets mem' mem (ticket'.trans ticket.symm)
  exact stage (this ▸ stage')

/-- A live record replaced by another one that is live too. -/
theorem RecordInv.put {s : State} (h : RecordInv s) {r0 r : BookRecord} (live : liveRecord r.ticket s = some r0)
    (stage : r.stage ≠ .retiring) (outcome : r.outcome = r0.outcome) (reasons : r.reasons = r0.reasons)
    (flags : r0.flags.Nodup → r.flags.Nodup) : RecordInv (putRecord r s) := by
  obtain ⟨mem, ticket, stage0⟩ := (liveRecord_iff_mem h.tickets).1 live
  refine ⟨?_, ?_, ?_, fun t => ?_, fun x hx => ?_, fun x hx => ?_, fun x hx => ?_⟩
  · simpa using h.room
  · rw [putRecord_tickets]; exact h.tickets
  · simpa using h.order
  · rw [show (putRecord r s).retiring = s.retiring by simp, h.retires]
    constructor
    · rintro ⟨y, hy, rfl, hs⟩
      refine ⟨y, mem_putRecord.2 (.inl ⟨hy, fun e => ?_⟩), rfl, hs⟩
      exact stage0 (List.inj_on_of_nodup_map h.tickets hy mem (e.trans ticket.symm) ▸ hs)
    · rintro ⟨y, hy, rfl, hs⟩
      rcases mem_putRecord.1 hy with ⟨hy, -⟩ | ⟨rfl, -⟩
      · exact ⟨y, hy, rfl, hs⟩
      · exact absurd hs stage
  · rcases mem_putRecord.1 hx with ⟨hx, -⟩ | ⟨rfl, -⟩
    · exact h.outcome x hx
    · rw [outcome]
      exact iff_of_false (fun some => stage0 ((h.outcome r0 mem).1 some)) stage
  · rcases mem_putRecord.1 hx with ⟨hx, -⟩ | ⟨rfl, -⟩
    · exact h.reasons x hx
    · rw [outcome, reasons]; exact h.reasons r0 mem
  · rcases mem_putRecord.1 hx with ⟨hx, -⟩ | ⟨rfl, -⟩
    · exact h.flags x hx
    · exact flags (h.flags r0 mem)

theorem retireReasons_eq_nil {o : BookOutcome} (h : o ≠ .diverted) (fs : List Flag) (e : Option Reason) :
    retireReasons o fs e = [] := by
  cases o <;> first | rfl | exact absurd rfl h

theorem RecordInv.enterRetiring {s : State} (h : RecordInv s) (t : Ticket) (o : BookOutcome) (e : Option Reason) :
    RecordInv (enterRetiring t o e s) := by
  cases live : liveRecord t s with
  | none => rwa [enterRetiring_absent live]
  | some r =>
    obtain ⟨mem, ticket, stage⟩ := (liveRecord_iff_mem h.tickets).1 live
    obtain ⟨records, retiring, -⟩ := enterRetiring_live live o e
    have fresh := h.not_retiring live
    let r' : BookRecord :=
      { r with stage := .retiring, outcome := some o, reasons := retireReasons o r.flags e, position := none }
    have put : (Machine.enterRetiring t o e s).records = (putRecord r' s).records := records
    refine ⟨?_, ?_, ?_, fun u => ?_, fun x hx => ?_, fun x hx => ?_, fun x hx => ?_⟩
    · rw [put]; simpa using h.room
    · rw [put, putRecord_tickets]; exact h.tickets
    · rw [retiring]
      exact List.nodup_append.2 ⟨h.order, List.nodup_singleton t, by grind⟩
    · rw [retiring, put, List.mem_append, List.mem_singleton, h.retires]
      constructor
      · rintro (⟨y, hy, rfl, hs⟩ | rfl)
        · refine ⟨y, mem_putRecord.2 (.inl ⟨hy, fun e => stage ?_⟩), rfl, hs⟩
          exact List.inj_on_of_nodup_map h.tickets hy mem e ▸ hs
        · exact ⟨r', mem_putRecord.2 (.inr ⟨rfl, r, mem, rfl⟩), ticket, rfl⟩
      · rintro ⟨y, hy, rfl, hs⟩
        rcases mem_putRecord.1 hy with ⟨hy, -⟩ | ⟨rfl, -⟩
        · exact .inl ⟨y, hy, rfl, hs⟩
        · exact .inr ticket
    all_goals
      rw [put] at hx
      rcases mem_putRecord.1 hx with ⟨hx, -⟩ | ⟨rfl, -⟩
    · exact h.outcome x hx
    · exact iff_of_true rfl rfl
    · exact h.reasons x hx
    · intro some
      by_contra other
      exact some (retireReasons_eq_nil (fun e => other (by rw [← e])) _ _)
    · exact h.flags x hx
    · exact h.flags r mem

/-- R12: a freed record leaves the table and the retirement order. -/
@[simp] theorem freeRecord_records (r : BookRecord) (s : State) :
    (freeRecord r s).records = s.records.filter (fun x => !(x.ticket == r.ticket)) ∧
    (freeRecord r s).retiring = s.retiring.filter (fun t => !(t == r.ticket)) := by
  unfold freeRecord
  dsimp only
  split <;> simp

theorem RecordInv.free {s u : State} (h : RecordInv s) (t : Ticket)
    (records : u.records = s.records.filter (fun x => !(x.ticket == t)))
    (retiring : u.retiring = s.retiring.filter (fun x => !(x == t))) : RecordInv u where
  room := by rw [records]; exact (List.length_filter_le _ _).trans h.room
  tickets := by rw [records]; exact h.tickets.sublist (List.filter_sublist.map _)
  order := by rw [retiring]; exact h.order.filter _
  retires u := by
    rw [retiring, records, List.mem_filter, h.retires]
    constructor
    · rintro ⟨⟨y, hy, rfl, hs⟩, e⟩
      exact ⟨y, List.mem_filter.2 ⟨hy, e⟩, rfl, hs⟩
    · rintro ⟨y, hy, rfl, hs⟩
      obtain ⟨hy, e⟩ := List.mem_filter.1 hy
      exact ⟨⟨y, hy, rfl, hs⟩, e⟩
  outcome := by rw [records]; exact fun x hx => h.outcome x (List.mem_filter.1 hx).1
  reasons := by rw [records]; exact fun x hx => h.reasons x (List.mem_filter.1 hx).1
  flags := by rw [records]; exact fun x hx => h.flags x (List.mem_filter.1 hx).1

/-- R11: an offered record leaves the table and the retirement order, when there is one. -/
theorem offerRetired_records (t : Ticket) (s : State) :
    (offerRetired t s).records = s.records.filter (fun x => !(x.ticket == t)) ∧
    (offerRetired t s).retiring = s.retiring.filter (fun x => !(x == t)) := by
  unfold offerRetired
  split
  · next r found =>
    rw [← findRecord_ticket found]
    simp
  · next none =>
    refine ⟨(List.filter_eq_self.2 fun x hx => ?_).symm, rfl⟩
    simpa using List.find?_eq_none.1 none x hx

theorem RecordInv.offerRetired {s : State} (h : RecordInv s) (t : Ticket) : RecordInv (offerRetired t s) :=
  h.free t (offerRetired_records t s).1 (offerRetired_records t s).2

theorem RecordInv.offerAll {s : State} (h : RecordInv s) (ts : List Ticket) : RecordInv (offerAll ts s) := by
  induction ts generalizing s with
  | nil => exact h
  | cons t ts ih =>
    unfold Machine.offerAll
    split
    · exact ih (h.offerRetired t)
    · exact h

theorem RecordInv.retire {s : State} (h : RecordInv s) (t : Ticket) (o : BookOutcome) (e : Option Reason) :
    RecordInv (retire t o e s) := (h.enterRetiring t o e).offerAll _

theorem RecordInv.act {s u : State} (h : RecordInv s) (act : Act b s u) : RecordInv u := by
  cases act with
  | edit t f _ mild =>
    cases live : liveRecord t s with
    | none => rwa [changeRecord_absent live]
    | some r =>
      have m := mild r live
      obtain ⟨found, stage⟩ := liveRecord_iff.1 live
      rw [changeRecord_live live]
      refine h.put (r0 := r) ?_ (fun e => stage (m.retiring.1 e)) m.outcome m.reasons m.flags
      rw [m.ticket, findRecord_ticket found]
      exact live
  | retire => exact h.retire _ _ _
  | resolve k r _ live =>
    refine (h.put (r := { r with resolved := true }) live ?_ rfl rfl id).congr (by simp) (by simp)
    exact (liveRecord_iff.1 live).2
  | send => exact h.congr (by simp) (by simp)
  | notice => exact h.congr (by simp) (by simp)
  | _ => exact h.congr rfl rfl

theorem RecordInv.acts {s u : State} (h : RecordInv s) (acts : Acts b s u) : RecordInv u := by
  induction acts with
  | refl => exact h
  | tail _ act ih => exact ih.act act

/-! ### The tables (R15, R19, R42, R173) -/

theorem admitRecord_records (t : Ticket) (k : TitleKey) (override : Option Nat) (oneOff : Option TitleParams) (s : State) :
    ∃ resolved, (admitRecord t k override oneOff s).records = s.records ++ [newRecord t k override oneOff resolved] ∧
      (admitRecord t k override oneOff s).retiring = s.retiring := by
  unfold admitRecord
  split
  · exact ⟨true, rfl, rfl⟩
  · split
    · exact ⟨true, by simp, by simp⟩
    · exact ⟨false, by simp, by simp⟩

theorem RecordInv.admitRecord {s : State} (h : RecordInv s) {t : Ticket} (fresh : findRecord t s = none)
    (room : s.records.length < 64) (k : TitleKey) (override : Option Nat) (oneOff : Option TitleParams) :
    RecordInv (admitRecord t k override oneOff s) := by
  obtain ⟨resolved, records, retiring⟩ := admitRecord_records t k override oneOff s
  have new : t ∉ s.records.map (·.ticket) := by
    rintro mem
    obtain ⟨r, hr, rfl⟩ := List.mem_map.1 mem
    have := List.find?_eq_none.1 fresh r hr
    simp at this
  have split {x : BookRecord} (hx : x ∈ s.records ++ [newRecord t k override oneOff resolved]) :
      x ∈ s.records ∨ x = newRecord t k override oneOff resolved := by simpa using hx
  refine ⟨?_, ?_, retiring ▸ h.order, fun u => ?_, ?_, ?_, ?_⟩
  · rw [records, List.length_append]; exact room
  · rw [records, List.map_append]
    exact List.nodup_append.2 ⟨h.tickets, List.nodup_singleton _, by grind [newRecord]⟩
  · rw [retiring, records, h.retires]
    simp [newRecord, or_and_right, exists_or]
  all_goals
    rw [records]
    intro x hx
    rcases split hx with hx | rfl
  · exact h.outcome x hx
  · exact iff_of_false nofun nofun
  · exact h.reasons x hx
  · exact fun some => absurd rfl some
  · exact h.flags x hx
  · exact List.nodup_nil

theorem RecordInv.enterEach {s : State} (h : RecordInv s) (ts : List Ticket) (o : BookOutcome) (e : Option Reason) :
    RecordInv (ts.foldl (fun s t => Machine.enterRetiring t o e s) s) := by
  induction ts generalizing s with
  | nil => exact h
  | cons t ts ih => exact ih (h.enterRetiring t o e)

theorem parameterEffect_acts (number : Nat) (s : State) : Acts b s (parameterEffect number s) := by
  unfold parameterEffect
  split
  · exact recomputeDemand_acts s
  · exact recomputeDemand_acts s
  · exact (Acts.press { s.press with idleTimer := none } s id rfl rfl fun _ => rfl).trans (idleRefresh_acts _)
  · exact recomputePitch_acts s
  · exact recomputePitch_acts s
  · exact recomputePitch_acts s
  · exact Acts.none

/-- R19: the attached record stands in the place of the unresolved one. -/
theorem RecordInv.attach {s : State} (h : RecordInv s) {t : Ticket} {r : BookRecord} (live : liveRecord t s = some r)
    (p : TitleParams) : RecordInv (putRecord { r with source := .oneOff, oneOff := some p, resolved := true } s) := by
  obtain ⟨found, stage⟩ := liveRecord_iff.1 live
  refine h.put (r0 := r) ?_ stage rfl rfl id
  rw [findRecord_ticket found]
  exact live

theorem RecordInv.table {s u : State} (h : RecordInv s) (served : ServesTable s u) : RecordInv u := by
  cases served with
  | admitted t k override oneOff _ fresh room => exact h.admitRecord fresh room k override oneOff
  | attached t r p _ live =>
    have waits : RecordInv (stopWaiting r.key (putRecord { r with source := .oneOff, oneOff := some p, resolved := true } s)) :=
      (h.attach live p).congr (by simp) (by simp)
    exact (waits.acts (b := false) (announceResolved_acts r.ticket _)).acts (b := false) (settleLine_acts _)
  | updated => exact h.congr (by simp [updateTitle]) (by simp [updateTitle])
  | installed k p w =>
    have put : RecordInv { changeSet k (fun ts => ts.put w (installedEntry k p)) s with
        pendingTitles := (changeSet k (fun ts => ts.put w (installedEntry k p)) s).pendingTitles.filter fun p => !(p.key == k) } :=
      h.congr (by simp) (by simp)
    have resolved := put.acts (resolveWaiting_acts (b := false) (titleWay_installed k p w s))
    have used : RecordInv (changeSet k (·.use w) (resolveWaiting k (changeSet k (fun ts => ts.put w (installedEntry k p)) s))) :=
      resolved.congr (by simp) (by simp)
    exact used.acts (b := false) (settleLine_acts _)
  | dropped => exact h.congr (by simp) (by simp)
  | parameter number value =>
    have written : RecordInv { s with params := s.params.write number value } := h.congr rfl rfl
    exact written.acts (b := false) (parameterEffect_acts number _)
  | clear =>
    have cleared := h.acts (b := false) (clearedLine_acts s)
    have retired : RecordInv (retireAll (clearedLine s)) := (cleared.enterEach _ _ _).offerAll _
    have emptied : RecordInv (emptyPlaces (retireAll (clearedLine s))) := retired.congr (by simp) (by simp)
    exact (emptied.acts (b := false) (recomputeDemand_acts _)).acts (b := false) (idleRefresh_acts _)

/-- A table with no record in it. -/
theorem RecordInv.of_empty {s : State} (records : s.records = []) (retiring : s.retiring = []) : RecordInv s := by
  constructor <;> simp [records, retiring]

theorem RecordInv.refillNotices {s : State} (h : RecordInv s) : RecordInv (refillNotices s) := by
  unfold Machine.refillNotices
  split
  · exact h.offerRetired _
  · split
    · exact h.congr (by simp) (by simp)
    · exact h

theorem takeWords_frame (ws : List LinkWord) (s : State) :
    (ws.foldl takeWord s).records = s.records ∧ (ws.foldl takeWord s).retiring = s.retiring ∧
    (ws.foldl takeWord s).titles = s.titles ∧ (ws.foldl takeWord s).pendingTitles = s.pendingTitles ∧
    (ws.foldl takeWord s).tracks = s.tracks ∧ (ws.foldl takeWord s).readers = s.readers ∧
    (ws.foldl takeWord s).lanes = s.lanes ∧ (ws.foldl takeWord s).head = s.head ∧
    (ws.foldl takeWord s).press = s.press ∧ (ws.foldl takeWord s).pace = s.pace ∧
    (ws.foldl takeWord s).jackets = s.jackets ∧ (ws.foldl takeWord s).params = s.params := by
  induction ws generalizing s with
  | nil => simp
  | cons w ws ih => simpa using ih (takeWord s w)

theorem RecordInv.event {s u : State} (h : RecordInv s) (event : Event true s u) : RecordInv u := by
  cases event with
  | driveStop => exact h.congr rfl rfl
  | port => exact h.congr rfl rfl
  | words ws =>
    obtain ⟨records, retiring, -⟩ := takeWords_frame ws s
    exact h.congr records retiring
  | refusalSent => exact h.congr rfl rfl
  | answerSent => exact h.congr rfl rfl
  | noticeSent e rest ws =>
    have freed : RecordInv { frameOut ws s with link := { (frameOut ws s).link with notices := rest } } := h.congr rfl rfl
    exact freed.refillNotices.congr rfl rfl
  | request q rest hd _ _ served =>
    have dequeued : RecordInv { s with link := { s.link with requests := rest } } := h.congr rfl rfl
    have handled : RecordInv hd.state := served.acts_or_table.elim dequeued.acts dequeued.table
    exact handled.congr rfl rfl
  | report reported => exact h.acts reported.acts

/-- Settles O56: every act keeps the record invariant, and so do the effects on the tables. -/
theorem recordInvariantIsKept : Obligations.RecordInvariantIsKept := by
  intro s t inv stepped
  refine step_keeps (P := RecordInv) ?_ ?_ ?_ ?_ stepped inv
  · exact fun _ h => h.congr rfl rfl
  · exact fun _ _ => .of_empty rfl rfl
  · exact fun _ _ h => h.congr rfl rfl
  · exact fun _ _ h happens => (h.event happens).congr (by simp) (by simp)

end Sys2Proof.Machine
end

section
/-! The line link (chapter 9): every step keeps its queues within their places and its arbiter honest. -/

namespace Sys2Proof.Machine

variable {b : Bool}

/-! ### Notices that wait (R183 to R185) -/

theorem findRecord_isSome {t : Ticket} {s : State} : (findRecord t s).isSome = true ↔ t ∈ s.records.map (·.ticket) := by
  simp [findRecord]

theorem noticeWaits_iff {s : State} : noticeWaits s = true ↔ s.retiring ≠ [] ∨ s.link.held.any = true := by
  simp [noticeWaits]

theorem Held.take_eq_none {h : Held} : h.take = none ↔ h.any = false := by
  unfold Held.take Held.any
  repeat' split
  all_goals simp_all

/-- What a change of the link must respect that leaves the notices as they are. -/
theorem LinkInv.congr {s u : State} (h : LinkInv s)
    (places : u.link.requests.length + u.link.answers.length ≤ 8) (notices : u.link.notices = s.link.notices)
    (held : u.link.held = s.link.held) (attn : u.link.attn = s.link.attn) (retiring : u.retiring = s.retiring)
    (tickets : u.records.map (·.ticket) = s.records.map (·.ticket)) : LinkInv u where
  places := places
  room := by rw [notices]; exact h.room
  attn := by rw [attn, notices]; exact h.attn
  waits := by rw [noticeWaits_iff, retiring, held, ← noticeWaits_iff, notices]; exact h.waits
  owed := by
    intro t ht
    rw [findRecord_isSome, tickets, ← findRecord_isSome]
    exact h.owed t (by rwa [retiring] at ht)

theorem LinkInv.of_link {s u : State} (h : LinkInv s) (link : u.link = s.link) (retiring : u.retiring = s.retiring)
    (tickets : u.records.map (·.ticket) = s.records.map (·.ticket)) : LinkInv u :=
  h.congr (by rw [link]; exact h.places) (by rw [link]) (by rw [link]) (by rw [link]) retiring tickets

theorem LinkInv.produce {s : State} (h : LinkInv s) (n : Notice) : LinkInv (produce n s) := by
  by_cases queued : s.link.notices.length < 32 ∧ noticeWaits s = false
  · obtain ⟨room, none⟩ := queued
    rw [produce_queued room none]
    refine ⟨h.places, ?_, ?_, fun waits => ?_, h.owed⟩
    · simp only [enqueueNotice_notices, List.length_append, List.length_singleton]
      omega
    · simp
    · have same : noticeWaits s = true := waits
      rw [none] at same
      cases same
  · rw [produce_held queued]
    have full : s.link.notices.length = 32 := by
      have room := h.room
      by_cases waits : noticeWaits s = true
      · exact h.waits waits
      · have noRoom : ¬ s.link.notices.length < 32 := fun lt => queued ⟨lt, by simpa using waits⟩
        omega
    exact ⟨h.places, h.room, h.attn, fun _ => full, h.owed⟩

/-- The link while records wait to be offered: `waits` holds but for the records in the order. -/
structure OfferInv (s : State) : Prop where
  places : s.link.requests.length + s.link.answers.length ≤ 8
  room : s.link.notices.length ≤ 32
  attn : s.link.attn = !s.link.notices.isEmpty
  held : s.link.held.any = true → s.link.notices.length = 32
  owed : ∀ t ∈ s.retiring, (findRecord t s).isSome = true

theorem LinkInv.offer {s : State} (h : LinkInv s) : OfferInv s :=
  ⟨h.places, h.room, h.attn, fun held => h.waits (noticeWaits_iff.2 (.inr held)), h.owed⟩

theorem freeRecord_owed {s : State} {r : BookRecord} (h : ∀ t ∈ s.retiring, (findRecord t s).isSome = true) :
    ∀ t ∈ (freeRecord r s).retiring, (findRecord t (freeRecord r s)).isSome = true := by
  intro t ht
  rw [(freeRecord_records r s).2, List.mem_filter] at ht
  have mem := findRecord_isSome.1 (h t ht.1)
  rw [findRecord_isSome, (freeRecord_records r s).1]
  simp only [List.mem_map, List.mem_filter] at mem ⊢
  obtain ⟨x, hx, rfl⟩ := mem
  exact ⟨x, ⟨hx, ht.2⟩, rfl⟩

theorem offerRetired_found {s : State} {t : Ticket} {r : BookRecord} (found : findRecord t s = some r) :
    offerRetired t s = freeRecord r
      (enqueueNotice ⟨s.link.nextNotice, retiredNotice r⟩ { s with link := { s.link with nextNotice := s.link.nextNotice + 1 } }) := by
  simp [offerRetired, found]

theorem OfferInv.offerRetired {s : State} (h : OfferInv s) (t : Ticket) (room : s.link.notices.length < 32) :
    OfferInv (offerRetired t s) := by
  cases found : findRecord t s with
  | none =>
    have unfound : Machine.offerRetired t s = { s with retiring := s.retiring.filter (fun x => !(x == t)) } := by
      simp [Machine.offerRetired, found]
    rw [unfound]
    exact ⟨h.places, h.room, h.attn, h.held, fun u hu => h.owed u (List.mem_filter.1 hu).1⟩
  | some r =>
    rw [offerRetired_found found]
    refine ⟨?_, ?_, ?_, fun held => ?_, freeRecord_owed h.owed⟩
    · simpa using h.places
    · simp only [freeRecord_frame, enqueueNotice_notices, List.length_append, List.length_singleton]
      omega
    · simp
    · have : s.link.held.any = true := by simpa [enqueueNotice] using held
      have := h.held this
      omega

/-- R11: offering the order as far as there is room leaves no notice waiting beside room. -/
theorem OfferInv.offerAll {ts : List Ticket} {s : State} (h : OfferInv s) (all : ∀ t ∈ s.retiring, t ∈ ts) :
    LinkInv (offerAll ts s) := by
  induction ts generalizing s with
  | nil =>
    refine ⟨h.places, h.room, h.attn, fun waits => ?_, h.owed⟩
    have : s.retiring = [] := List.eq_nil_iff_forall_not_mem.2 fun t ht => by cases all t ht
    exact h.held ((noticeWaits_iff.1 waits).resolve_left (absurd this))
  | cons t ts ih =>
    by_cases room : s.link.notices.length < 32
    · rw [offerAll_room room]
      refine ih (h.offerRetired t room) fun u hu => ?_
      rw [(offerRetired_records t s).2] at hu
      have := all u (List.mem_filter.1 hu).1
      grind
    · have full : s.link.notices.length = 32 := by have := h.room; omega
      rw [offerAll_full full.ge]
      exact ⟨h.places, h.room, h.attn, fun _ => full, h.owed⟩

theorem OfferInv.enterRetiring {s : State} (h : OfferInv s) (t : Ticket) (o : BookOutcome) (e : Option Reason) :
    OfferInv (enterRetiring t o e s) := by
  cases live : liveRecord t s with
  | none => rwa [enterRetiring_absent live]
  | some r =>
    obtain ⟨records, retiring, -⟩ := enterRetiring_live live o e
    have link : (Machine.enterRetiring t o e s).link = s.link := by simp
    have tickets : (Machine.enterRetiring t o e s).records.map (·.ticket) = s.records.map (·.ticket) := by
      rw [records]
      exact putRecord_tickets { r with stage := .retiring, outcome := some o, reasons := retireReasons o r.flags e, position := none } s
    refine ⟨by rw [link]; exact h.places, by rw [link]; exact h.room, by rw [link]; exact h.attn,
      by rw [link]; exact h.held, fun u hu => ?_⟩
    rw [findRecord_isSome, tickets, ← findRecord_isSome]
    rw [retiring, List.mem_append, List.mem_singleton] at hu
    rcases hu with hu | rfl
    · exact h.owed u hu
    · simp [(liveRecord_iff.1 live).1]

theorem LinkInv.retire {s : State} (h : LinkInv s) (t : Ticket) (o : BookOutcome) (e : Option Reason) :
    LinkInv (retire t o e s) := (h.offer.enterRetiring t o e).offerAll fun _ => id

theorem OfferInv.enterEach {s : State} (h : OfferInv s) (ts : List Ticket) (o : BookOutcome) (e : Option Reason) :
    OfferInv (ts.foldl (fun s t => Machine.enterRetiring t o e s) s) := by
  induction ts generalizing s with
  | nil => exact h
  | cons t ts ih => exact ih (h.enterRetiring t o e)

/-! ### The link under the acts -/

theorem LinkInv.act {s u : State} (h : LinkInv s) (act : Act b s u) : LinkInv u := by
  cases act with
  | notice => exact h.produce _
  | retire => exact h.retire _ _ _
  | send => exact h.of_link (by simp) (by simp) (by simp)
  | edit t f _ mild =>
    refine h.of_link (by simp) (by simp) ?_
    exact changeRecord_tickets t f s
  | resolve k r => exact h.of_link (by simp) (by simp) ((congrArg _ (by simp)).trans (putRecord_tickets { r with resolved := true } s))
  | _ => exact h.of_link rfl rfl rfl

theorem LinkInv.acts {s u : State} (h : LinkInv s) (acts : Acts b s u) : LinkInv u := by
  induction acts with
  | refl => exact h
  | tail _ act ih => exact ih.act act

/-! ### The requests and answers, and what is being sent (R180, R181) -/

/-- From `s` to `u` requests, answers, refusal place and frames under way are as they were, and notices that were queued are. -/
structure LinkKept (s u : State) : Prop where
  requests : u.link.requests = s.link.requests
  answers : u.link.answers = s.link.answers
  refusal : u.link.refusal = s.link.refusal
  sending : u.link.sending = s.link.sending
  notices : s.link.notices ≠ [] → u.link.notices ≠ []

theorem LinkKept.of_link {s u : State} (link : u.link = s.link) : LinkKept s u := by
  constructor <;> rw [link]
  exact id

theorem LinkKept.trans {s u v : State} (h : LinkKept s u) (h' : LinkKept u v) : LinkKept s v :=
  ⟨h'.requests.trans h.requests, h'.answers.trans h.answers, h'.refusal.trans h.refusal, h'.sending.trans h.sending,
    h'.notices ∘ h.notices⟩

/-- What is kept from a state with the same link is kept. -/
theorem LinkKept.before {s v u : State} (h : LinkKept v u) (link : v.link = s.link) : LinkKept s u :=
  LinkKept.trans (.of_link link) h

theorem LinkKept.after {s v u : State} (h : LinkKept s v) (link : u.link = v.link) : LinkKept s u := h.trans (.of_link link)

theorem LinkKept.produce (n : Notice) (s : State) : LinkKept s (produce n s) := by
  refine ⟨by simp, by simp, by simp, by simp, fun some => ?_⟩
  by_cases queued : s.link.notices.length < 32 ∧ noticeWaits s = false
  · rw [produce_queued queued.1 queued.2]
    simp
  · rw [produce_held queued]
    exact some

theorem LinkKept.offerRetired (t : Ticket) (s : State) : LinkKept s (offerRetired t s) := by
  refine ⟨by simp, by simp, by simp, by simp, fun some => ?_⟩
  unfold Machine.offerRetired
  split
  · simp
  · exact some

theorem LinkKept.offerAll (ts : List Ticket) (s : State) : LinkKept s (offerAll ts s) := by
  induction ts generalizing s with
  | nil => exact .of_link rfl
  | cons t ts ih =>
    unfold Machine.offerAll
    split
    · exact (LinkKept.offerRetired t s).trans (ih _)
    · exact .of_link rfl

theorem LinkKept.retire (t : Ticket) (o : BookOutcome) (e : Option Reason) (s : State) : LinkKept s (retire t o e s) :=
  (LinkKept.offerAll _ (enterRetiring t o e s)).before (by simp)

theorem Act.linkKept {s u : State} (act : Act b s u) : LinkKept s u := by
  cases act with
  | notice => exact .produce _ _
  | retire => exact .retire _ _ _ _
  | send => exact .of_link (by simp)
  | edit => exact .of_link (by simp)
  | resolve => exact .of_link (by simp)
  | _ => exact .of_link rfl

theorem Acts.linkKept {s u : State} (acts : Acts b s u) : LinkKept s u := by
  induction acts with
  | refl => exact .of_link rfl
  | tail _ act ih => exact ih.trans act.linkKept

/-! ### The tables (R15, R19, R42, R173) -/

/-- R34: the Title Request notice of a title miss. -/
theorem missTitle_acts_link (k : TitleKey) (s : State) : LinkKept s (missTitle k s) ∧ (LinkInv s → LinkInv (missTitle k s)) := by
  unfold missTitle
  split
  · exact ⟨.of_link rfl, fun h => h.of_link rfl rfl rfl⟩
  · refine ⟨(LinkKept.produce _ _).before rfl, fun h => LinkInv.produce ?_ _⟩
    exact h.of_link rfl rfl rfl

theorem LinkInv.addRecord {s : State} (h : LinkInv s) (r : BookRecord) : LinkInv (addRecord r s) := by
  refine ⟨h.places, h.room, h.attn, h.waits, fun t ht => ?_⟩
  have := findRecord_isSome.1 (h.owed t ht)
  rw [findRecord_isSome, addRecord_records, List.map_append]
  exact List.mem_append_left _ this

theorem table_link {s u : State} (served : ServesTable s u) : LinkKept s u ∧ (LinkInv s → LinkInv u) := by
  cases served with
  | admitted t k override oneOff =>
    unfold admitRecord
    split
    · exact ⟨.of_link rfl, fun h => h.addRecord _⟩
    · split
      · exact ⟨.of_link (by simp [addRecord]), fun h =>
          (h.addRecord (newRecord t k override none true)).of_link (by simp) (by simp) (by simp)⟩
      · obtain ⟨kept, inv⟩ := missTitle_acts_link k (addRecord (newRecord t k override none false) s)
        exact ⟨kept.before rfl, fun h => inv (h.addRecord _)⟩
  | attached t r p =>
    let w := stopWaiting r.key (putRecord { r with source := .oneOff, oneOff := some p, resolved := true } s)
    have acts : Acts false w (attachRecord r p s) := (announceResolved_acts _ _).trans (settleLine_acts _)
    refine ⟨acts.linkKept.before (by simp [w]), fun h => LinkInv.acts ?_ acts⟩
    exact h.of_link (by simp [w]) (by simp [w]) ((congrArg _ (by simp [w])).trans
      (putRecord_tickets { r with source := .oneOff, oneOff := some p, resolved := true } s))
  | updated => exact ⟨.of_link (by simp [updateTitle]), fun h => h.of_link (by simp [updateTitle]) (by simp [updateTitle]) (by simp [updateTitle])⟩
  | installed k p w =>
    let v := changeSet k (fun ts => ts.put w (installedEntry k p)) s
    have acts := resolveWaiting_acts (b := false) (titleWay_installed k p w s)
    have settled : Acts false (changeSet k (·.use w) (resolveWaiting k v)) (installTitle k p w s) := settleLine_acts _
    refine ⟨(acts.linkKept.before (by simp)).trans (settled.linkKept.before (by simp [v])), fun h => ?_⟩
    · have opened : LinkInv { v with pendingTitles := v.pendingTitles.filter fun p => !(p.key == k) } :=
        h.of_link (by simp [v]) (by simp [v]) (by simp [v])
      exact ((opened.acts acts).of_link (by simp [v]) (by simp [v]) (by simp [v])).acts settled
  | dropped => exact ⟨.of_link (by simp), fun h => h.of_link (by simp) (by simp) (by simp)⟩
  | parameter number value =>
    let v : State := { s with params := s.params.write number value }
    have acts : Acts false v (parameterEffect number v) := parameterEffect_acts number v
    have written (h : LinkInv s) : LinkInv v := h.of_link rfl rfl rfl
    exact ⟨acts.linkKept.before rfl, fun h => (written h).acts acts⟩
  | clear =>
    let v := retireAll (clearedLine s)
    have line : Acts false s (clearedLine s) := clearedLine_acts s
    have last : Acts false (emptyPlaces v) (clearWhole s) := (recomputeDemand_acts _).trans (idleRefresh_acts _)
    have entered (ts : List Ticket) (x : State) :
        (ts.foldl (fun s t => enterRetiring t .cleared none s) x).link = x.link := by
      induction ts generalizing x with
      | nil => rfl
      | cons t ts ih => rw [List.foldl_cons, ih]; simp
    have offered : LinkKept (clearedLine s) v := (LinkKept.offerAll _ _).before (entered _ _)
    have emptied : LinkKept (clearedLine s) (emptyPlaces v) := offered.after (by simp)
    refine ⟨line.linkKept.trans (emptied.trans last.linkKept), fun h => LinkInv.acts ?_ last⟩
    · have retired : LinkInv v := ((h.acts line).offer.enterEach _ _ _).offerAll fun _ => id
      exact retired.of_link (by simp) (by simp) (by simp)

/-! ### Frames taken (R175 to R179) -/

/-- What a word that arrives on the link may change: it adds at most a request that finds a place, or a refusal. -/
structure WordTaken (s u : State) : Prop where
  places : s.link.requests.length + s.link.answers.length ≤ 8 → u.link.requests.length + u.link.answers.length ≤ 8
  answers : u.link.answers = s.link.answers
  refusal : s.link.refusal.isSome = true → u.link.refusal.isSome = true
  sending : u.link.sending = s.link.sending
  notices : u.link.notices = s.link.notices
  held : u.link.held = s.link.held
  attn : u.link.attn = s.link.attn

theorem WordTaken.trans {s u v : State} (h : WordTaken s u) (h' : WordTaken u v) : WordTaken s v :=
  ⟨h'.places ∘ h.places, h'.answers.trans h.answers, h'.refusal ∘ h.refusal, h'.sending.trans h.sending,
    h'.notices.trans h.notices, h'.held.trans h.held, h'.attn.trans h.attn⟩

theorem WordTaken.rfl {s : State} : WordTaken s s := ⟨id, Eq.refl _, id, Eq.refl _, Eq.refl _, Eq.refl _, Eq.refl _⟩

theorem refuseFrame_taken (kind : Nat) (st : Status) (n : Word) (s : State) : WordTaken s (refuseFrame kind st n s) := by
  unfold refuseFrame
  split
  · exact ⟨id, rfl, fun _ => rfl, rfl, rfl, rfl, rfl⟩
  · exact ⟨id, rfl, id, rfl, rfl, rfl, rfl⟩

theorem checkFrame_taken (ws : List Word) (n : Word) (s : State) : WordTaken s (checkFrame ws n s) := by
  unfold checkFrame
  dsimp only
  split
  · exact refuseFrame_taken _ _ _ _
  split
  · exact refuseFrame_taken _ _ _ _
  split
  · next room =>
    refine ⟨fun _ => ?_, rfl, id, rfl, rfl, rfl, rfl⟩
    simp only [Config.answerPlaces] at room
    simp only [List.length_append, List.length_singleton]
    omega
  · exact refuseFrame_taken _ _ _ _

/-- R175: a frame taken out of assembly keeps what its check keeps. -/
theorem takeArrival_taken {f : Word → State → State} (taken : ∀ n s, WordTaken s (f n s)) (s : State) :
    WordTaken s (takeArrival f { s with link := { s.link with assembly := [] } }) :=
  WordTaken.trans
    (u := { s with link := { s.link with assembly := [], nextArrival := s.link.nextArrival + 1 } })
    ⟨id, rfl, id, rfl, rfl, rfl, rfl⟩ (taken _ _)

theorem assembly_taken (ws : List Word) (s : State) : WordTaken s { s with link := { s.link with assembly := ws } } :=
  ⟨id, rfl, id, rfl, rfl, rfl, rfl⟩

theorem takeWord_taken (s : State) (w : LinkWord) : WordTaken s (takeWord s w) := by
  unfold takeWord
  split
  · have cut : WordTaken s (cutShort s) := by
      unfold cutShort
      split
      · exact .rfl
      · exact takeArrival_taken (fun _ _ => refuseFrame_taken _ _ _ _) s
    refine cut.trans ?_
    unfold beginFrame
    dsimp only
    split
    · exact takeArrival_taken (fun _ _ => refuseFrame_taken _ _ _ _) _
    split
    · exact takeArrival_taken (fun _ _ => checkFrame_taken _ _ _) _
    · exact assembly_taken _ _
  · unfold continueFrame
    split
    · exact .rfl
    dsimp only
    split
    · exact assembly_taken _ _
    · exact takeArrival_taken (fun _ _ => checkFrame_taken _ _ _) _

theorem takeWords_taken (ws : List LinkWord) (s : State) : WordTaken s (ws.foldl takeWord s) := by
  induction ws generalizing s with
  | nil => exact .rfl
  | cons w ws ih => exact (takeWord_taken s w).trans (ih _)

/-! ### The events -/

/-- R185: the notice at the head leaves, and what waited takes its place. -/
theorem LinkInv.noticeOut {s : State} (h : LinkInv s) {e : NoticeEntry} {rest : List NoticeEntry} (head : s.link.notices = e :: rest) :
    LinkInv (noticeOut rest s) := by
  have room := h.room
  rw [head, List.length_cons] at room
  have full (waits : noticeWaits s = true) : rest.length = 31 := by
    have := h.waits waits
    rw [head, List.length_cons] at this
    omega
  unfold Machine.noticeOut Machine.refillNotices
  dsimp only
  split
  · next t ts order =>
    have owed := h.owed t (by rw [order]; exact List.mem_cons_self ..)
    obtain ⟨r, found⟩ := Option.isSome_iff_exists.1 owed
    have found : findRecord t { s with link := { s.link with notices := rest } } = some r := found
    have len := full (noticeWaits_iff.2 (.inl (by rw [order]; exact List.cons_ne_nil _ _)))
    rw [offerRetired_found found]
    refine ⟨?_, ?_, rfl, fun _ => ?_, ?_⟩
    · simpa using h.places
    · simp [len]
    · simp [len]
    · exact freeRecord_owed (s := enqueueNotice _ _) h.owed
  · next order =>
    split
    · next e' held taken =>
      have any : s.link.held.any = true := by
        by_contra none
        rw [Held.take_eq_none.2 (by simpa using none)] at taken
        cases taken
      have len := full (noticeWaits_iff.2 (.inr any))
      refine ⟨h.places, ?_, rfl, fun _ => ?_, h.owed⟩
      · simp [len]
      · simp [len]
    · next none =>
      refine ⟨h.places, by simpa using by omega, rfl, fun waits => ?_, h.owed⟩
      rw [noticeWaits_iff] at waits
      rcases waits with some | any
      · exact absurd order some
      · rw [Held.take_eq_none.1 none] at any
        cases any

theorem LinkInv.event {s u : State} (h : LinkInv s) (event : Event true s u) : LinkInv u := by
  cases event with
  | driveStop => exact h.of_link rfl rfl rfl
  | port => exact h.of_link rfl rfl rfl
  | words ws =>
    have taken := takeWords_taken ws s
    obtain ⟨records, retiring, -⟩ := takeWords_frame ws s
    exact h.congr (taken.places h.places) taken.notices taken.held taken.attn retiring (by rw [records])
  | refusalSent => exact h.congr h.places rfl rfl rfl rfl rfl
  | answerSent a rest _ oldest =>
    have places := h.places
    rw [oldest, List.length_cons] at places
    refine h.congr ?_ rfl rfl rfl rfl rfl
    simp only [frameOut]
    omega
  | noticeSent e rest ws _ head =>
    have out : LinkInv (frameOut ws s) := h.congr h.places rfl rfl rfl rfl rfl
    exact out.noticeOut head
  | request q rest hd _ head served =>
    have places := h.places
    rw [head, List.length_cons] at places
    have dequeued : LinkInv { s with link := { s.link with requests := rest } } := by
      refine h.congr ?_ rfl rfl rfl rfl rfl
      simp only
      omega
    have handled : LinkKept { s with link := { s.link with requests := rest } } hd.state ∧ LinkInv hd.state := by
      rcases served.acts_or_table with acts | table
      · exact ⟨acts.linkKept, dequeued.acts acts⟩
      · exact ⟨(table_link table).1, (table_link table).2 dequeued⟩
    obtain ⟨kept, inv⟩ := handled
    refine inv.congr ?_ rfl rfl rfl rfl rfl
    simp only [fillAnswer, List.length_append, List.length_singleton, kept.requests, kept.answers]
    omega
  | report reported => exact h.acts reported.acts

/-- R181: the frames that may be under way are of those that wait. -/
structure SendingInv (s : State) : Prop where
  refusal : s.link.sending.refusal = true → s.link.refusal.isSome = true
  answer : s.link.sending.answer = true → s.link.answers ≠ []
  notice : s.link.sending.notice = true → s.link.notices ≠ []

theorem ArbiterInv.sending {s : State} (h : ArbiterInv s) : SendingInv s := ⟨h.refusal, h.answer, h.notice⟩

theorem SendingInv.of_idle {s : State} (h : s.link.sending = .idle) : SendingInv s := by
  constructor <;> rw [h] <;> exact nofun

theorem SendingInv.kept {s u : State} (h : SendingInv s) (kept : LinkKept s u) : SendingInv u := by
  refine ⟨?_, ?_, ?_⟩ <;> rw [kept.sending]
  · rw [kept.refusal]; exact h.refusal
  · rw [kept.answers]; exact h.answer
  · exact kept.notices ∘ h.notice

theorem SendingInv.event {s u : State} (h : SendingInv s) (event : Event true s u) : SendingInv u := by
  cases event with
  | driveStop => exact ⟨h.refusal, h.answer, h.notice⟩
  | port => exact ⟨h.refusal, h.answer, h.notice⟩
  | words ws =>
    have taken := takeWords_taken ws s
    refine ⟨?_, ?_, ?_⟩ <;> rw [taken.sending]
    · exact taken.refusal ∘ h.refusal
    · rw [taken.answers]; exact h.answer
    · rw [taken.notices]; exact h.notice
  | refusalSent => exact .of_idle rfl
  | answerSent => exact .of_idle rfl
  | noticeSent e rest ws =>
    refine .of_idle ?_
    unfold noticeOut refillNotices
    dsimp only
    split
    · simp
    · split <;> simp [enqueueNotice]
  | request q rest hd _ _ served =>
    have dequeued : SendingInv { s with link := { s.link with requests := rest } } := ⟨h.refusal, h.answer, h.notice⟩
    have handled : SendingInv hd.state := by
      rcases served.acts_or_table with acts | table
      · exact dequeued.kept acts.linkKept
      · exact dequeued.kept (table_link table).1
    exact ⟨handled.refusal, fun _ => by simp [fillAnswer], handled.notice⟩
  | report reported => exact h.kept reported.acts.linkKept

/-- R181: noting the frame that may begin makes the arbiter send when something waits. -/
theorem SendingInv.noted {s : State} (h : SendingInv s) : ArbiterInv (noteSending s) := by
  have refusal := h.refusal
  have answer := h.answer
  have notice := h.notice
  have idle := noteSending_dataOut s
  refine ⟨?_, ?_, ?_, ?_, by simpa using idle⟩
  all_goals
    unfold noteSending
    repeat' split
    all_goals simp_all

/-- Settles O55: the acts and the events keep the queues and what is being sent; noting the frame that may begin does the rest. -/
theorem linkInvariantIsKept : Obligations.LinkInvariantIsKept := by
  intro s t stepped
  constructor
  · refine step_keeps (P := LinkInv) ?_ ?_ ?_ ?_ stepped
    · exact fun _ h => h.of_link rfl rfl rfl
    · exact fun _ _ => ⟨Nat.zero_le _, Nat.zero_le _, rfl, nofun, nofun⟩
    · exact fun _ _ h => h.of_link rfl rfl rfl
    · intro u v h happens
      have := h.event happens
      exact this.congr (by simpa using this.places) (by simp) (by simp) (by simp) (by simp) (by simp)
  · refine step_keeps (P := ArbiterInv) ?_ ?_ ?_ ?_ stepped
    · exact fun _ h => ⟨h.refusal, h.answer, h.notice, h.sends, h.idle⟩
    · exact fun _ _ => ⟨nofun, nofun, nofun, by simp [State.reset, Link.resetValue], rfl⟩
    · exact fun _ _ h => ⟨h.refusal, h.answer, h.notice, h.sends, h.idle⟩
    · exact fun _ _ h happens => (h.sending.event happens).noted

end Sys2Proof.Machine
end

section
/-! The lanes, the tracks, the jacketer and the pace (chapters 3, 4, 6, 7): every step keeps their bounds. -/

namespace Sys2Proof.Machine

/-! ### What no table, no frame and no answer changes -/

/-- Lanes, tracks, press, jacketer, pace and parameters are as they were. -/
structure SameMachine (s u : State) : Prop where
  lanes : u.lanes = s.lanes
  tracks : u.tracks = s.tracks
  press : u.press = s.press
  jackets : u.jackets = s.jackets
  pace : u.pace = s.pace
  params : u.params = s.params

/-- An invariant of the machine that the acts, a written parameter and the clearing of the places keep is kept by every event. -/
theorem machine_keeps {P : State → Prop} (same : ∀ s u, SameMachine s u → P s → P u) (acts : ∀ s u, Acts false s u → P s → P u)
    (parameter : ∀ number value s, parameterOk s.params number value = true → P s →
      P (parameterEffect number { s with params := s.params.write number value }))
    (clears : ∀ s u, u.jackets = s.jackets → u.pace = s.pace → u.params = s.params → P s → P (emptyPlaces u))
    {s u : State} (event : Event true s u) (h : P s) : P u := by
  have table {s u : State} (served : ServesTable s u) (h : P s) : P u := by
    cases served with
    | admitted => exact same _ _ (by constructor <;> simp) h
    | attached t r p =>
      have put := same s (stopWaiting r.key (putRecord { r with source := .oneOff, oneOff := some p, resolved := true } s))
        (by constructor <;> simp) h
      exact acts _ _ ((announceResolved_acts _ _).trans (settleLine_acts _)) put
    | updated => exact same _ _ (by constructor <;> simp) h
    | installed k p w =>
      let v := changeSet k (fun ts => ts.put w (installedEntry k p)) s
      have put := same s { v with pendingTitles := v.pendingTitles.filter fun p => !(p.key == k) }
        (by constructor <;> simp [v]) h
      have resolved := acts _ _ (resolveWaiting_acts (titleWay_installed k p w s)) put
      have used := same _ (changeSet k (·.use w) (resolveWaiting k v)) (by constructor <;> simp [v]) resolved
      exact acts _ _ (settleLine_acts _) used
    | dropped => exact same _ _ (by constructor <;> simp) h
    | parameter number value _ ok => exact parameter _ _ _ ok h
    | clear =>
      have cleared := acts _ _ (clearedLine_acts s) h
      have emptied := clears _ (retireAll (clearedLine s)) (by simp) (by simp) (by simp) cleared
      exact acts _ _ ((recomputeDemand_acts _).trans (idleRefresh_acts _)) emptied
  cases event with
  | words ws =>
    obtain ⟨-, -, -, -, tracks, -, lanes, -, press, pace, jackets, params⟩ := takeWords_frame ws s
    exact same _ _ ⟨lanes, tracks, press, jackets, pace, params⟩ h
  | noticeSent => exact same _ _ (by constructor <;> simp) h
  | request q rest hd _ _ served =>
    have dequeued := same s { s with link := { s.link with requests := rest } } (by constructor <;> rfl) h
    have handled : P hd.state := by
      rcases served.acts_or_table with run | special
      · exact acts _ _ run dequeued
      · exact table special dequeued
    exact same _ _ (by constructor <;> rfl) handled
  | report reported => exact acts _ _ reported.acts h
  | _ => exact same _ _ (by constructor <;> rfl) h

/-! ### The lanes (R72, R84) -/

theorem LaneInv.congr {s u : State} (h : LaneInv s) (lanes : u.lanes = s.lanes) : LaneInv u := by
  constructor <;> rw [lanes]
  · exact h.counts
  · exact h.apart
  · exact h.initial

theorem LaneInv.acts {b : Bool} {s u : State} (h : LaneInv s) (acts : Acts b s u) : LaneInv u := by
  induction acts with
  | refl => exact h
  | tail _ act ih =>
    cases act with
    | lanes _ _ keeps => exact keeps ih
    | send => exact ih.congr (by simp)
    | notice => exact ih.congr (by simp)
    | edit => exact ih.congr (by simp)
    | retire => exact ih.congr (by simp)
    | resolve => exact ih.congr (by simp)
    | _ => exact ih.congr rfl

theorem LaneInv.of_unknown {s : State} (h : s.lanes = ⟨.unknown, .unknown⟩) : LaneInv s := by
  have get (l : LaneId) : s.lanes.get l = .unknown := by rw [h]; cases l <;> rfl
  refine ⟨fun l k n e => ?_, fun k e => ?_, fun l k n e => ?_⟩
  · rw [get] at e; cases e
  · rw [h] at e; cases e
  · rw [get] at e; cases e

@[simp] theorem Lane.holds_tick (x : Lane) (k : TitleKey) : x.tick.holds k = x.holds k := by
  cases x <;> simp [Lane.tick]

theorem LaneInv.tick {s : State} (h : LaneInv s) : LaneInv (tick s) := by
  have lanes : (Machine.tick s).lanes = ⟨s.lanes.a.tick, s.lanes.b.tick⟩ := rfl
  have get (l : LaneId) : (Machine.tick s).lanes.get l = (s.lanes.get l).tick := by cases l <;> rfl
  refine ⟨fun l k n e => ?_, fun k e => ?_, fun l k n e => ?_⟩
  · rw [get] at e
    refine h.counts l k n ?_
    cases x : s.lanes.get l <;> rw [x] at e <;> first | exact e | cases e
  · rw [lanes, Lane.holds_tick] at *
    exact h.apart k e
  · rw [get] at e
    cases x : s.lanes.get l with
    | purging kind carried left =>
      rw [x] at e
      cases e
      exact h.initial l k left x
    | _ => rw [x] at e; cases e

theorem LaneInv.step {s t : State} (h : LaneInv s) (stepped : step s = .next t) : LaneInv t := by
  refine step_keeps (P := LaneInv) (fun _ h => h.tick) (fun _ _ => .of_unknown rfl) (fun _ _ h => h.congr rfl) ?_ stepped h
  intro u v h event
  have kept : LaneInv v := machine_keeps (fun _ _ same h => h.congr same.lanes) (fun _ _ run h => h.acts run)
    (fun number value s _ h => (h.congr (u := { s with params := s.params.write number value }) rfl).acts (parameterEffect_acts (b := false) number _))
    (fun _ _ _ _ _ _ => .of_unknown rfl) event h
  exact kept.congr (by simp)

/-! ### The tracks (R51, R53) -/

theorem TrackInv.congr {s u : State} (h : TrackInv s) (tracks : u.tracks = s.tracks) (press : u.press = s.press)
    (jackets : u.jackets = s.jackets) : TrackInv u := by
  constructor <;> rw [tracks]
  · exact h.infeed
  · exact h.jacket
  · exact h.delivery
  · rw [press]; exact h.exit
  · rw [jackets]; exact h.handOver

theorem dropTicket_none {t : Ticket} {o : Option Ticket} (h : o = none) : dropTicket t o = none := by
  simp [dropTicket, h]

/-- R8: what the retirement of a live record does to the places, and to what names its ticket. -/
theorem retire_places {t : Ticket} {r : BookRecord} {s : State} (live : liveRecord t s = some r) (o : BookOutcome)
    (e : Option Reason) :
    (retire t o e s).tracks = (forgetTicket t (vacate t s)).tracks ∧ (retire t o e s).readers = (forgetTicket t s).readers ∧
      (retire t o e s).press = { s.press with positions := s.press.positions.drop t } := by
  obtain ⟨-, -, -, tracks, readers, press⟩ := enterRetiring_live live o e
  simp [retire, tracks, readers, press]

theorem retire_absent {t : Ticket} {s : State} (live : liveRecord t s = none) (o : BookOutcome) (e : Option Reason) :
    retire t o e s = offerAll s.retiring s := by
  simp only [retire, enterRetiring_absent live]

theorem TrackInv.retire {s : State} (h : TrackInv s) (t : Ticket) (o : BookOutcome) (e : Option Reason) :
    TrackInv (retire t o e s) := by
  cases live : liveRecord t s with
  | none =>
    rw [retire_absent live]
    exact h.congr (by simp) (by simp) (by simp)
  | some r =>
    obtain ⟨tracks, -, press⟩ := retire_places live o e
    have jackets : (Machine.retire t o e s).jackets = s.jackets := by simp
    have shorter : (s.tracks.jacket.filter (fun x => !(x == t))).length ≤ s.tracks.jacket.length := List.length_filter_le _ _
    have fewer : (s.tracks.delivery.filter (fun x => !(x == t))).length ≤ s.tracks.delivery.length := List.length_filter_le _ _
    constructor
    · rw [tracks]; exact (List.length_filter_le _ _).trans h.infeed
    · rw [tracks]; exact shorter.trans h.jacket
    · rw [tracks]; exact fewer.trans h.delivery
    · rw [tracks, press]
      exact fun moving => (h.exit moving).imp dropTicket_none shorter.trans_lt
    · rw [tracks, jackets]
      exact fun busy => fewer.trans_lt (h.handOver busy)

theorem TrackInv.acts {b : Bool} {s u : State} (h : TrackInv s) (acts : Acts b s u) : TrackInv u := by
  induction acts with
  | refl => exact h
  | tail _ act ih =>
    cases act with
    | place _ _ _ _ tracks => exact tracks ih
    | retire => exact ih.retire _ _ _
    | send => exact ih.congr (by simp) (by simp) (by simp)
    | notice => exact ih.congr (by simp) (by simp) (by simp)
    | edit => exact ih.congr (by simp) (by simp) (by simp)
    | resolve => exact ih.congr (by simp) (by simp) (by simp)
    | demand => exact ⟨ih.infeed, ih.jacket, ih.delivery, ih.exit, ih.handOver⟩
    | _ => exact ih.congr rfl rfl rfl

theorem TrackInv.of_empty {s : State} (tracks : s.tracks = .resetValue) (free : s.jackets.state = .free) : TrackInv s := by
  constructor <;> simp [tracks, free, Tracks.resetValue]

theorem TrackInv.step {s t : State} (h : TrackInv s) (stepped : step s = .next t) : TrackInv t := by
  refine step_keeps (P := TrackInv) (fun _ h => ⟨h.infeed, h.jacket, h.delivery, h.exit, h.handOver⟩) (fun _ _ => .of_empty rfl rfl)
    (fun _ _ h => h.congr rfl rfl rfl) ?_ stepped h
  intro u v h event
  have kept : TrackInv v := machine_keeps (fun _ _ same h => h.congr same.tracks same.press same.jackets)
    (fun _ _ run h => h.acts run)
    (fun number value s _ h => (h.congr (u := { s with params := s.params.write number value }) rfl rfl rfl).acts (parameterEffect_acts (b := false) number _))
    (fun _ _ _ _ _ _ => .of_empty rfl rfl) event h
  exact kept.congr (by simp) (by simp) (by simp)

/-! ### The jacketer (R139, R146, R147) -/

theorem JacketInv.congr {s u : State} (h : JacketInv s) (jackets : u.jackets = s.jackets) : JacketInv u := by
  constructor <;> rw [jackets]
  · exact h.keys
  · exact h.count
  · exact h.bypass

theorem JacketInv.acts {b : Bool} {s u : State} (h : JacketInv s) (acts : Acts b s u) : JacketInv u := by
  induction acts with
  | refl => exact h
  | tail _ act ih =>
    cases act with
    | place _ _ _ _ _ jackets => exact jackets ih
    | retire => exact ih.congr (by simp)
    | send => exact ih.congr (by simp)
    | notice => exact ih.congr (by simp)
    | edit => exact ih.congr (by simp)
    | resolve => exact ih.congr (by simp)
    | _ => exact ih.congr rfl

theorem JacketInv.step {s t : State} (h : JacketInv s) (stepped : step s = .next t) : JacketInv t := by
  refine step_keeps (P := JacketInv) (fun _ h => h.congr rfl)
    (fun _ _ => ⟨Nat.zero_le _, Nat.zero_le _, fun _ => Nat.zero_lt_succ _⟩) (fun _ _ h => h.congr rfl) ?_ stepped h
  intro u v h event
  have kept : JacketInv v := machine_keeps (fun _ _ same h => h.congr same.jackets) (fun _ _ run h => h.acts run)
    (fun number value s _ h => (h.congr (u := { s with params := s.params.write number value }) rfl).acts (parameterEffect_acts (b := false) number _))
    (fun _ _ jackets _ _ h => ⟨Nat.zero_le _, by simpa [emptyPlaces, jackets] using h.count,
      by simpa [emptyPlaces, jackets] using h.bypass⟩) event h
  exact kept.congr (by simp)

/-! ### The pace (R129, R135, R189) -/

theorem PaceInv.congr {s u : State} (h : PaceInv s) (pace : u.pace = s.pace) (params : u.params = s.params) : PaceInv u := by
  constructor <;> rw [params]
  · exact h.ranges
  · exact h.limits
  · rw [pace]; exact h.pitch

theorem PaceInv.acts {b : Bool} {s u : State} (h : PaceInv s) (acts : Acts b s u) : PaceInv u := by
  induction acts with
  | refl => exact h
  | tail _ act ih =>
    cases act with
    | pace _ _ keeps => exact keeps ih
    | retire => exact ih.congr (by simp) (by simp)
    | send => exact ih.congr (by simp) (by simp)
    | notice => exact ih.congr (by simp) (by simp)
    | edit => exact ih.congr (by simp) (by simp)
    | resolve => exact ih.congr (by simp) (by simp)
    | _ => exact ih.congr rfl rfl

/-- R129: a recompute brings the commanded pitch between P_min and P_max. -/
theorem recomputePitch_bounds {s : State} (h : s.params.pMin ≤ s.params.pMax) :
    s.params.pMin ≤ (recomputePitch s).pace.commanded ∧ (recomputePitch s).pace.commanded ≤ s.params.pMax := by
  have target := targetPitch_bounds h
  by_cases moves : pitchMoves s.params s.pace.commanded (targetPitch s) = true ∧ targetPitch s ≠ s.pace.commanded
  · rw [recomputePitch_moves moves.1 moves.2]
    simpa using target
  · rw [not_and_or, Bool.not_eq_true, not_not] at moves
    rw [recomputePitch_stays moves]
    show s.params.pMin ≤ s.pace.commanded ∧ s.pace.commanded ≤ s.params.pMax
    rcases moves with stays | same
    · simp only [pitchMoves, Bool.or_eq_false_iff, decide_eq_false_iff_not] at stays
      omega
    · rwa [← same]

/-- R188, R189: an accepted parameter keeps every range, and P_min from passing P_max. -/
theorem PaceInv.write {s : State} (h : PaceInv s) {number value : Nat} (ok : parameterOk s.params number value = true) :
    (∀ n lo hi, parameterRange n = some (lo, hi) →
      lo ≤ (s.params.write number value).value n ∧ (s.params.write number value).value n ≤ hi) ∧
    (s.params.write number value).pMin ≤ (s.params.write number value).pMax := by
  cases known : parameterRange number with
  | none => rw [parameterOk_unknown known] at ok; cases ok
  | some range =>
    obtain ⟨lo, hi⟩ := range
    obtain ⟨least, most, pMin, pMax⟩ := (parameterOk_iff known s.params value).1 ok
    have same := Params.value_write_same known s.params value
    have other {m : Nat} (ne : m ≠ number) := Params.value_write_other ne s.params value
    constructor
    · intro n lo' hi' range
      by_cases e : n = number
      · subst e
        rw [known] at range
        cases range
        rw [same]
        exact ⟨least, most⟩
      · rw [other e]
        exact h.ranges n lo' hi' range
    · show (s.params.write number value).value 16 ≤ (s.params.write number value).value 17
      have limits : s.params.value 16 ≤ s.params.value 17 := h.limits
      by_cases e16 : 16 = number
      · rw [other (m := 17) (by omega), e16, same]
        exact pMin e16.symm
      · rw [other e16]
        by_cases e17 : 17 = number
        · rw [e17, same]
          exact pMax e17.symm
        · rw [other e17]
          exact limits

theorem PaceInv.parameter {s : State} (h : PaceInv s) {number value : Nat} (ok : parameterOk s.params number value = true) :
    PaceInv (parameterEffect number { s with params := s.params.write number value }) := by
  obtain ⟨ranges, limits⟩ := h.write ok
  let w : State := { s with params := s.params.write number value }
  have recomputed : PaceInv (recomputePitch w) :=
    ⟨by simpa [w] using ranges, by simpa [w] using limits, by simpa [w] using recomputePitch_bounds (s := w) limits⟩
  have demanded : PaceInv (recomputeDemand w) := by
    let d : State := { w with press := { w.press with pd := pressDemand w } }
    have pitch := recomputePitch_bounds (s := d) limits
    refine ⟨by simpa [w] using ranges, by simpa [w] using limits, ?_⟩
    have same : (recomputeDemand w).params = s.params.write number value := by simp [w]
    rw [same]
    exact pitch
  have kept (h16 : number ≠ 16) (h17 : number ≠ 17) : PaceInv w := by
    refine ⟨ranges, limits, ?_⟩
    show (s.params.write number value).value 16 ≤ _ ∧ _ ≤ (s.params.write number value).value 17
    rw [Params.value_write_other h16.symm, Params.value_write_other h17.symm]
    exact h.pitch
  unfold parameterEffect
  split
  · exact demanded
  · exact demanded
  · exact (kept (by decide) (by decide)).congr rfl rfl
  · exact recomputed
  · exact recomputed
  · exact recomputed
  · next h16 h17 _ => exact kept h16 h17

theorem PaceInv.reset (rest : List Instr) (n : Nat) : PaceInv { State.reset with pending := rest, openChoices := n } where
  ranges number lo hi h := by
    show lo ≤ Params.resetValue.value number ∧ Params.resetValue.value number ≤ hi
    unfold parameterRange at h
    split at h <;> cases h
    all_goals exact ⟨by decide, by decide⟩
  limits := by show (1000 : Nat) ≤ 6000; decide
  pitch := by show (1000 : Nat) ≤ 6000 ∧ (6000 : Nat) ≤ 6000; decide

theorem PaceInv.step {s t : State} (h : PaceInv s) (stepped : step s = .next t) : PaceInv t := by
  refine step_keeps (P := PaceInv) (fun _ h => h.congr rfl rfl) PaceInv.reset (fun _ _ h => h.congr rfl rfl) ?_ stepped h
  intro u v h event
  have kept : PaceInv v := machine_keeps (fun _ _ same h => h.congr same.pace same.params) (fun _ _ run h => h.acts run)
    (fun _ _ _ ok h => h.parameter ok)
    (fun _ _ _ pace params h => h.congr (by simpa using pace) (by simpa using params)) event h
  exact kept.congr (by simp) (by simp)

/-- Settles O58: each of the four invariants is kept by the acts, by a written parameter and by Clear Line. -/
theorem lanesAndBoundsAreKept : Obligations.LanesAndBoundsAreKept :=
  ⟨fun _ _ h stepped => h.step stepped,
    fun _ _ stepped => ⟨fun h => h.step stepped, fun h => h.step stepped, fun h => h.step stepped⟩⟩

end Sys2Proof.Machine
end

section
/-! The Title Table and the Pending Title List (chapter 2): every step keeps their counts those of the records that rely on them. -/

namespace Sys2Proof.Machine

variable {b : Bool}

/-! ### Counting records (R1) -/

/-- A table with the record `r` splits there, and no other record has its ticket. -/
theorem records_split {l : List BookRecord} (nodup : (l.map (·.ticket)).Nodup) {r : BookRecord} (mem : r ∈ l) :
    ∃ pre post, l = pre ++ r :: post ∧ (∀ x ∈ pre, x.ticket ≠ r.ticket) ∧ ∀ x ∈ post, x.ticket ≠ r.ticket := by
  obtain ⟨pre, post, rfl⟩ := List.append_of_mem mem
  refine ⟨pre, post, rfl, ?_, ?_⟩
  all_goals
    intro x hx e
    simp only [List.map_append, List.map_cons, List.nodup_append, List.nodup_cons, List.mem_map, List.mem_cons] at nodup
    grind

/-- A record put in the place of another changes a count by the two of them. -/
theorem countP_putRecord {s : State} (nodup : (s.records.map (·.ticket)).Nodup) {r0 r : BookRecord} (mem : r0 ∈ s.records)
    (ticket : r.ticket = r0.ticket) (p : BookRecord → Bool) :
    (putRecord r s).records.countP p + (if p r0 then 1 else 0) = s.records.countP p + if p r then 1 else 0 := by
  obtain ⟨pre, post, split, before, behind⟩ := records_split nodup mem
  have same {l : List BookRecord} (h : ∀ x ∈ l, x.ticket ≠ r0.ticket) :
      l.map (fun x => if x.ticket = r.ticket then r else x) = l := by
    refine (List.map_congr_left fun x hx => ?_).trans (List.map_id l)
    rw [if_neg (ticket ▸ h x hx)]
    rfl
  rw [putRecord_records, split, List.map_append, List.map_cons, same before, same behind, if_pos ticket.symm]
  simp only [List.countP_append, List.countP_cons]
  omega

/-- A record taken out of the table changes a count by itself. -/
theorem countP_without {l : List BookRecord} (nodup : (l.map (·.ticket)).Nodup) {r : BookRecord} (mem : r ∈ l)
    (p : BookRecord → Bool) :
    (l.filter fun x => !(x.ticket == r.ticket)).countP p + (if p r then 1 else 0) = l.countP p := by
  obtain ⟨pre, post, rfl, before, behind⟩ := records_split nodup mem
  have same {l : List BookRecord} (h : ∀ x ∈ l, x.ticket ≠ r.ticket) : l.filter (fun x => !(x.ticket == r.ticket)) = l :=
    List.filter_eq_self.2 fun x hx => by simpa using h x hx
  rw [List.filter_append, List.filter_cons, same before, same behind]
  simp only [beq_self_eq_true, Bool.not_true, Bool.false_eq_true, if_false, List.countP_append, List.countP_cons]
  omega

/-- The number of records that rely on the entry of `k` (R29). -/
def reliance (k : TitleKey) (s : State) : Nat := s.records.countP (pinsKey k)

/-- The number of records that wait on `k` (R33). -/
def waiters (k : TitleKey) (s : State) : Nat := s.records.countP (waitsOn k)

theorem pinsKey_iff {k : TitleKey} {r : BookRecord} : pinsKey k r = true ↔ r.source = .table ∧ r.resolved = true ∧ r.key = k := by
  simp [pinsKey, and_assoc]

theorem waitsOn_iff {k : TitleKey} {r : BookRecord} :
    waitsOn k r = true ↔ r.source = .table ∧ r.key = k ∧ r.resolved = false ∧ r.stage ≠ .retiring := by
  simp [waitsOn, and_assoc]

theorem reliance_pos {k : TitleKey} {s : State} :
    0 < reliance k s ↔ ∃ r ∈ s.records, r.source = .table ∧ r.resolved = true ∧ r.key = k := by
  simp only [reliance, List.countP_pos_iff, pinsKey_iff]

theorem waiters_pos {k : TitleKey} {s : State} : 0 < waiters k s ↔ ∃ r ∈ s.records, waitsOn k r = true := by
  simp only [waiters, List.countP_pos_iff]

/-- R29: every resolved TABLE record finds its entry. -/
theorem relied_iff {s : State} :
    (∀ r ∈ s.records, r.source = .table → r.resolved = true → (titleWay r.key s).isSome = true) ↔
      ∀ k, 0 < reliance k s → (titleWay k s).isSome = true := by
  constructor
  · intro h k pos
    obtain ⟨r, mem, source, resolved, rfl⟩ := reliance_pos.1 pos
    exact h r mem source resolved
  · exact fun h r mem source resolved => h r.key (reliance_pos.2 ⟨r, mem, source, resolved, rfl⟩)

/-! ### The entries of a key (R26, R27) -/

/-- The entry of a set and a way. -/
abbrev entryAt (i : Fin 32) (w : Way) (s : State) : TitleEntry := (s.titles.get i).get w

/-- The table says in which set a key is valid, and in one way only. -/
structure KeyedTable (s : State) : Prop where
  home : ∀ (i : Fin 32) (w : Way), (entryAt i w s).valid = true → setOf (entryAt i w s).key = i
  once : ∀ i : Fin 32, (s.titles.get i).way0.valid = true → (s.titles.get i).way1.valid = true →
    (s.titles.get i).way0.key ≠ (s.titles.get i).way1.key

theorem TitleInv.keyed {s : State} (h : TitleInv s) : KeyedTable s := ⟨h.home, h.once⟩

/-- R27: the way of a key is the one valid entry with that key. -/
theorem KeyedTable.titleWay_iff {s : State} (h : KeyedTable s) {k : TitleKey} {w : Way} :
    titleWay k s = some w ↔ (entryAt (setOf k) w s).valid = true ∧ (entryAt (setOf k) w s).key = k := by
  have once := h.once (setOf k)
  simp only [titleWay, titleSet, TitleSet.wayOf]
  cases w <;> simp only [TitleSet.get] <;> grind

/-- R26: an entry with a key is found under it exactly while it is valid. -/
theorem KeyedTable.valid_isSome {s : State} (h : KeyedTable s) {i : Fin 32} {w : Way} (valid : (entryAt i w s).valid = true) :
    titleWay (entryAt i w s).key s = some w := by
  have home := h.home i w valid
  rw [h.titleWay_iff, home]
  exact ⟨valid, rfl⟩

theorem KeyedTable.congr {s u : State} (h : KeyedTable s)
    (same : ∀ i w, (entryAt i w u).valid = (entryAt i w s).valid ∧ (entryAt i w u).key = (entryAt i w s).key) : KeyedTable u where
  home i w valid := by
    rw [(same i w).1] at valid
    rw [(same i w).2]
    exact h.home i w valid
  once i valid0 valid1 := by
    have same0 := same i .w0
    have same1 := same i .w1
    simp only [entryAt, TitleSet.get] at same0 same1
    rw [same0.1] at valid0
    rw [same1.1] at valid1
    rw [same0.2, same1.2]
    exact h.once i valid0 valid1

/-- R26: a change of a key's entry changes the valid entry with that key, and no other. -/
theorem KeyedTable.changeEntry {s : State} (h : KeyedTable s) (k : TitleKey) (f : TitleEntry → TitleEntry) (i : Fin 32) (w : Way) :
    entryAt i w (changeEntry k f s) =
      if (entryAt i w s).valid = true ∧ (entryAt i w s).key = k then f (entryAt i w s) else entryAt i w s := by
  unfold Machine.changeEntry
  cases way : titleWay k s with
  | none =>
    rw [if_neg]
    rintro ⟨valid, rfl⟩
    rw [h.valid_isSome valid] at way
    cases way
  | some v =>
    obtain ⟨valid, key⟩ := h.titleWay_iff.1 way
    simp only [entryAt, changeSet_get]
    by_cases e : i = setOf k
    · subst e
      rw [if_pos rfl]
      by_cases e : w = v
      · subst e
        rw [TitleSet.get_put_same, if_pos ⟨valid, key⟩]
      · have other : w = v.other := by cases w <;> cases v <;> first | rfl | exact absurd rfl e
        rw [other, TitleSet.get_put_other, if_neg]
        rintro ⟨valid', key'⟩
        have := (h.titleWay_iff (w := v.other)).2 ⟨valid', key'⟩
        rw [way] at this
        cases v <;> cases this
    · rw [if_neg e, if_neg]
      rintro ⟨valid', rfl⟩
      exact e (h.home i w valid').symm

/-! ### The table under changes of its entries and of the records -/

/-- The table as it is, with as many records as before on every entry. -/
theorem TitleInv.congr {s u : State} (h : TitleInv s) (titles : ∀ i w, entryAt i w u = entryAt i w s)
    (counts : ∀ k, reliance k u = reliance k s) : TitleInv u := by
  have keyed : KeyedTable u := h.keyed.congr fun i w => by rw [titles]; exact ⟨rfl, rfl⟩
  refine ⟨keyed.home, keyed.once, fun i w valid => ?_, fun i w invalid => ?_, relied_iff.2 fun k pos => ?_⟩
  · change (entryAt i w u).pin = reliance (entryAt i w u).key u
    rw [counts, titles]
    refine h.pins i w ?_
    change (entryAt i w s).valid = true
    rw [← titles]
    exact valid
  · change (entryAt i w u).pin = 0
    rw [titles]
    refine h.free i w ?_
    change (entryAt i w s).valid = false
    rw [← titles]
    exact invalid
  · rw [counts] at pos
    have same (i : Fin 32) (w : Way) : (entryAt i w u).valid = (entryAt i w s).valid ∧ (entryAt i w u).key = (entryAt i w s).key := by
      rw [titles]; exact ⟨rfl, rfl⟩
    rw [titleWay_congr same]
    exact relied_iff.1 h.relied k pos

/-- What a change of an entry makes of the table is read from the table alone. -/
theorem changeEntry_titles {s u : State} (h : u.titles = s.titles) (k : TitleKey) (f : TitleEntry → TitleEntry) :
    (changeEntry k f u).titles = (changeEntry k f s).titles := by
  unfold changeEntry
  rw [titleWay_of_titles h]
  split
  · simp only [changeSet, titleSet, h]
  · exact h

/-- A change of the entry of one key, with the records that rely on it. -/
theorem TitleInv.changed {s u : State} (h : TitleInv s) {k : TitleKey} {f : TitleEntry → TitleEntry}
    (keeps : ∀ e, (f e).valid = e.valid ∧ (f e).key = e.key) (titles : u.titles = (changeEntry k f s).titles)
    (others : ∀ k', k' ≠ k → reliance k' u = reliance k' s)
    (own : ∀ e : TitleEntry, e.pin = reliance k s → (f e).pin = reliance k u)
    (valid : 0 < reliance k u → (titleWay k s).isSome = true) : TitleInv u := by
  have entry i w : entryAt i w u =
      if (entryAt i w s).valid = true ∧ (entryAt i w s).key = k then f (entryAt i w s) else entryAt i w s := by
    rw [entryAt, titles]
    exact h.keyed.changeEntry k f i w
  have same i w : (entryAt i w u).valid = (entryAt i w s).valid ∧ (entryAt i w u).key = (entryAt i w s).key := by
    rw [entry]
    split
    · exact keeps _
    · exact ⟨rfl, rfl⟩
  have keyed := h.keyed.congr same
  refine ⟨keyed.home, keyed.once, fun i w valid => ?_, fun i w invalid => ?_, relied_iff.2 fun k' pos => ?_⟩
  · change (entryAt i w u).pin = reliance (entryAt i w u).key u
    change (entryAt i w u).valid = true at valid
    rw [(same i w).1] at valid
    have pins : (entryAt i w s).pin = reliance (entryAt i w s).key s := h.pins i w valid
    rw [(same i w).2, entry]
    split
    · next own' =>
      rw [own'.2] at pins ⊢
      exact own _ pins
    · next other => rw [pins, others _ fun e => other ⟨valid, e⟩]
  · change (entryAt i w u).pin = 0
    change (entryAt i w u).valid = false at invalid
    rw [(same i w).1] at invalid
    rw [entry, if_neg fun e => by rw [invalid] at e; cases e.1]
    exact h.free i w invalid
  · rw [titleWay_congr same]
    by_cases e : k' = k
    · subst e
      exact valid pos
    · rw [others k' e] at pos
      exact relied_iff.1 h.relied k' pos

/-! ### Records that leave and records that resolve (R12, R29) -/

theorem reliance_putRecord {s : State} (records : RecordInv s) {r0 r : BookRecord} (live : liveRecord r.ticket s = some r0)
    (k : TitleKey) : reliance k (putRecord r s) + (if pinsKey k r0 then 1 else 0) = reliance k s + if pinsKey k r then 1 else 0 := by
  obtain ⟨mem, ticket, -⟩ := (liveRecord_iff_mem records.tickets).1 live
  exact countP_putRecord records.tickets mem ticket.symm _

/-- A record replaced by one with the same reliance. -/
theorem TitleInv.put {s : State} (records : RecordInv s) (h : TitleInv s) {r0 r : BookRecord}
    (live : liveRecord r.ticket s = some r0) (same : ∀ k, pinsKey k r = pinsKey k r0) : TitleInv (putRecord r s) := by
  refine h.congr (fun _ _ => rfl) fun k => ?_
  have := reliance_putRecord records live k
  rw [same] at this
  omega

theorem TitleInv.enterRetiring {s : State} (records : RecordInv s) (h : TitleInv s) (t : Ticket) (o : BookOutcome)
    (e : Option Reason) : TitleInv (enterRetiring t o e s) := by
  cases live : liveRecord t s with
  | none => rwa [enterRetiring_absent live]
  | some r =>
    have put : TitleInv (putRecord
        { r with stage := .retiring, outcome := some o, reasons := retireReasons o r.flags e, position := none } s) :=
      h.put records (r0 := r) (by rw [findRecord_ticket (liveRecord_iff.1 live).1]; exact live) fun _ => rfl
    refine put.congr (fun i w => by simp [entryAt]) fun k => ?_
    rw [reliance, (enterRetiring_live live o e).1]
    rfl

theorem TitleInv.freeRecord {s : State} (records : RecordInv s) (h : TitleInv s) {r : BookRecord} (mem : r ∈ s.records) :
    TitleInv (freeRecord r s) := by
  have count k : reliance k (Machine.freeRecord r s) + (if pinsKey k r then 1 else 0) = reliance k s := by
    rw [reliance, (freeRecord_records r s).1]
    exact countP_without records.tickets mem _
  by_cases pins : r.source = .table ∧ r.resolved = true
  · have own : pinsKey r.key r = true := pinsKey_iff.2 ⟨pins.1, pins.2, rfl⟩
    refine h.changed (k := r.key) (f := fun e => countOutcome r.outcome { e with pin := e.pin - 1 }) (fun e => ?_) ?_
      (fun k other => ?_) (fun e pin => ?_) fun _ => h.relied r mem pins.1 pins.2
    · obtain ⟨valid, key, -⟩ := countOutcome_keeps r.outcome { e with pin := e.pin - 1 }
      exact ⟨valid, key⟩
    · simp only [Machine.freeRecord, if_pos pins]
      refine changeEntry_titles (s := s) ?_ _ _
      rfl
    · have := count k
      rw [if_neg fun e => other (pinsKey_iff.1 e).2.2.symm] at this
      exact this
    · obtain ⟨-, -, same⟩ := countOutcome_keeps r.outcome { e with pin := e.pin - 1 }
      have := count r.key
      rw [if_pos own] at this
      rw [same]
      show e.pin - 1 = _
      omega
  · refine h.congr (fun i w => by simp only [Machine.freeRecord, if_neg pins]) fun k => ?_
    have := count k
    rw [if_neg fun e => pins ⟨(pinsKey_iff.1 e).1, (pinsKey_iff.1 e).2.1⟩] at this
    exact this

theorem TitleInv.offerRetired {s : State} (records : RecordInv s) (h : TitleInv s) (t : Ticket) : TitleInv (offerRetired t s) := by
  cases found : findRecord t s with
  | none =>
    have unfound : Machine.offerRetired t s = { s with retiring := s.retiring.filter (fun x => !(x == t)) } := by
      simp [Machine.offerRetired, found]
    rw [unfound]
    exact h.congr (fun _ _ => rfl) fun _ => rfl
  | some r =>
    rw [offerRetired_found found]
    let v := enqueueNotice ⟨s.link.nextNotice, retiredNotice r⟩ { s with link := { s.link with nextNotice := s.link.nextNotice + 1 } }
    have records' : RecordInv v := records.congr rfl rfl
    have same : TitleInv v := h.congr (fun _ _ => rfl) fun _ => rfl
    exact same.freeRecord records' (findRecord_mem found)

theorem TitleInv.offerAll {s : State} (records : RecordInv s) (h : TitleInv s) (ts : List Ticket) : TitleInv (offerAll ts s) := by
  induction ts generalizing s with
  | nil => exact h
  | cons t ts ih =>
    unfold Machine.offerAll
    split
    · exact ih (records.offerRetired t) (h.offerRetired records t)
    · exact h

theorem TitleInv.retire {s : State} (records : RecordInv s) (h : TitleInv s) (t : Ticket) (o : BookOutcome) (e : Option Reason) :
    TitleInv (retire t o e s) := (h.enterRetiring records t o e).offerAll (records.enterRetiring t o e) _

/-- R36: a waiting record that resolves pins its entry. -/
theorem TitleInv.resolve {s : State} (records : RecordInv s) (h : TitleInv s) {k : TitleKey} {r : BookRecord}
    (live : liveRecord r.ticket s = some r) (waits : waitsOn k r = true) (valid : (titleWay k s).isSome = true) :
    TitleInv (pinTitle k (putRecord { r with resolved := true } s)) := by
  obtain ⟨source, key, unresolved, -⟩ := waitsOn_iff.1 waits
  have count k' : reliance k' (pinTitle k (putRecord { r with resolved := true } s)) =
      reliance k' s + if k' = k then 1 else 0 := by
    have put := reliance_putRecord records (r := { r with resolved := true }) live k'
    have before : pinsKey k' r = false := by simp [pinsKey, unresolved]
    have behind : pinsKey k' { r with resolved := true } = decide (k' = k) := by
      rw [Bool.eq_iff_iff, pinsKey_iff, decide_eq_true_iff]
      exact ⟨fun h => h.2.2.symm.trans key, fun e => ⟨source, rfl, key.trans e.symm⟩⟩
    rw [before, behind] at put
    simp only [reliance, pinTitle_frame] at put ⊢
    simpa using put
  refine h.changed (k := k) (f := fun e => { e with pin := e.pin + 1 }) (fun _ => ⟨rfl, rfl⟩) (changeEntry_titles (by simp) _ _)
    (fun k' other => ?_) (fun e pin => ?_) fun _ => valid
  · rw [count, if_neg other, Nat.add_zero]
  · rw [count, if_pos rfl, ← pin]

theorem TitleInv.act {s u : State} (records : RecordInv s) (h : TitleInv s) (act : Act b s u) : TitleInv u := by
  cases act with
  | edit t f _ mild =>
    cases live : liveRecord t s with
    | none => rwa [changeRecord_absent live]
    | some r =>
      have m := mild r live
      rw [changeRecord_live live]
      refine h.put records (r0 := r) ?_ fun k => by simp only [pinsKey, m.source, m.resolved, m.key]
      rw [m.ticket, findRecord_ticket (liveRecord_iff.1 live).1]
      exact live
  | retire => exact h.retire records _ _ _
  | resolve k r _ live waits valid => exact h.resolve records live waits valid
  | send => exact h.congr (fun _ _ => by simp [entryAt]) fun _ => by simp [reliance]
  | notice => exact h.congr (fun _ _ => by simp [entryAt]) fun _ => by simp [reliance]
  | _ => exact h.congr (fun _ _ => rfl) fun _ => rfl

theorem TitleInv.acts {s u : State} (records : RecordInv s) (h : TitleInv s) (acts : Acts b s u) : TitleInv u := by
  induction acts with
  | refl => exact h
  | tail run act ih => exact ih.act (records.acts run) act

/-! ### Admit Book, Attach Parameters, Load Title and Drop Title (R15, R19, R40, R42, R46) -/

theorem reliance_addRecord (r : BookRecord) (k : TitleKey) (s : State) :
    reliance k (addRecord r s) = reliance k s + if pinsKey k r then 1 else 0 := by
  simp [reliance, List.countP_append, List.countP_cons]

theorem useTitle_entryAt (k : TitleKey) (s : State) (i : Fin 32) (w : Way) : entryAt i w (useTitle k s) = entryAt i w s := by
  unfold useTitle
  split
  · simp only [entryAt, changeSet_get]
    split <;> simp
  · rfl

theorem TitleInv.useTitle {s : State} (h : TitleInv s) (k : TitleKey) : TitleInv (useTitle k s) :=
  h.congr (useTitle_entryAt k s) fun _ => by simp [reliance]

/-- R15: a record that is added pins its entry when it finds one; another one does not rely on any. -/
theorem TitleInv.admitRecord {s : State} (h : TitleInv s) (t : Ticket) (k : TitleKey) (override : Option Nat)
    (oneOff : Option TitleParams) : TitleInv (admitRecord t k override oneOff s) := by
  have unpinned {r : BookRecord} (loose : r.source = .oneOff ∨ r.resolved = false) : TitleInv (addRecord r s) := by
    refine h.congr (fun _ _ => rfl) fun k' => ?_
    rw [reliance_addRecord, if_neg, Nat.add_zero]
    rw [pinsKey_iff]
    rintro ⟨source, resolved, -⟩
    rcases loose with e | e
    · rw [source] at e; cases e
    · rw [resolved] at e; cases e
  unfold Machine.admitRecord
  split
  · exact unpinned (.inl rfl)
  · split
    · next valid =>
      let r := newRecord t k override none true
      have count k' : reliance k' (pinTitle k (addRecord r s)) = reliance k' s + if k' = k then 1 else 0 := by
        have added := reliance_addRecord r k' s
        have pins : pinsKey k' r = decide (k' = k) := by
          rw [Bool.eq_iff_iff, pinsKey_iff, decide_eq_true_iff]
          exact ⟨fun h => h.2.2.symm, fun e => ⟨rfl, rfl, e.symm⟩⟩
        rw [pins] at added
        simp only [reliance, pinTitle_frame] at added ⊢
        simpa using added
      have pinned : TitleInv (pinTitle k (addRecord r s)) := by
        refine h.changed (k := k) (f := fun e => { e with pin := e.pin + 1 }) (fun _ => ⟨rfl, rfl⟩)
          (changeEntry_titles (by simp [addRecord]) _ _) (fun k' other => ?_) (fun e pin => ?_) fun _ => valid
        · rw [count, if_neg other, Nat.add_zero]
        · rw [count, if_pos rfl, ← pin]
      exact pinned.useTitle k
    · exact (unpinned (r := newRecord t k override none false) (.inr rfl)).congr (fun _ _ => by simp [entryAt])
        fun _ => by simp [reliance]

/-- R41: the victim way is invalid or unpinned. -/
theorem TitleSet.victim_free {ts : TitleSet} {w : Way} (h : ts.victim = some w) :
    (ts.get w).valid = false ∨ (ts.get w).pin = 0 := by
  unfold TitleSet.victim at h
  split at h
  · next v0 v1 => exact .inl (by cases w <;> assumption)
  · next v0 _ => cases h; exact .inl v0
  · next _ v1 => cases h; exact .inl v1
  · by_cases used : (ts.get ts.lru).pin = 0
    · rw [if_pos used] at h
      cases h
      exact .inr used
    · rw [if_neg used] at h
      by_cases other : (ts.get ts.lru.other).pin = 0
      · rw [if_pos other] at h
        cases h
        exact .inr other
      · rw [if_neg other] at h
        cases h

/-- R41, R48: the victim way holds no entry that a record relies on. -/
theorem victim_unpinned {s : State} (h : TitleInv s) {k : TitleKey} {w : Way} (victim : (titleSet k s).victim = some w) :
    (entryAt (setOf k) w s).pin = 0 :=
  (TitleSet.victim_free victim).elim (h.free (setOf k) w) id

/-- R42: what the install of a key makes of every entry. -/
theorem install_entryAt (k : TitleKey) (p : TitleParams) (w : Way) (s : State) (i : Fin 32) (v : Way) :
    entryAt i v (changeSet k (fun ts => ts.put w (installedEntry k p)) s) =
      if i = setOf k ∧ v = w then installedEntry k p else entryAt i v s := by
  simp only [entryAt, changeSet_get]
  by_cases e : i = setOf k
  · by_cases e' : v = w
    · subst e'
      rw [if_pos e, if_pos ⟨e, rfl⟩, TitleSet.get_put_same]
    · have other : v = w.other := by cases w <;> cases v <;> first | rfl | exact absurd rfl e'
      rw [if_pos e, if_neg fun both => e' both.2, other, TitleSet.get_put_other]
  · rw [if_neg e, if_neg fun both => e both.1]

/-- R42: a key that is not valid takes a way that no record relies on. -/
theorem TitleInv.install {s : State} (h : TitleInv s) {k : TitleKey} (p : TitleParams) {w : Way} (missing : titleWay k s = none)
    (victim : (titleSet k s).victim = some w) : TitleInv (changeSet k (fun ts => ts.put w (installedEntry k p)) s) := by
  have unpinned := victim_unpinned h victim
  have entry := install_entryAt k p w s
  have absent {i : Fin 32} {v : Way} (valid : (entryAt i v s).valid = true) : (entryAt i v s).key ≠ k := by
    rintro rfl
    rw [h.keyed.valid_isSome valid] at missing
    cases missing
  have none : reliance k s = 0 := by
    by_contra pos
    have := relied_iff.1 h.relied k (Nat.pos_of_ne_zero pos)
    rw [missing] at this
    cases this
  let u := changeSet k (fun ts => ts.put w (installedEntry k p)) s
  have counts k' : reliance k' u = reliance k' s := by simp [reliance, u]
  have keyed : KeyedTable u := by
    constructor
    · intro i v valid
      rw [entry] at valid ⊢
      split
      · next own => exact own.1.symm
      · next other =>
        rw [if_neg other] at valid
        exact h.home i v valid
    · intro i valid0 valid1
      change (entryAt i .w0 u).valid = true at valid0
      change (entryAt i .w1 u).valid = true at valid1
      change (entryAt i .w0 u).key ≠ (entryAt i .w1 u).key
      rw [entry] at valid0 valid1 ⊢
      rw [entry]
      by_cases own0 : i = setOf k ∧ Way.w0 = w
      · have other : ¬(i = setOf k ∧ Way.w1 = w) := by grind
        rw [if_neg other] at valid1 ⊢
        rw [if_pos own0]
        exact (absent valid1).symm
      · rw [if_neg own0] at valid0 ⊢
        split
        · exact absent valid0
        · next other =>
          rw [if_neg other] at valid1
          exact h.once i valid0 valid1
  refine ⟨keyed.home, keyed.once, fun i v valid => ?_, fun i v invalid => ?_, relied_iff.2 fun k' pos => ?_⟩
  · change (entryAt i v u).pin = reliance (entryAt i v u).key u
    change (entryAt i v u).valid = true at valid
    rw [counts]
    rw [entry] at valid ⊢
    split
    · exact none.symm
    · next other =>
      rw [if_neg other] at valid
      exact h.pins i v valid
  · change (entryAt i v u).pin = 0
    change (entryAt i v u).valid = false at invalid
    rw [entry] at invalid ⊢
    split
    · rfl
    · next other =>
      rw [if_neg other] at invalid
      exact h.free i v invalid
  · rw [counts] at pos
    obtain ⟨v, way⟩ := Option.isSome_iff_exists.1 (relied_iff.1 h.relied k' pos)
    obtain ⟨valid, key⟩ := h.keyed.titleWay_iff.1 way
    have kept : entryAt (setOf k') v u = entryAt (setOf k') v s := by
      rw [entry, if_neg]
      rintro ⟨home, rfl⟩
      have pins : (entryAt (setOf k') v s).pin = reliance (entryAt (setOf k') v s).key s := h.pins _ _ valid
      rw [key, home, unpinned] at pins
      omega
    rw [Option.isSome_iff_exists]
    exact ⟨v, keyed.titleWay_iff.2 (by rw [kept]; exact ⟨valid, key⟩)⟩

/-- R46: an unpinned entry that is dropped is one that no record relies on. -/
theorem TitleInv.drop {s : State} (h : TitleInv s) {k : TitleKey} {w : Way} (valid : titleWay k s = some w)
    (unpinned : ((titleSet k s).get w).pin = 0) : TitleInv (changeEntry k (fun e => { e with valid := false }) s) := by
  have entry := h.keyed.changeEntry k (fun e => { e with valid := false })
  obtain ⟨own, key⟩ := h.keyed.titleWay_iff.1 valid
  have none : reliance k s = 0 := by
    have pins : (entryAt (setOf k) w s).pin = reliance (entryAt (setOf k) w s).key s := h.pins _ _ own
    rw [key] at pins
    rw [← pins]
    exact unpinned
  let u := changeEntry k (fun e => { e with valid := false }) s
  have counts k' : reliance k' u = reliance k' s := by simp [reliance, u]
  have same {i : Fin 32} {v : Way} (valid : (entryAt i v u).valid = true) : entryAt i v u = entryAt i v s := by
    rw [entry] at valid ⊢
    split
    · next own => rw [if_pos own] at valid; cases valid
    · rfl
  have keyed : KeyedTable u := by
    constructor
    · intro i v valid
      have kept := same valid
      rw [kept] at valid ⊢
      exact h.home i v valid
    · intro i valid0 valid1
      change (entryAt i .w0 u).valid = true at valid0
      change (entryAt i .w1 u).valid = true at valid1
      change (entryAt i .w0 u).key ≠ (entryAt i .w1 u).key
      have kept0 := same valid0
      have kept1 := same valid1
      rw [kept0] at valid0 ⊢
      rw [kept1] at valid1 ⊢
      exact h.once i valid0 valid1
  refine ⟨keyed.home, keyed.once, fun i v valid => ?_, fun i v invalid => ?_, relied_iff.2 fun k' pos => ?_⟩
  · change (entryAt i v u).pin = reliance (entryAt i v u).key u
    change (entryAt i v u).valid = true at valid
    have kept := same valid
    rw [kept] at valid
    rw [counts, kept]
    exact h.pins i v valid
  · change (entryAt i v u).pin = 0
    change (entryAt i v u).valid = false at invalid
    rw [entry] at invalid ⊢
    split
    · next own =>
      have pins : (entryAt i v s).pin = reliance (entryAt i v s).key s := h.pins i v own.1
      rw [own.2, none] at pins
      exact pins
    · next other =>
      rw [if_neg other] at invalid
      exact h.free i v invalid
  · rw [counts] at pos
    obtain ⟨v, way⟩ := Option.isSome_iff_exists.1 (relied_iff.1 h.relied k' pos)
    have other : k' ≠ k := by
      rintro rfl
      omega
    obtain ⟨valid', key'⟩ := h.keyed.titleWay_iff.1 way
    have kept : entryAt (setOf k') v u = entryAt (setOf k') v s := by
      rw [entry, if_neg fun own => other (key'.symm.trans own.2)]
    rw [Option.isSome_iff_exists]
    exact ⟨v, keyed.titleWay_iff.2 (by rw [kept]; exact ⟨valid', key'⟩)⟩

end Sys2Proof.Machine
end

section
/-! The Title Table and the Pending Title List under the requests (R15, R19, R40 to R46, R173), and every step. -/

namespace Sys2Proof.Machine

variable {b : Bool}

theorem TitleInv.enterEach {s : State} (records : RecordInv s) (h : TitleInv s) (ts : List Ticket) (o : BookOutcome)
    (e : Option Reason) : TitleInv (ts.foldl (fun s t => Machine.enterRetiring t o e s) s) := by
  induction ts generalizing s with
  | nil => exact h
  | cons t ts ih => exact ih (records.enterRetiring t o e) (h.enterRetiring records t o e)

/-- R19: an attached record relies on no entry, before and after. -/
theorem TitleInv.attach {s : State} (records : RecordInv s) (h : TitleInv s) {t : Ticket} {r : BookRecord}
    (live : liveRecord t s = some r) (unresolved : r.resolved = false) (p : TitleParams) :
    TitleInv (putRecord { r with source := .oneOff, oneOff := some p, resolved := true } s) := by
  refine h.put records (r0 := r) ?_ fun k => by simp [pinsKey, unresolved]
  rw [findRecord_ticket (liveRecord_iff.1 live).1]
  exact live

theorem TitleInv.update {s : State} (h : TitleInv s) (k : TitleKey) (p : TitleParams) : TitleInv (updateTitle k p s) := by
  have changed : TitleInv (changeEntry k (fun e => { e with params := p }) s) :=
    h.changed (k := k) (f := fun e => { e with params := p }) (fun _ => ⟨rfl, rfl⟩) rfl (fun _ _ => by simp [reliance])
      (fun _ pin => by simpa [reliance] using pin) fun pos => relied_iff.1 h.relied k (by simpa [reliance] using pos)
  exact changed.useTitle k

theorem TitleInv.table {s u : State} (records : RecordInv s) (h : TitleInv s) (served : ServesTable s u) : TitleInv u := by
  cases served with
  | admitted t k override oneOff => exact h.admitRecord t k override oneOff
  | attached t r p _ live _ unresolved =>
    let v := stopWaiting r.key (putRecord { r with source := .oneOff, oneOff := some p, resolved := true } s)
    have records' : RecordInv v := (records.attach live p).congr (by simp [v]) (by simp [v])
    have titles' : TitleInv v := (h.attach records live unresolved p).congr (fun _ _ => rfl) fun _ => rfl
    have run : Acts false v (settleLine (announceResolved r.ticket v)) := (announceResolved_acts _ _).trans (settleLine_acts _)
    exact titles'.acts records' run
  | updated k p => exact h.update k p
  | installed k p w _ missing victim =>
    let v := changeSet k (fun ts => ts.put w (installedEntry k p)) s
    let unlisted : State := { v with pendingTitles := v.pendingTitles.filter fun p => !(p.key == k) }
    have records' : RecordInv unlisted := records.congr (by simp [unlisted, v]) (by simp [unlisted, v])
    have titles' : TitleInv unlisted := (h.install p missing victim).congr (fun _ _ => rfl) fun _ => rfl
    have run : Acts false unlisted (resolveWaiting k v) := resolveWaiting_acts (titleWay_installed k p w s)
    have used : TitleInv (changeSet k (·.use w) (resolveWaiting k v)) := by
      refine (titles'.acts records' run).congr (fun i x => ?_) fun _ => by simp [reliance]
      simp only [entryAt, changeSet_get]
      split <;> simp
    have used' : RecordInv (changeSet k (·.use w) (resolveWaiting k v)) := (records'.acts run).congr (by simp) (by simp)
    exact used.acts used' (settleLine_acts (b := false) _)
  | dropped k w _ valid unpinned => exact h.drop valid unpinned
  | parameter number value =>
    let v : State := { s with params := s.params.write number value }
    have records' : RecordInv v := records.congr rfl rfl
    have titles' : TitleInv v := h.congr (fun _ _ => rfl) fun _ => rfl
    exact titles'.acts records' (parameterEffect_acts (b := false) number v)
  | clear =>
    have records' := records.acts (clearedLine_acts (b := false) s)
    have titles' := h.acts records (clearedLine_acts (b := false) s)
    have retired : TitleInv (retireAll (clearedLine s)) :=
      (titles'.enterEach records' _ _ _).offerAll (records'.enterEach _ _ _) _
    have retired' : RecordInv (retireAll (clearedLine s)) := (records'.enterEach _ _ _).offerAll _
    let v := emptyPlaces (retireAll (clearedLine s))
    have emptied : TitleInv v := retired.congr (fun _ _ => rfl) fun _ => rfl
    have emptied' : RecordInv v := retired'.congr (by simp [v]) (by simp [v])
    have run : Acts false v (idleRefresh (recomputeDemand v)) := (recomputeDemand_acts _).trans (idleRefresh_acts _)
    exact emptied.acts emptied' run

theorem TitleInv.refillNotices {s : State} (records : RecordInv s) (h : TitleInv s) : TitleInv (refillNotices s) := by
  unfold Machine.refillNotices
  split
  · exact h.offerRetired records _
  · split
    · exact h.congr (fun _ _ => rfl) fun _ => rfl
    · exact h

theorem TitleInv.event {s u : State} (records : RecordInv s) (h : TitleInv s) (event : Event true s u) : TitleInv u := by
  cases event with
  | words ws =>
    obtain ⟨recordsSame, -, titlesSame, -⟩ := takeWords_frame ws s
    exact h.congr (fun _ _ => by rw [entryAt, titlesSame]) fun _ => by rw [reliance, recordsSame]; rfl
  | noticeSent e rest ws =>
    let v : State := { frameOut ws s with link := { (frameOut ws s).link with notices := rest } }
    have records' : RecordInv v := records.congr rfl rfl
    have titles' : TitleInv v := h.congr (fun _ _ => rfl) fun _ => rfl
    exact (titles'.refillNotices records').congr (fun _ _ => rfl) fun _ => rfl
  | request q rest hd _ _ served =>
    let v : State := { s with link := { s.link with requests := rest } }
    have records' : RecordInv v := records.congr rfl rfl
    have titles' : TitleInv v := h.congr (fun _ _ => rfl) fun _ => rfl
    have handled : TitleInv hd.state := served.acts_or_table.elim (titles'.acts records') (titles'.table records')
    exact handled.congr (fun _ _ => rfl) fun _ => rfl
  | report reported => exact h.acts records reported.acts
  | _ => exact h.congr (fun _ _ => rfl) fun _ => rfl

/-- A table with no valid entry and no record. -/
theorem TitleInv.of_empty {s : State} (records : s.records = [])
    (entries : ∀ i w, (entryAt i w s).valid = false ∧ (entryAt i w s).pin = 0) : TitleInv s where
  home i w valid := by
    have := (entries i w).1
    rw [show (entryAt i w s).valid = true from valid] at this
    cases this
  once i valid := by
    have := (entries i .w0).1
    rw [show (entryAt i .w0 s).valid = true from valid] at this
    cases this
  pins i w valid := by
    have := (entries i w).1
    rw [show (entryAt i w s).valid = true from valid] at this
    cases this
  free i w _ := (entries i w).2
  relied := by simp [records]

theorem reset_entryAt (i : Fin 32) (w : Way) : (entryAt i w State.reset).valid = false ∧ (entryAt i w State.reset).pin = 0 := by
  have set : State.reset.titles.get i = State.reset.titles.get 0 := by simp [State.reset, Vector.get_eq_getElem]
  simp only [entryAt]
  rw [set]
  cases w <;> exact ⟨rfl, rfl⟩

end Sys2Proof.Machine
end

section
/-! The Pending Title List (R33 to R36): every step keeps it, with the number of records that wait on each of its keys. -/

namespace Sys2Proof.Machine

variable {b : Bool}

/-- `PendingInv`, but for the key that a Load Title has just taken off the list while records still wait on it (R36). -/
structure PendingBut (gone : Option TitleKey) (s : State) : Prop where
  room : s.pendingTitles.length ≤ 8
  once : (s.pendingTitles.map (·.key)).Nodup
  counts : ∀ p ∈ s.pendingTitles, 1 ≤ p.count ∧ p.count = waiters p.key s
  missing : ∀ p ∈ s.pendingTitles, titleWay p.key s = none
  listed : ∀ k, 0 < waiters k s → some k = gone ∨ ∃ p ∈ s.pendingTitles, p.key = k
  unlisted : ∀ p ∈ s.pendingTitles, some p.key ≠ gone

theorem isListed_iff {k : TitleKey} {s : State} : isListed k s = true ↔ ∃ p ∈ s.pendingTitles, p.key = k := by
  simp [isListed]

theorem pendingInv_iff {s : State} : PendingInv s ↔ PendingBut none s := by
  constructor
  · intro h
    refine ⟨h.room, h.once, h.counts, h.missing, fun k pos => .inr ?_, fun _ _ => nofun⟩
    obtain ⟨r, mem, waits⟩ := waiters_pos.1 pos
    obtain ⟨-, rfl, -⟩ := waitsOn_iff.1 waits
    exact isListed_iff.1 (h.listed r mem waits)
  · intro h
    refine ⟨h.room, h.once, h.counts, h.missing, fun r mem waits => isListed_iff.2 ?_⟩
    exact (h.listed r.key (waiters_pos.2 ⟨r, mem, waits⟩)).resolve_left nofun

/-! ### The list under changes of the records -/

/-- The list as it is, with as many records waiting on every key that is not valid. -/
theorem PendingBut.fewer {gone : Option TitleKey} {s u : State} (h : PendingBut gone s) (list : u.pendingTitles = s.pendingTitles)
    (ways : ∀ p ∈ s.pendingTitles, titleWay p.key u = titleWay p.key s) (most : ∀ k, waiters k u ≤ waiters k s)
    (same : ∀ k, titleWay k s = none → waiters k u = waiters k s) : PendingBut gone u where
  room := list ▸ h.room
  once := list ▸ h.once
  counts p mem := by
    rw [list] at mem
    rw [same _ (h.missing p mem)]
    exact h.counts p mem
  missing p mem := by
    rw [list] at mem
    rw [ways p mem]
    exact h.missing p mem
  listed k pos := by
    rw [list]
    exact h.listed k (pos.trans_le (most k))
  unlisted := list ▸ h.unlisted

theorem PendingBut.congr {gone : Option TitleKey} {s u : State} (h : PendingBut gone s) (list : u.pendingTitles = s.pendingTitles)
    (ways : ∀ k, titleWay k u = titleWay k s) (same : ∀ k, waiters k u = waiters k s) : PendingBut gone u :=
  h.fewer list (fun _ _ => ways _) (fun k => (same k).le) fun k _ => same k

theorem waiters_of_records {s u : State} (h : u.records = s.records) (k : TitleKey) : waiters k u = waiters k s := by
  rw [waiters, h]; rfl

/-- A change of the state that leaves the records, the table and the list as they are. -/
theorem PendingBut.of_same {gone : Option TitleKey} {s u : State} (h : PendingBut gone s) (list : u.pendingTitles = s.pendingTitles)
    (titles : u.titles = s.titles) (records : u.records = s.records) : PendingBut gone u :=
  h.congr list (titleWay_of_titles titles) (waiters_of_records records)

theorem waiters_putRecord {s : State} (records : RecordInv s) {r0 r : BookRecord} (live : liveRecord r.ticket s = some r0)
    (k : TitleKey) : waiters k (putRecord r s) + (if waitsOn k r0 then 1 else 0) = waiters k s + if waitsOn k r then 1 else 0 := by
  obtain ⟨mem, ticket, -⟩ := (liveRecord_iff_mem records.tickets).1 live
  exact countP_putRecord records.tickets mem ticket.symm _

/-- R35: the entries of the list after a record has stopped waiting. -/
theorem mem_stopWaiting {k : TitleKey} {s : State} {p : PendingTitle} : p ∈ (stopWaiting k s).pendingTitles ↔
    (p ∈ s.pendingTitles ∧ p.key ≠ k) ∨ (p.key = k ∧ p.count ≠ 0 ∧ ⟨k, p.count + 1⟩ ∈ s.pendingTitles) := by
  have left (q : PendingTitle) : (!(q.key == k && q.count == 0)) = true ↔ (q.key = k → q.count ≠ 0) := by simp [imp_iff_not_or]
  simp only [stopWaiting, List.mem_filter, List.mem_map, left]
  constructor
  · rintro ⟨⟨q, mem, rfl⟩, stays⟩
    unfold PendingTitle.lower at stays ⊢
    split
    · next e =>
      subst e
      rw [if_pos rfl] at stays
      have pos : q.count - 1 ≠ 0 := stays rfl
      have back : q.count - 1 + 1 = q.count := by omega
      exact .inr ⟨rfl, pos, by show (⟨q.key, q.count - 1 + 1⟩ : PendingTitle) ∈ _; rw [back]; exact mem⟩
    · next e => exact .inl ⟨mem, e⟩
  · rintro (⟨mem, other⟩ | ⟨rfl, pos, mem⟩)
    · exact ⟨⟨p, mem, if_neg other⟩, fun e => absurd e other⟩
    · exact ⟨⟨_, mem, if_pos rfl⟩, fun _ => pos⟩

theorem stopWaiting_keys (k : TitleKey) (s : State) :
    ((stopWaiting k s).pendingTitles.map (·.key)).Sublist (s.pendingTitles.map (·.key)) := by
  have lowered : (s.pendingTitles.map (PendingTitle.lower k)).map (·.key) = s.pendingTitles.map (·.key) := by
    rw [List.map_map]
    refine List.map_congr_left fun p _ => ?_
    simp only [Function.comp, PendingTitle.lower]
    split <;> rfl
  rw [← lowered]
  exact List.filter_sublist.map _

/-- R35: a record stops waiting on its key. -/
theorem PendingBut.stop {gone : Option TitleKey} {s u : State} (h : PendingBut gone s) {k : TitleKey}
    (list : u.pendingTitles = (stopWaiting k s).pendingTitles) (ways : ∀ k, titleWay k u = titleWay k s)
    (own : waiters k u + 1 = waiters k s) (others : ∀ k', k' ≠ k → waiters k' u = waiters k' s) : PendingBut gone u where
  room := by
    rw [list]
    have := (stopWaiting_keys k s).length_le
    rw [List.length_map, List.length_map] at this
    exact this.trans h.room
  once := by
    rw [list]
    exact h.once.sublist (stopWaiting_keys k s)
  counts p mem := by
    rw [list, mem_stopWaiting] at mem
    rcases mem with ⟨mem, other⟩ | ⟨rfl, pos, mem⟩
    · rw [others _ other]
      exact h.counts p mem
    · have count : p.count + 1 = waiters p.key s := (h.counts _ mem).2
      omega
  missing p mem := by
    rw [list, mem_stopWaiting] at mem
    rw [ways]
    rcases mem with ⟨mem, -⟩ | ⟨rfl, -, mem⟩
    · exact h.missing p mem
    · exact h.missing ⟨p.key, p.count + 1⟩ mem
  listed k' pos := by
    rw [list]
    by_cases e : k' = k
    · subst e
      refine (h.listed k' (by omega)).imp_right ?_
      rintro ⟨p, mem, rfl⟩
      have count := (h.counts p mem).2
      have back : p.count - 1 + 1 = p.count := by omega
      refine ⟨⟨p.key, p.count - 1⟩, mem_stopWaiting.2 (.inr ⟨rfl, ?_, ?_⟩), rfl⟩
      · show p.count - 1 ≠ 0
        omega
      · show (⟨p.key, p.count - 1 + 1⟩ : PendingTitle) ∈ _
        rw [back]
        exact mem
    · rw [others k' e] at pos
      refine (h.listed k' pos).imp_right ?_
      rintro ⟨p, mem, rfl⟩
      exact ⟨p, mem_stopWaiting.2 (.inl ⟨mem, e⟩), rfl⟩
  unlisted p mem := by
    rw [list, mem_stopWaiting] at mem
    rcases mem with ⟨mem, -⟩ | ⟨rfl, -, mem⟩
    · exact h.unlisted p mem
    · exact h.unlisted ⟨p.key, p.count + 1⟩ mem

/-! ### The list under the acts -/

/-- A mild change of a record leaves it waiting or not. -/
theorem Mild.waitsOn_eq {r r' : BookRecord} (m : Mild r r') (k : TitleKey) : waitsOn k r' = waitsOn k r := by
  have stage : (r'.stage == .retiring) = (r.stage == .retiring) := by
    rw [Bool.eq_iff_iff, beq_iff_eq, beq_iff_eq]
    exact m.retiring
  simp only [waitsOn, m.source, m.key, m.resolved, stage]

/-- R8, R35: a record in RETIRING no longer waits. -/
theorem PendingBut.enterRetiring {gone : Option TitleKey} {s : State} (records : RecordInv s) (h : PendingBut gone s) (t : Ticket)
    (o : BookOutcome) (e : Option Reason) : PendingBut gone (enterRetiring t o e s) := by
  cases live : liveRecord t s with
  | none => rwa [enterRetiring_absent live]
  | some r =>
    obtain ⟨changed, -, list, -⟩ := enterRetiring_live live o e
    have ways k : titleWay k (Machine.enterRetiring t o e s) = titleWay k s := titleWay_of_titles (by simp) k
    have count k : waiters k (Machine.enterRetiring t o e s) + (if waitsOn k r then 1 else 0) = waiters k s := by
      let r' : BookRecord :=
        { r with stage := .retiring, outcome := some o, reasons := retireReasons o r.flags e, position := none }
      have put := waiters_putRecord records (r := r') (r0 := r)
        (by rw [show r'.ticket = t from findRecord_ticket (r := r) (liveRecord_iff.1 live).1]; exact live) k
      have retiring : waitsOn k r' = false := by simp [waitsOn, r']
      rw [retiring] at put
      rw [waiters, changed]
      exact put
    by_cases waits : r.source = .table ∧ r.resolved = false
    · have own k : waitsOn k r = true ↔ r.key = k := by
        rw [waitsOn_iff]
        exact ⟨fun w => w.2.1, fun e => ⟨waits.1, e, waits.2, (liveRecord_iff.1 live).2⟩⟩
      rw [if_pos waits] at list
      refine h.stop list ways ?_ fun k' other => ?_
      · have := count r.key
        rwa [if_pos ((own _).2 rfl)] at this
      · have := count k'
        rwa [if_neg fun w => other ((own _).1 w).symm] at this
    · rw [if_neg waits] at list
      refine h.congr list ways fun k => ?_
      have := count k
      rwa [if_neg fun w => waits ⟨(waitsOn_iff.1 w).1, (waitsOn_iff.1 w).2.2.1⟩] at this

/-- R12: freeing a record in RETIRING leaves the waiting records. -/
theorem PendingBut.offerRetired {gone : Option TitleKey} {s : State} (records : RecordInv s) (h : PendingBut gone s) {t : Ticket}
    (retiring : ∀ r ∈ s.records, r.ticket = t → r.stage = .retiring) : PendingBut gone (offerRetired t s) := by
  refine h.congr (by simp) (fun k => titleWay_offerRetired k t s) fun k => ?_
  rw [waiters, (offerRetired_records t s).1]
  by_cases found : ∃ r ∈ s.records, r.ticket = t
  · obtain ⟨r, mem, rfl⟩ := found
    have count := countP_without records.tickets mem (waitsOn k)
    rw [if_neg fun w => (waitsOn_iff.1 w).2.2.2 (retiring r mem rfl)] at count
    exact count
  · rw [List.filter_eq_self.2 fun x hx => by simpa using fun e => found ⟨x, hx, e⟩]
    rfl

theorem PendingBut.offerAll {gone : Option TitleKey} {s : State} (records : RecordInv s) (h : PendingBut gone s) {ts : List Ticket}
    (retiring : ∀ r ∈ s.records, r.ticket ∈ ts → r.stage = .retiring) : PendingBut gone (offerAll ts s) := by
  induction ts generalizing s with
  | nil => exact h
  | cons t ts ih =>
    unfold Machine.offerAll
    split
    · refine ih (records.offerRetired t) (h.offerRetired records fun r mem e => retiring r mem (by simp [e])) fun r mem there => ?_
      rw [(offerRetired_records t s).1] at mem
      exact retiring r (List.mem_filter.1 mem).1 (List.mem_cons_of_mem t there)
    · exact h

/-- R8: the records whose tickets are in the retirement order are in RETIRING. -/
theorem RecordInv.retiring_stage {s : State} (h : RecordInv s) : ∀ r ∈ s.records, r.ticket ∈ s.retiring → r.stage = .retiring := by
  intro r mem there
  obtain ⟨r', mem', ticket, stage⟩ := (h.retires r.ticket).1 there
  exact List.inj_on_of_nodup_map h.tickets mem' mem ticket ▸ stage

theorem PendingBut.act {gone : Option TitleKey} {s u : State} (records : RecordInv s) (h : PendingBut gone s) (act : Act b s u) :
    PendingBut gone u := by
  cases act with
  | edit t f _ mild =>
    cases live : liveRecord t s with
    | none => rwa [changeRecord_absent live]
    | some r =>
      have m := mild r live
      rw [changeRecord_live live]
      refine h.congr rfl (fun _ => rfl) fun k => ?_
      have put := waiters_putRecord records (r := f r) (r0 := r)
        (by rw [m.ticket, findRecord_ticket (liveRecord_iff.1 live).1]; exact live) k
      rw [m.waitsOn_eq] at put
      omega
  | retire t o e =>
    exact (h.enterRetiring records t o e).offerAll (records.enterRetiring t o e) (records.enterRetiring t o e).retiring_stage
  | resolve k r _ live waits valid =>
    have count k' : waiters k' (pinTitle k (putRecord { r with resolved := true } s)) + (if waitsOn k' r then 1 else 0) =
        waiters k' s := by
      have put := waiters_putRecord records (r := { r with resolved := true }) live k'
      have done : waitsOn k' { r with resolved := true } = false := by simp [waitsOn]
      rw [done] at put
      simpa [waiters] using put
    refine h.fewer (by simp) (fun p _ => ?_) (fun k' => ?_) fun k' none => ?_
    · rw [titleWay_pinTitle]
      rfl
    · have := count k'
      omega
    · have := count k'
      rwa [if_neg] at this
      intro w
      rw [← (waitsOn_iff.1 w).2.1, (waitsOn_iff.1 waits).2.1] at none
      rw [none] at valid
      cases valid
  | send => exact h.of_same (by simp) (by simp) (by simp)
  | notice => exact h.of_same (by simp) (by simp) (by simp)
  | _ => exact h.of_same rfl rfl rfl

theorem PendingBut.acts {gone : Option TitleKey} {s u : State} (records : RecordInv s) (h : PendingBut gone s) (acts : Acts b s u) :
    PendingBut gone u := by
  induction acts with
  | refl => exact h
  | tail run act ih => exact ih.act (records.acts run) act

/-! ### The waiting records resolve (R36) -/

/-- The records of a run of offers were there before. -/
theorem offerAll_mem {ts : List Ticket} {s : State} {x : BookRecord} (h : x ∈ (offerAll ts s).records) : x ∈ s.records := by
  induction ts generalizing s with
  | nil => exact h
  | cons t ts ih =>
    unfold offerAll at h
    split at h
    · have := ih h
      rw [(offerRetired_records t s).1] at this
      exact (List.mem_filter.1 this).1
    · exact h

/-- R8: the records that are live after one has entered RETIRING are others, as they were. -/
theorem enterRetiring_mem {s : State} (nodup : (s.records.map (·.ticket)).Nodup) {t : Ticket} {o : BookOutcome} {e : Option Reason}
    {x : BookRecord} (h : x ∈ (enterRetiring t o e s).records) (stage : x.stage ≠ .retiring) : x ∈ s.records ∧ x.ticket ≠ t := by
  cases live : liveRecord t s with
  | none =>
    rw [enterRetiring_absent live] at h
    refine ⟨h, fun ticket => ?_⟩
    rw [(liveRecord_iff_mem nodup).2 ⟨h, ticket, stage⟩] at live
    cases live
  | some r =>
    have ticket := findRecord_ticket (liveRecord_iff.1 live).1
    obtain ⟨changed, -⟩ := enterRetiring_live live o e
    have put : x ∈ (putRecord
        { r with stage := .retiring, outcome := some o, reasons := retireReasons o r.flags e, position := none } s).records := by
      rw [changed] at h
      exact h
    rcases mem_putRecord.1 put with ⟨mem, other⟩ | ⟨rfl, -⟩
    · exact ⟨mem, fun e => other (e.trans ticket.symm)⟩
    · exact absurd rfl stage

/-- No act makes a record wait: one that waits waited before. -/
theorem Act.waited {s u : State} (records : RecordInv s) (act : Act b s u) {k : TitleKey} {x : BookRecord} (mem : x ∈ u.records)
    (waits : waitsOn k x = true) : ∃ y ∈ s.records, y.ticket = x.ticket ∧ waitsOn k y = true := by
  cases act with
  | edit t f _ mild =>
    cases live : liveRecord t s with
    | none => rw [changeRecord_absent live] at mem; exact ⟨x, mem, rfl, waits⟩
    | some r =>
      have m := mild r live
      rw [changeRecord_live live] at mem
      rcases mem_putRecord.1 mem with ⟨mem, -⟩ | ⟨rfl, -⟩
      · exact ⟨x, mem, rfl, waits⟩
      · rw [m.waitsOn_eq] at waits
        exact ⟨r, findRecord_mem (liveRecord_iff.1 live).1, m.ticket.symm, waits⟩
  | retire =>
    exact ⟨x, (enterRetiring_mem records.tickets (offerAll_mem mem) (waitsOn_iff.1 waits).2.2.2).1, rfl, waits⟩
  | resolve k' r =>
    rw [show (pinTitle k' (putRecord { r with resolved := true } s)).records = (putRecord { r with resolved := true } s).records
      by simp] at mem
    rcases mem_putRecord.1 mem with ⟨mem, -⟩ | ⟨rfl, -⟩
    · exact ⟨x, mem, rfl, waits⟩
    · cases (waitsOn_iff.1 waits).2.2.1
  | send => exact ⟨x, by simpa using mem, rfl, waits⟩
  | notice => exact ⟨x, by simpa using mem, rfl, waits⟩
  | _ => exact ⟨x, mem, rfl, waits⟩

theorem Acts.waited {s u : State} (records : RecordInv s) (acts : Acts b s u) {k : TitleKey} {x : BookRecord} (mem : x ∈ u.records)
    (waits : waitsOn k x = true) : ∃ y ∈ s.records, y.ticket = x.ticket ∧ waitsOn k y = true := by
  induction acts generalizing x with
  | refl => exact ⟨x, mem, rfl, waits⟩
  | tail run act ih =>
    obtain ⟨y, memY, ticketY, waitsY⟩ := act.waited (records.acts run) mem waits
    obtain ⟨z, memZ, ticketZ, waitsZ⟩ := ih memY waitsY
    exact ⟨z, memZ, ticketZ.trans ticketY, waitsZ⟩

/-- R36: once a record has had its turn it does not wait on the key. -/
theorem resolveRecord_done {s : State} (records : RecordInv s) {k : TitleKey} {t : Ticket} {x : BookRecord}
    (mem : x ∈ (resolveRecord k s t).records) (waits : waitsOn k x = true) : x.ticket ≠ t := by
  rintro rfl
  have live := (waitsOn_iff.1 waits).2.2.2
  unfold resolveRecord at mem
  split at mem
  · next r found =>
    split at mem
    · next waited =>
      let v := pinTitle k (putRecord { r with resolved := true } s)
      have ticket := findRecord_ticket (liveRecord_iff.1 found).1
      have put : RecordInv (putRecord { r with resolved := true } s) :=
        records.put (r0 := r) (by rw [show ({ r with resolved := true } : BookRecord).ticket = x.ticket from ticket]; exact found)
          (liveRecord_iff.1 found).2 rfl rfl id
      have records' : RecordInv v := put.congr (by simp [v]) (by simp [v])
      obtain ⟨y, memY, ticketY, waitsY⟩ := (announceResolved_acts (b := false) x.ticket v).waited records' mem waits
      rw [show v.records = (putRecord { r with resolved := true } s).records by simp [v]] at memY
      rcases mem_putRecord.1 memY with ⟨-, other⟩ | ⟨rfl, -⟩
      · exact other (ticketY.trans ticket.symm)
      · cases (waitsOn_iff.1 waitsY).2.2.1
    · next other =>
      rw [(liveRecord_iff_mem records.tickets).2 ⟨mem, rfl, live⟩] at found
      cases found
      exact other waits
  · next absent =>
    rw [(liveRecord_iff_mem records.tickets).2 ⟨mem, rfl, live⟩] at absent
    cases absent

/-- R36: when every waiting record has had its turn none waits on the key. -/
theorem resolveEach_done {k : TitleKey} {ts : List Ticket} {s : State} (records : RecordInv s)
    (valid : (titleWay k s).isSome = true) (all : ∀ x ∈ s.records, waitsOn k x = true → x.ticket ∈ ts) :
    waiters k (ts.foldl (resolveRecord k) s) = 0 := by
  induction ts generalizing s with
  | nil =>
    rw [waiters, List.countP_eq_zero]
    intro x mem waits
    cases all x mem waits
  | cons t ts ih =>
    have run : Acts false s (resolveRecord k s t) := resolveRecord_acts valid t
    refine ih (records.acts run) (by rw [run.titleWay]; exact valid) fun x mem waits => ?_
    obtain ⟨y, memY, ticketY, waitsY⟩ := run.waited records mem waits
    have there := all y memY waitsY
    rw [ticketY] at there
    exact (List.mem_cons.1 there).resolve_left (resolveRecord_done records mem waits)

end Sys2Proof.Machine
end

section
/-! The Pending Title List under the requests, and every step (R33 to R36). -/

namespace Sys2Proof.Machine

variable {b : Bool}

theorem waiters_addRecord (r : BookRecord) (k : TitleKey) (s : State) :
    waiters k (addRecord r s) = waiters k s + if waitsOn k r then 1 else 0 := by
  simp [waiters, List.countP_append, List.countP_cons]

theorem waiters_newRecord (t : Ticket) (k : TitleKey) (override : Option Nat) (k' : TitleKey) (s : State) :
    waiters k' (addRecord (newRecord t k override none false) s) = waiters k' s + if k' = k then 1 else 0 := by
  rw [waiters_addRecord]
  have waits : waitsOn k' (newRecord t k override none false) = true ↔ k' = k := by
    rw [waitsOn_iff]
    exact ⟨fun w => w.2.1.symm, fun e => ⟨rfl, e.symm, rfl, nofun⟩⟩
  simp only [waits]

/-- R34: a record that waits on a listed key raises its count. -/
theorem PendingBut.raise {s u : State} (h : PendingBut none s) {k : TitleKey} (listed : ∃ p ∈ s.pendingTitles, p.key = k)
    (list : u.pendingTitles = s.pendingTitles.map fun p => if p.key = k then { p with count := p.count + 1 } else p)
    (ways : ∀ k, titleWay k u = titleWay k s) (count : ∀ k', waiters k' u = waiters k' s + if k' = k then 1 else 0) :
    PendingBut none u := by
  have mem {p : PendingTitle} (there : p ∈ u.pendingTitles) :
      ∃ q ∈ s.pendingTitles, q.key = p.key ∧ p.count = q.count + if q.key = k then 1 else 0 := by
    rw [list, List.mem_map] at there
    obtain ⟨q, mem, rfl⟩ := there
    refine ⟨q, mem, ?_⟩
    split <;> exact ⟨rfl, rfl⟩
  have keys : u.pendingTitles.map (·.key) = s.pendingTitles.map (·.key) := by
    rw [list, List.map_map]
    refine List.map_congr_left fun p _ => ?_
    simp only [Function.comp]
    split <;> rfl
  refine ⟨by rw [list, List.length_map]; exact h.room, by rw [keys]; exact h.once, fun p there => ?_, fun p there => ?_,
    fun k' pos => .inr ?_, fun _ _ => nofun⟩
  · obtain ⟨q, there, key, raised⟩ := mem there
    obtain ⟨least, exactly⟩ := h.counts q there
    rw [count, ← key, raised]
    omega
  · obtain ⟨q, there, key, -⟩ := mem there
    rw [ways, ← key]
    exact h.missing q there
  · have there : k' ∈ s.pendingTitles.map (·.key) := by
      rw [List.mem_map]
      rw [count] at pos
      by_cases e : k' = k
      · exact e ▸ listed
      · rw [if_neg e] at pos
        exact (h.listed k' pos).resolve_left nofun
    rw [← keys] at there
    exact List.mem_map.1 there

/-- R34: a record that waits on another key puts it at the tail of the list. -/
theorem PendingBut.append {s u : State} (h : PendingBut none s) {k : TitleKey} (missing : titleWay k s = none)
    (unlisted : ¬∃ p ∈ s.pendingTitles, p.key = k) (room : s.pendingTitles.length < 8)
    (list : u.pendingTitles = s.pendingTitles ++ [⟨k, 1⟩]) (ways : ∀ k, titleWay k u = titleWay k s)
    (count : ∀ k', waiters k' u = waiters k' s + if k' = k then 1 else 0) : PendingBut none u := by
  have none : waiters k s = 0 := by
    by_contra pos
    exact unlisted ((h.listed k (Nat.pos_of_ne_zero pos)).resolve_left nofun)
  have other {p : PendingTitle} (mem : p ∈ s.pendingTitles) : p.key ≠ k := fun e => unlisted ⟨p, mem, e⟩
  have split {p : PendingTitle} (mem : p ∈ u.pendingTitles) : p ∈ s.pendingTitles ∨ p = ⟨k, 1⟩ := by
    simpa [list] using mem
  refine ⟨by rw [list, List.length_append]; exact room, ?_, fun p mem => ?_, fun p mem => ?_, fun k' pos => .inr ?_,
    fun _ _ => nofun⟩
  · rw [list, List.map_append]
    refine List.nodup_append.2 ⟨h.once, List.nodup_singleton _, fun x there y single => ?_⟩
    obtain ⟨p, mem, rfl⟩ := List.mem_map.1 there
    rw [List.map_singleton, List.mem_singleton] at single
    rw [single]
    exact other mem
  · rcases split mem with mem | rfl
    · rw [count, if_neg (other mem)]
      exact h.counts p mem
    · rw [count, if_pos rfl, none]
      exact ⟨le_rfl, rfl⟩
  · rw [ways]
    rcases split mem with mem | rfl
    · exact h.missing p mem
    · exact missing
  · rw [list]
    rw [count] at pos
    by_cases e : k' = k
    · exact ⟨⟨k, 1⟩, by simp, e.symm⟩
    · rw [if_neg e] at pos
      obtain ⟨p, mem, key⟩ := (h.listed k' pos).resolve_left nofun
      exact ⟨p, by simp [mem], key⟩

@[simp] theorem titleWay_useTitle (k k' : TitleKey) (s : State) : titleWay k (useTitle k' s) = titleWay k s :=
  titleWay_congr (fun i w => by
    have same := useTitle_entryAt k' s i w
    simp only [entryAt] at same
    rw [same]
    exact ⟨rfl, rfl⟩) k

/-- R34: a miss on a listed key. -/
theorem missTitle_listed {k : TitleKey} {s : State} (h : isListed k s = true) : missTitle k s =
    { s with pendingTitles := s.pendingTitles.map fun p => if p.key = k then { p with count := p.count + 1 } else p } := if_pos h

/-- R34: a miss on another key. -/
theorem missTitle_new {k : TitleKey} {s : State} (h : isListed k s = false) :
    missTitle k s = produce (.titleRequest k) { s with pendingTitles := s.pendingTitles ++ [⟨k, 1⟩] } := by
  simp [missTitle, h]

theorem PendingBut.admitRecord {s : State} (h : PendingBut none s) (t : Ticket) (k : TitleKey) (override : Option Nat)
    (oneOff : Option TitleParams) (backlog : backlogFull k oneOff s = false) :
    PendingBut none (admitRecord t k override oneOff s) := by
  have resolved {r : BookRecord} (e : r.resolved = true) (k' : TitleKey) : waiters k' (addRecord r s) = waiters k' s := by
    rw [waiters_addRecord, if_neg fun w => by rw [(waitsOn_iff.1 w).2.2.1] at e; cases e]
    rfl
  unfold Machine.admitRecord
  split
  · exact h.congr rfl (fun _ => rfl) (resolved rfl)
  · split
    · refine h.congr (by simp [addRecord]) (fun k' => ?_) fun k' => ?_
      · rw [titleWay_useTitle, titleWay_pinTitle]
        rfl
      · rw [waiters_of_records (s := addRecord (newRecord t k override none true) s) (by simp)]
        exact resolved rfl k'
    · next invalid =>
      have missing : titleWay k s = none := by simpa using invalid
      let v := addRecord (newRecord t k override none false) s
      have ways k' : titleWay k' (missTitle k v) = titleWay k' s := titleWay_of_titles (by simp [v, addRecord]) k'
      have count k' : waiters k' (missTitle k v) = waiters k' s + if k' = k then 1 else 0 := by
        rw [waiters_of_records (s := v) (by simp)]
        exact waiters_newRecord t k override k' s
      by_cases listed : isListed k s = true
      · refine h.raise (isListed_iff.1 listed) ?_ ways count
        rw [missTitle_listed (s := v) listed]
        rfl
      · refine h.append missing (fun e => listed (isListed_iff.2 e)) ?_ ?_ ways count
        · have invalid : (titleWay k s).isSome = false := by rw [missing]; rfl
          simp only [Bool.not_eq_true] at listed
          simp only [backlogFull, admitResolved, invalid, listed, Config.pendingKeys, Option.isSome_none, Bool.or_self,
            Bool.not_false, Bool.true_and] at backlog
          exact Nat.not_le.1 (of_decide_eq_false backlog)
        · rw [missTitle_new (s := v) (Bool.not_eq_true _ ▸ listed)]
          simp [v, addRecord]

/-- R19: an attached record stops waiting on its key. -/
theorem PendingBut.attach {s : State} (records : RecordInv s) (h : PendingBut none s) {t : Ticket} {r : BookRecord}
    (live : liveRecord t s = some r) (source : r.source = .table) (unresolved : r.resolved = false) (p : TitleParams) :
    PendingBut none (stopWaiting r.key (putRecord { r with source := .oneOff, oneOff := some p, resolved := true } s)) := by
  let r' : BookRecord := { r with source := .oneOff, oneOff := some p, resolved := true }
  have own k : waitsOn k r = true ↔ r.key = k := by
    rw [waitsOn_iff]
    exact ⟨fun w => w.2.1, fun e => ⟨source, e, unresolved, (liveRecord_iff.1 live).2⟩⟩
  have count k : waiters k (putRecord r' s) + (if waitsOn k r then 1 else 0) = waiters k s := by
    have put := waiters_putRecord records (r := r') (r0 := r)
      (by rw [show r'.ticket = t from findRecord_ticket (r := r) (liveRecord_iff.1 live).1]; exact live) k
    have attached : waitsOn k r' = false := by simp [waitsOn, r']
    rwa [attached] at put
  refine h.stop (k := r.key) (by simp [stopWaiting]) (fun _ => rfl) ?_ fun k' other => ?_
  · have := count r.key
    rwa [if_pos ((own _).2 rfl)] at this
  · have := count k'
    rwa [if_neg fun w => other ((own _).1 w).symm] at this

/-- R42: the installed key leaves the list, and no key of the list becomes valid. -/
theorem PendingBut.install {s : State} (titles : TitleInv s) (h : PendingBut none s) {k : TitleKey} (p : TitleParams) {w : Way}
    (missing : titleWay k s = none) (victim : (titleSet k s).victim = some w) :
    let v := changeSet k (fun ts => ts.put w (installedEntry k p)) s
    PendingBut (some k) { v with pendingTitles := v.pendingTitles.filter fun p => !(p.key == k) } := by
  intro v
  have keyed : KeyedTable v := (titles.install p missing victim).keyed
  have mem {q : PendingTitle} : q ∈ v.pendingTitles.filter (fun p => !(p.key == k)) ↔ q ∈ s.pendingTitles ∧ q.key ≠ k := by
    simp [v]
  have list : (v.pendingTitles.filter fun p => !(p.key == k)).Sublist s.pendingTitles := by
    simp [v]
  have same k' : waiters k' { v with pendingTitles := v.pendingTitles.filter fun p => !(p.key == k) } = waiters k' s :=
    waiters_of_records (by simp [v]) k'
  have invalid {k' : TitleKey} (unfound : titleWay k' s = none) (other : k' ≠ k) : titleWay k' v = none := by
    cases way : titleWay k' v with
    | none => rfl
    | some x =>
      obtain ⟨valid, key⟩ := keyed.titleWay_iff.1 way
      rw [install_entryAt] at valid key
      split at key
      · exact absurd key.symm other
      · next old =>
        rw [if_neg old] at valid
        rw [titles.keyed.titleWay_iff.2 ⟨valid, key⟩] at unfound
        cases unfound
  refine ⟨list.length_le.trans h.room, h.once.sublist (list.map _), fun q there => ?_, fun q there => ?_, fun k' pos => ?_,
    fun q there e => ?_⟩
  · rw [same]
    exact h.counts q (mem.1 there).1
  · exact invalid (h.missing q (mem.1 there).1) (mem.1 there).2
  · rw [same] at pos
    by_cases e : k' = k
    · exact .inl (congrArg some e)
    · obtain ⟨q, there, key⟩ := (h.listed k' pos).resolve_left nofun
      exact .inr ⟨q, mem.2 ⟨there, key ▸ e⟩, key⟩
  · exact (mem.1 there).2 (Option.some.inj e)

/-- R36: the key that has been taken off the list is off it for good once no record waits on it. -/
theorem PendingBut.close {s : State} {k : TitleKey} (h : PendingBut (some k) s) (done : waiters k s = 0) : PendingBut none s where
  room := h.room
  once := h.once
  counts := h.counts
  missing := h.missing
  listed k' pos := .inr ((h.listed k' pos).resolve_left fun e => by
    rw [Option.some.inj e, done] at pos
    exact absurd pos (lt_irrefl 0))
  unlisted _ _ := nofun

/-- R23: the records that are live after several have entered RETIRING are others, as they were. -/
theorem enterEach_mem {ts : List Ticket} {s : State} (records : RecordInv s) {o : BookOutcome} {e : Option Reason} {x : BookRecord}
    (h : x ∈ (ts.foldl (fun s t => enterRetiring t o e s) s).records) (stage : x.stage ≠ .retiring) :
    x ∈ s.records ∧ x.ticket ∉ ts := by
  induction ts generalizing s with
  | nil => exact ⟨h, List.not_mem_nil⟩
  | cons t ts ih =>
    obtain ⟨mem, others⟩ := ih (records.enterRetiring t o e) h
    obtain ⟨mem, other⟩ := enterRetiring_mem records.tickets mem stage
    exact ⟨mem, List.not_mem_cons_of_ne_of_not_mem other others⟩

/-- R23: Clear Line leaves no live record. -/
theorem retireAll_retiring {s : State} (records : RecordInv s) : ∀ x ∈ (retireAll s).records, x.stage = .retiring := by
  intro x mem
  by_contra stage
  obtain ⟨there, absent⟩ := enterEach_mem records (offerAll_mem mem) stage
  exact absent (List.mem_map_of_mem there)

theorem PendingBut.table {s u : State} (records : RecordInv s) (titles : TitleInv s) (h : PendingBut none s)
    (served : ServesTable s u) : PendingBut none u := by
  cases served with
  | admitted t k override oneOff _ _ _ backlog => exact h.admitRecord t k override oneOff backlog
  | attached t r p _ live source unresolved =>
    let v := stopWaiting r.key (putRecord { r with source := .oneOff, oneOff := some p, resolved := true } s)
    have records' : RecordInv v := (records.attach live p).congr (by simp [v]) (by simp [v])
    have run : Acts false v (settleLine (announceResolved r.ticket v)) := (announceResolved_acts _ _).trans (settleLine_acts _)
    exact (h.attach records live source unresolved p).acts records' run
  | updated k p =>
    refine h.congr (by simp [updateTitle]) (fun k' => ?_) (waiters_of_records (by simp [updateTitle]))
    rw [updateTitle, titleWay_useTitle]
    exact titleWay_changeEntry (f := fun e => { e with params := p }) (fun _ => ⟨rfl, rfl⟩) k' k s
  | installed k p w _ missing victim =>
    let v := changeSet k (fun ts => ts.put w (installedEntry k p)) s
    let unlisted : State := { v with pendingTitles := v.pendingTitles.filter fun p => !(p.key == k) }
    have records' : RecordInv unlisted := records.congr (by simp [unlisted, v]) (by simp [unlisted, v])
    have start : PendingBut (some k) unlisted := h.install titles p missing victim
    have valid : (titleWay k v).isSome = true := titleWay_installed k p w s
    have run : Acts false unlisted (resolveWaiting k v) := resolveWaiting_acts valid
    have done : waiters k (resolveWaiting k v) = 0 :=
      resolveEach_done (s := unlisted) records' valid fun x mem waits => List.mem_map_of_mem (List.mem_filter.2 ⟨mem, waits⟩)
    have resolved := (start.acts records' run).close done
    have used : PendingBut none (changeSet k (·.use w) (resolveWaiting k v)) := by
      refine resolved.congr (by simp) (titleWay_congr fun i x => ?_) (waiters_of_records (by simp))
      rw [changeSet_get]
      split <;> simp
    have used' : RecordInv (changeSet k (·.use w) (resolveWaiting k v)) := (records'.acts run).congr (by simp) (by simp)
    exact used.acts used' (settleLine_acts (b := false) _)
  | dropped k w _ valid unpinned =>
    have same := waiters_of_records (s := s) (u := changeEntry k (fun e => { e with valid := false }) s) (by simp)
    refine h.fewer (by simp) (fun p mem => ?_) (fun k' => (same k').le) fun k' _ => same k'
    have entry := titles.keyed.changeEntry k (fun e => { e with valid := false })
    rw [h.missing p mem]
    cases way : titleWay p.key (changeEntry k (fun e => { e with valid := false }) s) with
    | none => rfl
    | some x =>
      obtain ⟨valid', key⟩ := (titles.drop valid unpinned).keyed.titleWay_iff.1 way
      rw [entry] at valid' key
      split at valid'
      · cases valid'
      · next other =>
        rw [if_neg other] at key
        have := h.missing p mem
        rw [titles.keyed.titleWay_iff.2 ⟨valid', key⟩] at this
        cases this
  | parameter number value =>
    let v : State := { s with params := s.params.write number value }
    have records' : RecordInv v := records.congr rfl rfl
    exact (h.of_same (u := v) rfl rfl rfl).acts records' (parameterEffect_acts (b := false) number v)
  | clear =>
    have records' := records.acts (clearedLine_acts (b := false) s)
    have retired : RecordInv (retireAll (clearedLine s)) := (records'.enterEach _ _ _).offerAll _
    let v := emptyPlaces (retireAll (clearedLine s))
    have emptied' : RecordInv v := retired.congr (by simp [v]) (by simp [v])
    have quiet k : waiters k v = 0 := by
      rw [waiters, show v.records = (retireAll (clearedLine s)).records by simp [v], List.countP_eq_zero]
      exact fun x mem waits => (waitsOn_iff.1 waits).2.2.2 (retireAll_retiring records' x mem)
    have emptied : PendingBut none v :=
      ⟨Nat.zero_le _, List.nodup_nil, nofun, nofun, fun k pos => absurd (quiet k) pos.ne', nofun⟩
    have run : Acts false v (idleRefresh (recomputeDemand v)) := (recomputeDemand_acts _).trans (idleRefresh_acts _)
    exact emptied.acts emptied' run

theorem PendingBut.refillNotices {s : State} (records : RecordInv s) (h : PendingBut none s) : PendingBut none (refillNotices s) := by
  unfold Machine.refillNotices
  split
  · next t _ order =>
    exact h.offerRetired records fun r mem e => records.retiring_stage r mem (by rw [order, e]; exact List.mem_cons_self)
  · split
    · exact h.of_same rfl rfl rfl
    · exact h

theorem PendingBut.event {s u : State} (records : RecordInv s) (titles : TitleInv s) (h : PendingBut none s) (event : Event true s u) :
    PendingBut none u := by
  cases event with
  | words ws =>
    obtain ⟨recordsSame, -, titlesSame, listSame, -⟩ := takeWords_frame ws s
    exact h.of_same listSame titlesSame recordsSame
  | noticeSent e rest ws =>
    let v : State := { frameOut ws s with link := { (frameOut ws s).link with notices := rest } }
    have records' : RecordInv v := records.congr rfl rfl
    exact ((h.of_same (u := v) rfl rfl rfl).refillNotices records').of_same rfl rfl rfl
  | request q rest hd _ _ served =>
    let v : State := { s with link := { s.link with requests := rest } }
    have records' : RecordInv v := records.congr rfl rfl
    have titles' : TitleInv v := titles.congr (fun _ _ => rfl) fun _ => rfl
    have list' : PendingBut none v := h.of_same rfl rfl rfl
    have handled : PendingBut none hd.state := served.acts_or_table.elim (list'.acts records') (list'.table records' titles')
    exact handled.of_same rfl rfl rfl
  | report reported => exact h.acts records reported.acts
  | _ => exact h.of_same rfl rfl rfl

/-! ### Every step -/

theorem TitleInv.step {s t : State} (records : RecordInv s) (h : TitleInv s) (stepped : step s = .next t) : TitleInv t := by
  refine (step_keeps (P := fun s => RecordInv s ∧ TitleInv s) ?_ ?_ ?_ ?_ stepped ⟨records, h⟩).2
  · exact fun _ h => ⟨h.1.congr rfl rfl, h.2.congr (fun _ _ => rfl) fun _ => rfl⟩
  · exact fun _ _ => ⟨.of_empty rfl rfl, .of_empty rfl reset_entryAt⟩
  · exact fun _ _ h => ⟨h.1.congr rfl rfl, h.2.congr (fun _ _ => rfl) fun _ => rfl⟩
  · exact fun _ _ h event => ⟨(h.1.event event).congr (by simp) (by simp),
      (h.2.event h.1 event).congr (fun _ _ => by simp [entryAt]) fun _ => by simp [reliance]⟩

theorem PendingBut.step {s t : State} (records : RecordInv s) (titles : TitleInv s) (h : PendingBut none s)
    (stepped : step s = .next t) : PendingBut none t := by
  refine (step_keeps (P := fun s => RecordInv s ∧ TitleInv s ∧ PendingBut none s) ?_ ?_ ?_ ?_ stepped ⟨records, titles, h⟩).2.2
  · exact fun _ h => ⟨h.1.congr rfl rfl, h.2.1.congr (fun _ _ => rfl) fun _ => rfl, h.2.2.of_same rfl rfl rfl⟩
  · exact fun _ _ => ⟨.of_empty rfl rfl, .of_empty rfl reset_entryAt, Nat.zero_le _, List.nodup_nil, nofun, nofun, nofun, nofun⟩
  · exact fun _ _ h => ⟨h.1.congr rfl rfl, h.2.1.congr (fun _ _ => rfl) fun _ => rfl, h.2.2.of_same rfl rfl rfl⟩
  · exact fun _ _ h event => ⟨(h.1.event event).congr (by simp) (by simp),
      (h.2.1.event h.1 event).congr (fun _ _ => by simp [entryAt]) fun _ => by simp [reliance],
      (h.2.2.event h.1 h.2.1 event).of_same (by simp) (by simp) (by simp)⟩

/-- Settles O57: the acts keep the counts of pins and of waiting records, and so do the requests on the tables. -/
theorem titleInvariantsAreKept : Obligations.TitleInvariantsAreKept :=
  ⟨fun _ _ records titles stepped => titles.step records stepped,
    fun _ _ records titles pending stepped =>
      pendingInv_iff.2 ((pendingInv_iff.1 pending).step records titles stepped)⟩

end Sys2Proof.Machine
end

section
/-! The idle timer (R118): every step keeps it running exactly while its conditions hold. -/

namespace Sys2Proof.Machine

/-- What holds after a step, from what held before it; an event may read more of the state before than it leaves. -/
theorem step_leads {P Q : State → Prop} (passes : ∀ s, P s → Q (tick s))
    (resets : ∀ rest n, Q { State.reset with pending := rest, openChoices := n })
    (opens : ∀ s rest, P s → P (openStep { s with pending := rest })) (stands : ∀ s, P s → Q s)
    (event : ∀ s u, P s → Event true s u → Q (noteSending u)) {s t : State} (h : step s = .next t) (hs : P s) : Q t := by
  rcases step_cases h with ⟨-, rfl⟩ | ⟨rest, rfl⟩ | ⟨rest, rfl | ⟨u, happens, rfl⟩⟩
  · exact passes s hs
  · exact resets rest s.openChoices
  · exact stands _ (opens s rest hs)
  · exact event _ u (opens s rest hs) happens

/-- Records and places read by `PlaceInv` are as they were. -/
theorem PlaceInv.congr {s u : State} (h : PlaceInv s) (records : u.records = s.records) (tracks : u.tracks = s.tracks)
    (readers : u.readers = s.readers) (head : u.head = s.head) (press : u.press = s.press) (jackets : u.jackets = s.jackets) :
    PlaceInv u := by
  have same st : standing u st = standing s st := by
    cases st <;> simp only [standing, tracks, head, press]
  constructor
  · intro st a b t
    rw [same, records]
    exact h.stands st a b t
  · intro st
    rw [same]
    exact h.once st
  · rw [records, press]; exact h.position
  · rw [head, tracks]; exact h.married
  · rw [tracks, head]; exact h.waiting
  · rw [readers, head, tracks]; exact h.readS3
  · rw [readers, tracks]; exact h.readS5
  · rw [jackets, tracks, readers]; exact h.jacketing

/-- R6: a record stands at no place but that of its stage. -/
theorem PlaceInv.not_standing {s : State} (places : PlaceInv s) (records : RecordInv s) {t : Ticket} {r : BookRecord}
    (live : liveRecord t s = some r) {st : Stage} (other : r.stage ≠ st) (notAdmitted : st ≠ .admitted) (notRetiring : st ≠ .retiring) :
    t ∉ standing s st := by
  intro mem
  obtain ⟨r', mem', ticket', stage'⟩ := (places.stands st notAdmitted notRetiring t).1 mem
  obtain ⟨mem, ticket, -⟩ := (liveRecord_iff_mem records.tickets).1 live
  exact other (List.inj_on_of_nodup_map records.tickets mem mem' (ticket.trans ticket'.symm) ▸ stage')

theorem dropTicket_of_ne {t : Ticket} {o : Option Ticket} (h : o ≠ some t) : dropTicket t o = o := if_neg h

/-- R99: a ticket that stands at no press position leaves the positions as they are. -/
theorem Positions.drop_of_not_mem {t : Ticket} {p : Positions} (h : t ∉ p.tickets) : p.drop t = p := by
  simp only [Positions.tickets, List.mem_filterMap, id] at h
  have free {o : Option Ticket} (mem : o ∈ [p.p1, p.p2, p.p3, p.p4, p.p5, p.p6]) : dropTicket t o = o :=
    dropTicket_of_ne fun e => h ⟨o, mem, e⟩
  simp only [Positions.drop, free List.mem_cons_self, free (List.mem_of_elem_eq_true (a := p.p2) (by simp)),
    free (List.mem_of_elem_eq_true (a := p.p3) (by simp)), free (List.mem_of_elem_eq_true (a := p.p4) (by simp)),
    free (List.mem_of_elem_eq_true (a := p.p5) (by simp)), free (List.mem_of_elem_eq_true (a := p.p6) (by simp))]

/-! ### The conditions of the idle timer -/

/-- What the timer and its conditions read is as it was. -/
theorem IdleInv.congr {s u : State} (h : IdleInv s) (press : u.press = s.press) (tracks : u.tracks = s.tracks)
    (head : u.head = s.head) (params : u.params = s.params) : IdleInv u := by
  have runs : idleRuns u = idleRuns s := idleRuns_congr (by rw [press]) (by rw [press]) tracks head params
  rw [IdleInv, press, runs]
  exact h

/-- R118: the refresh brings the timer up to date. -/
theorem IdleInv.refreshed (s : State) : IdleInv (idleRefresh s) := by
  have runs : idleRuns (idleRefresh s) = idleRuns s := idleRuns_congr rfl rfl rfl rfl rfl
  rw [IdleInv, runs, idleRefresh_timer]
  cases idleRuns s <;> rfl

theorem IdleInv.settled (s : State) : IdleInv (settleLine s) := .refreshed _

/-- With a head that holds a record the timer's conditions do not read which. -/
theorem IdleInv.busy {s u : State} (h : IdleInv s) (press : u.press = s.press) (tracks : u.tracks = s.tracks)
    (params : u.params = s.params) (before : s.head ≠ .idle) (behind : u.head ≠ .idle) : IdleInv u := by
  have head : (u.head == .idle) = (s.head == .idle) := by
    rw [beq_eq_false_iff_ne.2 before, beq_eq_false_iff_ne.2 behind]
  rw [IdleInv, press, idleRuns, press, tracks, params, head]
  exact h

theorem IdleInv.tryTakeCase {s : State} (h : IdleInv s) : IdleInv (tryTakeCase s) := by
  by_cases waits : ∃ t l, s.head = .waitCase t (some l)
  · obtain ⟨t, l, head⟩ := waits
    unfold Machine.tryTakeCase
    simp only [head]
    split
    · split
      · exact h.busy (by simp) (by simp) (by simp) (by simp [head]) (by simp [takeCase, releaseLanes, setLane])
      · exact h
    · exact h
  · rw [tryTakeCase_other fun t l e => waits ⟨t, l, e⟩]
    exact h

theorem IdleInv.takeCaseRead {s : State} (h : IdleInv s) (k : TitleKey) : IdleInv (takeCaseRead k s) := by
  have steer (l : LaneId) (n : Nat) : IdleInv (steerCase l k n s) := h.congr (by simp) (by simp) (by simp) (by simp)
  have recirculated : IdleInv (send .s2Recirculate s) := h.congr (by simp) (by simp) (by simp) (by simp)
  have join (l : LaneId) (n : Nat) : IdleInv (joinLane l k n s) := by
    unfold joinLane
    dsimp only
    split
    · exact recirculated
    · split
      · split
        · exact (steer l (n + 1)).tryTakeCase
        · exact steer l (n + 1)
      · exact steer l (n + 1)
  unfold Machine.takeCaseRead
  split
  · exact join _ _
  · exact join _ _
  · split
    · exact recirculated
    · split
      · exact steer _ _
      · exact recirculated

/-- R16: a record that is only admitted stands at no place, so its retirement leaves the conditions. -/
theorem IdleInv.withdraw {s : State} (h : IdleInv s) (records : RecordInv s) (places : PlaceInv s) {t : Ticket} {r : BookRecord}
    (live : liveRecord t s = some r) (stage : r.stage = .admitted) (o : BookOutcome) (e : Option Reason) :
    IdleInv (retire t o e s) := by
  have absent {st : Stage} (notAdmitted : st ≠ .admitted) (notRetiring : st ≠ .retiring) : t ∉ standing s st :=
    places.not_standing records live (stage ▸ notAdmitted.symm) notAdmitted notRetiring
  obtain ⟨tracks, -, press⟩ := retire_places live o e
  have positions : s.press.positions.drop t = s.press.positions :=
    Positions.drop_of_not_mem (absent (st := .press) nofun nofun)
  have gate : dropTicket t s.tracks.gateHold = s.tracks.gateHold :=
    dropTicket_of_ne fun e => absent (st := .gated) nofun nofun (by simp [standing, e])
  have entry : dropTicket t s.tracks.entry = s.tracks.entry :=
    dropTicket_of_ne fun e => absent (st := .entry) nofun nofun (by simp [standing, e])
  have infeed : s.tracks.infeed.filter (fun x => !(x.ticket == t)) = s.tracks.infeed := by
    refine List.filter_eq_self.2 fun x mem => ?_
    have : x.ticket ≠ t := fun e => absent (st := .infeed) nofun nofun (e ▸ List.mem_map_of_mem mem)
    simpa using this
  rw [positions] at press
  have runs : idleRuns (retire t o e s) = idleRuns s := by
    simp only [idleRuns, tracks, press, retire_frame, forgetTicket, vacate, gate, entry, infeed]
  rw [IdleInv, runs, press]
  exact h

/-! ### The events -/

theorem IdleInv.standby (s : State) : IdleInv (goStandby s) := by
  have timer : (goStandby s).press.idleTimer = none := by
    unfold goStandby
    by_cases same : (send .s4Standby { s with press := { s.press with idleTimer := none } }).press.state = .standby
    · rw [setPress_same same]; simp
    · rw [setPress_change same]; simp
  have state : (goStandby s).press.state = .standby := by
    unfold goStandby
    by_cases same : (send .s4Standby { s with press := { s.press with idleTimer := none } }).press.state = .standby
    · rw [setPress_same same]; exact same
    · rw [setPress_change same]; simp
  rw [IdleInv, timer, idleRuns, state]
  simp

theorem IdleInv.reports {s u : State} (h : IdleInv s) (reported : Reports s u) : IdleInv u := by
  cases reported with
  | nothing => exact h
  | block reading m =>
    have stray : IdleInv (refuseStray reading s) := h.congr (by simp [refuseStray, Machine.stray])
      (by simp [refuseStray, Machine.stray]) (by simp [refuseStray, Machine.stray]) (by simp [refuseStray, Machine.stray])
    unfold sortBlock
    split
    · exact stray
    repeat' split
    all_goals first | exact h | exact stray | exact .settled _
  | reading => exact .settled _
  | caseUnread => exact h.congr (by simp) (by simp) (by simp) (by simp)
  | caseRead k => exact h.takeCaseRead k
  | purgeDone l =>
    unfold endPurge
    split
    · exact .settled _
    · exact h
  | purgeTimeout => exact .settled _
  | waitExpiry => exact .settled _
  | married reading =>
    have other : IdleInv (marriedElse reading s) := h.congr (by simp) (by simp) (by simp) (by simp)
    unfold takeMarried
    split
    · split
      · unfold marriedHead
        split
        · exact h
        · split
          · exact .settled _
          · exact h
      · exact other
    · exact other
  | temperature => exact .settled _
  | indexReady =>
    unfold takeIndexReady
    split
    · split
      · exact .settled _
      · have held : IdleInv { s with press := { s.press with index := .held } } := h
        exact held.congr (by simp) (by simp) (by simp) (by simp)
    · exact h.congr (by simp) (by simp) (by simp) (by simp)
    · exact h
  | indexDone =>
    unfold takeIndexDone
    split
    · exact .settled _
    · exact h
  | idleExpiry => exact .standby s
  | jacketRead =>
    unfold takeJacketRead
    split
    · split
      · split
        · exact h.congr (by simp) (by simp) (by simp) (by simp)
        · exact .settled _
      · exact .settled _
    · exact h
  | applied reading =>
    have stray : IdleInv (Machine.stray .s5 reading s) := h.congr (by simp [Machine.stray]) (by simp [Machine.stray])
      (by simp [Machine.stray]) (by simp [Machine.stray])
    unfold takeApplied
    repeat' split
    all_goals first | exact h | exact stray | exact .settled _
  | passed reading =>
    have stray : IdleInv (Machine.stray .s6 reading s) := h.congr (by simp [Machine.stray]) (by simp [Machine.stray])
      (by simp [Machine.stray]) (by simp [Machine.stray])
    unfold takePassed
    repeat' split
    all_goals first | exact stray | exact .settled _
  | floor => exact h.congr (by simp) (by simp) (by simp) (by simp)

theorem IdleInv.parameter {s : State} (h : IdleInv s) (number value : Nat) :
    IdleInv (parameterEffect number { s with params := s.params.write number value }) := by
  let w : State := { s with params := s.params.write number value }
  have written (other : number ≠ 15) : IdleInv w := by
    have same : (s.params.write number value).idleTime = s.params.idleTime :=
      Params.value_write_other (m := 15) other.symm s.params value
    rw [IdleInv, idleRuns]
    simp only [w, same]
    exact h
  have demanded (other : number ≠ 15) : IdleInv (recomputeDemand w) := by
    have changed : IdleInv { w with press := { w.press with pd := pressDemand w } } := written other
    exact changed.congr (by simp [recomputeDemand]) (by simp) (by simp) (by simp)
  have recomputed (other : number ≠ 15) : IdleInv (recomputePitch w) :=
    (written other).congr (by simp) (by simp) (by simp) (by simp)
  unfold parameterEffect
  split
  · exact demanded (by decide)
  · exact demanded (by decide)
  · exact .refreshed _
  · exact recomputed (by decide)
  · exact recomputed (by decide)
  · exact recomputed (by decide)
  · next other _ _ _ => exact written other

theorem IdleInv.serves {s u : State} (h : IdleInv s) (records : RecordInv s) (places : PlaceInv s) (served : Serves s u) :
    IdleInv u := by
  cases served with
  | unchanged => exact h
  | withdrawn t r _ live stage => exact h.withdraw records places live stage _ _
  | forced => exact .settled _
  | floor => exact h.congr (by simp) (by simp) (by simp) (by simp)
  | jacketsLoaded => exact h
  | jacketsReleased => exact h
  | run => exact .settled _
  | stopSoft => exact h.congr (by simp [softStop]) (by simp [softStop]) (by simp [softStop]) (by simp [softStop])
  | stopNow => exact h.congr (by simp [stopNowLine]) (by simp [stopNowLine]) (by simp [stopNowLine]) (by simp [stopNowLine])
  | runOut => exact .settled _
  | release => exact .settled _
  | table served =>
    cases served with
    | admitted => exact h.congr (by simp) (by simp) (by simp) (by simp)
    | attached => exact .settled _
    | updated => exact h.congr (by simp [updateTitle]) (by simp [updateTitle]) (by simp [updateTitle]) (by simp [updateTitle])
    | installed => exact .settled _
    | dropped => exact h.congr (by simp) (by simp) (by simp) (by simp)
    | parameter number value => exact h.parameter number value
    | clear => exact .refreshed _

theorem IdleInv.event {s u : State} (h : IdleInv s) (records : RecordInv s) (places : PlaceInv s) (event : Event true s u) :
    IdleInv u := by
  cases event with
  | words ws =>
    obtain ⟨-, -, -, -, tracks, -, -, head, press, -, -, params⟩ := takeWords_frame ws s
    exact h.congr press tracks head params
  | noticeSent => exact h.congr (by simp) (by simp) (by simp) (by simp)
  | request q rest hd _ _ served =>
    let v : State := { s with link := { s.link with requests := rest } }
    have dequeued : IdleInv v := h
    have handled : IdleInv hd.state :=
      dequeued.serves (records.congr rfl rfl) (places.congr rfl rfl rfl rfl rfl rfl) served
    exact handled
  | report reported => exact h.reports reported
  | _ => exact h

theorem IdleInv.tick {s : State} (h : IdleInv s) : IdleInv (tick s) := by
  have timer : (Machine.tick s).press.idleTimer.isSome = s.press.idleTimer.isSome := by simp [Machine.tick, countTimers, countDown]
  have runs : idleRuns (Machine.tick s) = idleRuns s := idleRuns_congr rfl rfl rfl rfl rfl
  rw [IdleInv, timer, runs]
  exact h

theorem IdleInv.step {s t : State} (h : IdleInv s) (records : RecordInv s) (places : PlaceInv s) (stepped : step s = .next t) :
    IdleInv t := by
  refine step_leads (P := fun s => IdleInv s ∧ RecordInv s ∧ PlaceInv s) (Q := IdleInv) ?_ ?_ ?_ ?_ ?_ stepped ⟨h, records, places⟩
  · exact fun _ h => h.1.tick
  · exact fun _ _ => rfl
  · exact fun _ _ h => ⟨h.1, h.2.1.congr rfl rfl, h.2.2.congr rfl rfl rfl rfl rfl rfl⟩
  · exact fun _ h => h.1
  · exact fun _ _ h happens => (h.1.event h.2.1 h.2.2 happens).congr (by simp) (by simp) (by simp) (by simp)

end Sys2Proof.Machine
end

section
/-! The press demand (R116, R117): every step keeps it that of the books as they stand. -/

namespace Sys2Proof.Machine

/-! ### What the demand reads -/

/-- What a record gives to PD (R116). -/
abbrev bookShare (t : Ticket) (s : State) : Option (Option Nat × Option Nat) := (liveRecord t s).map fun r => (r.dwell, r.eff)

theorem placeDemand_some (s : State) (n : Nat) (t : Ticket) : placeDemand s n (some t) =
    match bookShare t s with
    | none => 0
    | some (d, e) => bookDemand (factor s) s.params.tX n (d.getD 0) (e.getD 0) := by
  simp only [placeDemand, bookShare]
  cases liveRecord t s <;> rfl

/-- R116: PD reads the entry place, the press positions and what the records there give to it. -/
theorem pressDemand_same {s u : State} (entry : u.tracks.entry = s.tracks.entry) (positions : u.press.positions = s.press.positions)
    (temp : u.press.temp = s.press.temp) (tRef : u.params.tRef = s.params.tRef) (tX : u.params.tX = s.params.tX)
    (books : ∀ t, AtPress t s → bookShare t u = bookShare t s) : pressDemand u = pressDemand s := by
  have factors : factor u = factor s := by simp only [factor, temp, tRef]
  have place (n : Nat) {o : Option Ticket} (there : ∀ t, o = some t → AtPress t s) : placeDemand u n o = placeDemand s n o := by
    cases o with
    | none => rfl
    | some t => rw [placeDemand_some, placeDemand_some, books t (there t rfl), factors, tX]
  have atEntry : ∀ t, s.tracks.entry = some t → AtPress t s := fun t => .inl
  have atPosition {o : Option Ticket}
      (mem : o ∈ [s.press.positions.p1, s.press.positions.p2, s.press.positions.p3, s.press.positions.p4, s.press.positions.p5,
        s.press.positions.p6]) : ∀ t, o = some t → AtPress t s :=
    fun _ e => .inr (List.mem_filterMap.2 ⟨o, mem, show id o = _ from e⟩)
  simp only [pressDemand, entry, positions]
  rw [place 6 atEntry, place 6 (atPosition (by simp)), place 5 (atPosition (by simp)), place 4 (atPosition (by simp)),
    place 3 (atPosition (by simp)), place 2 (atPosition (by simp)), place 1 (atPosition (by simp))]

/-- Nothing that PD reads has changed, and neither has PD. -/
theorem DemandInv.congr {s u : State} (h : DemandInv s) (records : u.records = s.records) (tracks : u.tracks = s.tracks)
    (positions : u.press.positions = s.press.positions) (temp : u.press.temp = s.press.temp) (params : u.params = s.params)
    (pd : u.press.pd = s.press.pd) : DemandInv u := by
  rw [DemandInv, pd, pressDemand_congr records tracks positions temp params]
  exact h

/-- R117: the recompute makes PD that of the books. -/
theorem DemandInv.recomputed (s : State) : DemandInv (recomputeDemand s) := by
  rw [DemandInv, recomputeDemand_pd]
  exact (pressDemand_congr (by simp) (by simp) (by simp [recomputeDemand]) (by simp [recomputeDemand]) (by simp)).symm

/-! ### The way to the head and the press stay apart -/

/-- A book at the press is not on the way to the head. -/
def Apart (s : State) : Prop := ∀ t, AtPress t s → ¬ Upstream t s

theorem Apart.mono {s u : State} (h : Apart s) (press : ∀ t, AtPress t u → AtPress t s) (upstream : ∀ t, Upstream t u → Upstream t s) :
    Apart u := fun t at' up => h t (press t at') (upstream t up)

theorem Apart.congr {s u : State} (h : Apart s) (records : u.records = s.records) (tracks : u.tracks = s.tracks)
    (readers : u.readers = s.readers) (positions : u.press.positions = s.press.positions) : Apart u :=
  h.mono (fun t => by simp only [AtPress, tracks, positions]; exact id)
    fun t => by simp only [Upstream, tracks, readers, liveRecord_congr records]; exact id

theorem upstream_stage {t : Ticket} {s : State} {r : BookRecord} (live : liveRecord t s = some r) (unmarried : r.stage.unmarried = true) :
    Upstream t s := .inr (.inr (.inr ⟨r, live, unmarried⟩))

/-- A record that stands in a stage of the places. -/
theorem PlaceInv.stage_of_standing {s : State} (places : PlaceInv s) {st : Stage} (notAdmitted : st ≠ .admitted)
    (notRetiring : st ≠ .retiring) {t : Ticket} (mem : t ∈ standing s st) : ∃ r ∈ s.records, r.ticket = t ∧ r.stage = st :=
  (places.stands st notAdmitted notRetiring t).1 mem

theorem PlaceInv.live_of_standing {s : State} (places : PlaceInv s) (records : RecordInv s) {st : Stage} (notAdmitted : st ≠ .admitted)
    (notRetiring : st ≠ .retiring) {t : Ticket} (mem : t ∈ standing s st) : ∃ r, liveRecord t s = some r ∧ r.stage = st := by
  obtain ⟨r, there, ticket, stage⟩ := places.stage_of_standing notAdmitted notRetiring mem
  exact ⟨r, (liveRecord_iff_mem records.tickets).2 ⟨there, ticket, stage ▸ notRetiring⟩, stage⟩

/-- R6: a ticket that stands upstream of the head is that of a record on the way there. -/
theorem PlaceInv.upstream_live {s : State} (places : PlaceInv s) (records : RecordInv s) {t : Ticket} (up : Upstream t s) :
    ∃ r, liveRecord t s = some r ∧ r.stage.unmarried = true := by
  have infeed (mem : t ∈ s.tracks.infeed.map (·.ticket)) : ∃ r, liveRecord t s = some r ∧ r.stage.unmarried = true := by
    obtain ⟨r, live, stage⟩ := places.live_of_standing records (st := .infeed) nofun nofun mem
    exact ⟨r, live, by rw [stage]; rfl⟩
  rcases up with gate | track | waits | record
  · obtain ⟨r, live, stage⟩ := places.live_of_standing records (st := .gated) nofun nofun (t := t) (by simp [standing, gate])
    exact ⟨r, live, by rw [stage]; rfl⟩
  · exact infeed track
  · refine infeed ?_
    obtain ⟨x, first, rfl⟩ := Option.map_eq_some_iff.1 (places.readS3 t waits).2
    exact List.mem_map_of_mem (List.mem_of_head? first)
  · exact record

/-- R6: a ticket at the press is that of a record in ENTRY or PRESS. -/
theorem PlaceInv.atPress_live {s : State} (places : PlaceInv s) (records : RecordInv s) {t : Ticket} (atPress : AtPress t s) :
    ∃ r, liveRecord t s = some r ∧ (r.stage = .entry ∨ r.stage = .press) := by
  rcases atPress with entry | position
  · obtain ⟨r, live, stage⟩ := places.live_of_standing records (st := .entry) nofun nofun (t := t) (by simp [standing, entry])
    exact ⟨r, live, .inl stage⟩
  · obtain ⟨r, live, stage⟩ := places.live_of_standing records (st := .press) nofun nofun position
    exact ⟨r, live, .inr stage⟩

theorem PlaceInv.apart {s : State} (places : PlaceInv s) (records : RecordInv s) : Apart s := by
  intro t atPress up
  obtain ⟨r, live, unmarried⟩ := places.upstream_live records up
  obtain ⟨r', live', stage⟩ := places.atPress_live records atPress
  rw [live] at live'
  cases live'
  rcases stage with e | e <;> rw [e] at unmarried <;> cases unmarried

/-! ### Records that change and records that leave -/

theorem liveRecord_putRecord {s : State} {r r0 : BookRecord} (live : liveRecord r.ticket s = some r0) (stage : r.stage ≠ .retiring)
    (t : Ticket) : liveRecord t (putRecord r s) = if t = r.ticket then some r else liveRecord t s := by
  split
  · next e =>
    subst e
    exact liveRecord_iff.2 ⟨findRecord_putRecord_same (liveRecord_iff.1 live).1, stage⟩
  · next e => rw [liveRecord, liveRecord, findRecord_putRecord_other e]

/-- A record put in the place of one that gives as much to PD. -/
theorem bookShare_putRecord {s : State} {r r0 : BookRecord} (live : liveRecord r.ticket s = some r0) (stage : r.stage ≠ .retiring)
    (dwell : r.dwell = r0.dwell) (eff : r.eff = r0.eff) (t : Ticket) : bookShare t (putRecord r s) = bookShare t s := by
  simp only [bookShare, liveRecord_putRecord live stage]
  split
  · next e =>
    subst e
    simp [live, dwell, eff]
  · rfl

/-- A record put in its place takes no other one upstream. -/
theorem Apart.putRecord {s : State} (h : Apart s) {r r0 : BookRecord} (live : liveRecord r.ticket s = some r0)
    (stage : r.stage ≠ .retiring) (upstream : r.stage.unmarried = true → Upstream r.ticket s) : Apart (putRecord r s) := by
  refine h.mono (fun _ => id) fun t up => ?_
  rcases up with gate | track | waits | ⟨r', live', unmarried⟩
  · exact .inl gate
  · exact .inr (.inl track)
  · exact .inr (.inr (.inl waits))
  · rw [liveRecord_putRecord live stage] at live'
    split at live'
    · next e =>
      cases live'
      subst e
      exact upstream unmarried
    · exact upstream_stage live' unmarried

/-- R7: freeing a record in RETIRING takes no live record. -/
theorem liveRecord_offerRetired {s : State} (records : RecordInv s) {t : Ticket}
    (retiring : ∀ r ∈ s.records, r.ticket = t → r.stage = .retiring) (u : Ticket) :
    liveRecord u (offerRetired t s) = liveRecord u s := by
  ext r
  rw [liveRecord_iff_mem (records.offerRetired t).tickets, liveRecord_iff_mem records.tickets, (offerRetired_records t s).1,
    List.mem_filter]
  constructor
  · rintro ⟨⟨mem, -⟩, rest⟩
    exact ⟨mem, rest⟩
  · rintro ⟨mem, ticket, stage⟩
    exact ⟨⟨mem, by simpa using fun e => stage (retiring r mem e)⟩, ticket, stage⟩

theorem liveRecord_offerAll {s : State} (records : RecordInv s) {ts : List Ticket}
    (retiring : ∀ r ∈ s.records, r.ticket ∈ ts → r.stage = .retiring) (u : Ticket) :
    liveRecord u (offerAll ts s) = liveRecord u s := by
  induction ts generalizing s with
  | nil => rfl
  | cons t ts ih =>
    unfold offerAll
    split
    · rw [ih (records.offerRetired t), liveRecord_offerRetired records fun r mem e => retiring r mem (by simp [e])]
      intro r mem there
      rw [(offerRetired_records t s).1] at mem
      exact retiring r (List.mem_filter.1 mem).1 (List.mem_cons_of_mem t there)
    · rfl

/-- R7, R8: after a retirement its own ticket finds no live record, and every other one what it found. -/
theorem liveRecord_retire {s : State} (records : RecordInv s) (t : Ticket) (o : BookOutcome) (e : Option Reason) (u : Ticket) :
    liveRecord u (retire t o e s) = if u = t then none else liveRecord u s := by
  have entered := records.enterRetiring t o e
  rw [retire, liveRecord_offerAll entered entered.retiring_stage]
  cases live : liveRecord t s with
  | none =>
    rw [enterRetiring_absent live]
    split
    · next same => rw [same, live]
    · rfl
  | some r =>
    obtain ⟨changed, -⟩ := enterRetiring_live live o e
    have ticket := findRecord_ticket (liveRecord_iff.1 live).1
    let r' : BookRecord := { r with stage := .retiring, outcome := some o, reasons := retireReasons o r.flags e, position := none }
    have found : findRecord u (enterRetiring t o e s) = findRecord u (putRecord r' s) := findRecord_congr changed
    have there : findRecord r'.ticket s = some r := by rw [show r'.ticket = t from ticket]; exact (liveRecord_iff.1 live).1
    rw [liveRecord, found]
    split
    · next same =>
      rw [same, ← (show r'.ticket = t from ticket), findRecord_putRecord_same there]
      rfl
    · next other =>
      rw [findRecord_putRecord_other (by rw [show r'.ticket = t from ticket]; exact other)]
      rfl

theorem dropTicket_eq_some {t u : Ticket} {o : Option Ticket} : dropTicket t o = some u ↔ o = some u ∧ u ≠ t := by
  unfold dropTicket
  split
  · next e =>
    rw [e]
    simp only [reduceCtorEq, Option.some.injEq, false_iff, not_and, not_not]
    exact Eq.symm
  · next ne => exact ⟨fun e => ⟨e, fun same => ne (same ▸ e)⟩, fun h => h.1⟩

theorem mem_drop_tickets {t u : Ticket} {p : Positions} : u ∈ (p.drop t).tickets ↔ u ∈ p.tickets ∧ u ≠ t := by
  simp only [Positions.tickets, Positions.drop, List.mem_filterMap, List.mem_cons, List.not_mem_nil, or_false, id, or_and_right,
    exists_or, exists_eq_left, dropTicket_eq_some]

/-- R8: a retirement takes no other book to the press or from it, and none upstream. -/
theorem atPress_retire {s : State} {t u : Ticket} {o : BookOutcome} {e : Option Reason} (h : AtPress u (retire t o e s)) :
    AtPress u s := by
  cases live : liveRecord t s with
  | none =>
    rw [retire_absent live] at h
    simpa [AtPress] using h
  | some r =>
    obtain ⟨tracks, -, press⟩ := retire_places live o e
    rw [AtPress, tracks, press] at h
    rcases h with entry | position
    · exact .inl (dropTicket_eq_some.1 entry).1
    · exact .inr (mem_drop_tickets.1 position).1

theorem upstream_retire {s : State} (records : RecordInv s) {t u : Ticket} {o : BookOutcome} {e : Option Reason}
    (h : Upstream u (retire t o e s)) : Upstream u s := by
  have stays : (∃ r, liveRecord u (retire t o e s) = some r ∧ r.stage.unmarried = true) → Upstream u s := by
    rintro ⟨r, found, unmarried⟩
    rw [liveRecord_retire records] at found
    split at found
    · cases found
    · exact upstream_stage found unmarried
  cases live : liveRecord t s with
  | none =>
    rcases h with gate | track | waits | record
    · rw [retire_absent live] at gate
      exact .inl (by simpa using gate)
    · rw [retire_absent live] at track
      exact .inr (.inl (by simpa using track))
    · rw [retire_absent live] at waits
      exact .inr (.inr (.inl (by simpa using waits)))
    · exact stays record
  | some r =>
    obtain ⟨tracks, readers, -⟩ := retire_places live o e
    rcases h with gate | track | waits | record
    · rw [tracks] at gate
      exact .inl (dropTicket_eq_some.1 gate).1
    · rw [tracks] at track
      obtain ⟨x, mem, rfl⟩ := List.mem_map.1 track
      exact .inr (.inl (List.mem_map_of_mem (List.mem_filter.1 mem).1))
    · rw [readers] at waits
      exact .inr (.inr (.inl (dropTicket_eq_some.1 waits).1))
    · exact stays record

theorem Apart.retire {s : State} (records : RecordInv s) (h : Apart s) (t : Ticket) (o : BookOutcome) (e : Option Reason) :
    Apart (retire t o e s) := h.mono (fun _ => atPress_retire) fun _ => upstream_retire records

/-- R8: the retirement of a book that is not at the press leaves PD as it was. -/
theorem pressDemand_retire {s : State} (records : RecordInv s) {t : Ticket} (calm : ∀ r, liveRecord t s = some r → ¬ AtPress t s)
    (o : BookOutcome) (e : Option Reason) : pressDemand (retire t o e s) = pressDemand s := by
  cases live : liveRecord t s with
  | none =>
    rw [retire_absent live]
    exact pressDemand_same (by simp) (by simp) (by simp) (by simp) (by simp) fun u _ => by
      rw [bookShare, liveRecord_offerAll records records.retiring_stage]
  | some r =>
    have away := calm r live
    obtain ⟨tracks, -, press⟩ := retire_places live o e
    refine pressDemand_same ?_ ?_ (by rw [press]) (by simp) (by simp) fun u atPress => ?_
    · rw [tracks]
      exact dropTicket_of_ne fun entry => away (.inl entry)
    · rw [press]
      exact Positions.drop_of_not_mem fun position => away (.inr position)
    · have other : u ≠ t := fun same => away (same ▸ atPress)
      rw [bookShare, liveRecord_retire records, if_neg other]

/-! ### The calm acts -/

/-- R7: a change of a record that keeps what it gives to PD. -/
theorem bookShare_changeRecord {t : Ticket} {f : BookRecord → BookRecord} {s : State}
    (mild : ∀ r, liveRecord t s = some r → Mild r (f r))
    (calm : ∀ r, liveRecord t s = some r → (f r).dwell = r.dwell ∧ (f r).eff = r.eff) (u : Ticket) :
    bookShare u (changeRecord t f s) = bookShare u s := by
  cases live : liveRecord t s with
  | none => rw [changeRecord_absent live]
  | some r =>
    have m := mild r live
    have ticket : (f r).ticket = t := m.ticket.trans (findRecord_ticket (liveRecord_iff.1 live).1)
    rw [changeRecord_live live]
    exact bookShare_putRecord (r0 := r) (by rw [ticket]; exact live) (fun e => (liveRecord_iff.1 live).2 (m.retiring.1 e))
      (calm r live).1 (calm r live).2 u

theorem Apart.act {s u : State} (records : RecordInv s) (h : Apart s) (act : Act true s u) : Apart u := by
  cases act with
  | edit t f _ mild calm =>
    cases live : liveRecord t s with
    | none => rwa [changeRecord_absent live]
    | some r =>
      have m := mild r live
      have ticket : (f r).ticket = t := m.ticket.trans (findRecord_ticket (liveRecord_iff.1 live).1)
      rw [changeRecord_live live]
      refine h.putRecord (r0 := r) (by rw [ticket]; exact live) (fun e => (liveRecord_iff.1 live).2 (m.retiring.1 e)) fun un => ?_
      rw [ticket]
      exact (calm rfl r live).2.2 un
  | retire => exact h.retire records _ _ _
  | resolve k r _ live =>
    have put : Apart (Machine.putRecord { r with resolved := true } s) := by
      refine h.putRecord (r0 := r) live (liveRecord_iff.1 live).2 fun un => upstream_stage live un
    exact put.congr (by simp) (by simp) (by simp) (by simp)
  | place x p j _ _ _ _ calm =>
    obtain ⟨entry, positions, -, up⟩ := calm rfl
    refine h.mono (fun t => ?_) fun t upstream => ?_
    · simp only [AtPress, entry, positions]
      exact id
    · rcases upstream with gate | track | waits | record
      · exact up t (.inl gate)
      · exact up t (.inr track)
      · exact .inr (.inr (.inl waits))
      · exact .inr (.inr (.inr record))
  | read rs _ calm =>
    refine h.mono (fun _ => id) fun t upstream => ?_
    rcases upstream with gate | track | waits | record
    · exact .inl gate
    · exact .inr (.inl track)
    · exact calm rfl t waits
    · exact .inr (.inr (.inr record))
  | send => exact h.congr (by simp) (by simp) (by simp) (by simp)
  | notice => exact h.congr (by simp) (by simp) (by simp) (by simp)
  | _ => exact h

theorem DemandInv.act {s u : State} (records : RecordInv s) (apart : Apart s) (h : DemandInv s) (act : Act true s u) : DemandInv u := by
  cases act with
  | edit t f _ mild calm =>
    have same : pressDemand (changeRecord t f s) = pressDemand s :=
      pressDemand_same (by simp) (by simp) (by simp) (by simp) (by simp) fun u _ =>
        bookShare_changeRecord mild (fun r live => ⟨(calm rfl r live).1, (calm rfl r live).2.1⟩) u
    have pd : (changeRecord t f s).press.pd = s.press.pd := by simp
    rw [DemandInv, same, pd]
    exact h
  | retire t o e _ calm =>
    have away : ∀ r, liveRecord t s = some r → ¬ AtPress t s := fun r live =>
      (calm rfl r live).elim (fun up atPress => apart t atPress up) id
    have pd : (retire t o e s).press.pd = s.press.pd := by
      cases live : liveRecord t s with
      | none => rw [retire_absent live]; simp
      | some r => rw [(retire_places live o e).2.2]
    rw [DemandInv, pressDemand_retire records away, pd]
    exact h
  | resolve k r _ live =>
    have same : pressDemand (pinTitle k (putRecord { r with resolved := true } s)) = pressDemand s := by
      refine pressDemand_same (by simp) (by simp) (by simp) (by simp) (by simp) fun u _ => ?_
      have found : liveRecord u (pinTitle k (putRecord { r with resolved := true } s)) =
          liveRecord u (putRecord { r with resolved := true } s) := liveRecord_congr (by simp)
      rw [bookShare, found]
      exact bookShare_putRecord (r := { r with resolved := true }) (r0 := r) live (liveRecord_iff.1 live).2 rfl rfl u
    have pd : (pinTitle k (putRecord { r with resolved := true } s)).press.pd = s.press.pd := by simp
    rw [DemandInv, same, pd]
    exact h
  | place x p j _ _ _ pd calm =>
    obtain ⟨entry, positions, temp, -⟩ := calm rfl
    have same : pressDemand { s with tracks := x, press := p, jackets := j } = pressDemand s :=
      pressDemand_same entry positions temp rfl rfl fun _ _ => rfl
    rw [DemandInv, same]
    exact pd.trans h
  | send => exact h.congr (by simp) (by simp) (by simp) (by simp) (by simp) (by simp)
  | notice => exact h.congr (by simp) (by simp) (by simp) (by simp) (by simp) (by simp)
  | demand => exact (pressDemand_congr rfl rfl rfl rfl rfl).symm
  | _ => exact h.congr rfl rfl rfl rfl rfl rfl

theorem Apart.acts {s u : State} (records : RecordInv s) (h : Apart s) (acts : Acts true s u) : Apart u := by
  induction acts with
  | refl => exact h
  | tail run act ih => exact ih.act (records.acts run) act

theorem DemandInv.acts {s u : State} (records : RecordInv s) (apart : Apart s) (h : DemandInv s) (acts : Acts true s u) :
    DemandInv u := by
  induction acts with
  | refl => exact h
  | tail run act ih => exact ih.act (records.acts run) (apart.acts records run) act

end Sys2Proof.Machine
end

section
/-! The press demand under the events, and every step (R117, R118). -/

namespace Sys2Proof.Machine

/-! ### Marriage and the entry place (R54, R93) -/

/-- R54: the head's PASTING book stands nowhere else on the way to the head. -/
def PastingAlone (s : State) : Prop := ∀ t l, s.head = .pasting t l →
  s.tracks.gateHold ≠ some t ∧ t ∉ s.tracks.infeed.map (·.ticket) ∧ s.readers.s3.waiting ≠ some t

theorem PlaceInv.pasting_alone {s : State} (places : PlaceInv s) (records : RecordInv s) : PastingAlone s := by
  intro t l head
  obtain ⟨r, live, stage⟩ := places.live_of_standing records (st := .head) nofun nofun (t := t) (by simp [standing, head])
  have infeed : t ∉ s.tracks.infeed.map (·.ticket) :=
    places.not_standing records live (st := .infeed) (by rw [stage]; nofun) nofun nofun
  refine ⟨fun gate => ?_, infeed, fun waits => infeed ?_⟩
  · exact places.not_standing records live (st := .gated) (by rw [stage]; nofun) nofun nofun (by simp [standing, gate])
  · obtain ⟨x, first, rfl⟩ := Option.map_eq_some_iff.1 (places.readS3 t waits).2
    exact List.mem_map_of_mem (List.mem_of_head? first)

theorem PastingAlone.retire {s : State} (h : PastingAlone s) (t : Ticket) (o : BookOutcome) (e : Option Reason) :
    PastingAlone (retire t o e s) := by
  intro u l head
  obtain ⟨gate, infeed, waits⟩ := h u l (by simpa using head)
  cases live : liveRecord t s with
  | none =>
    rw [retire_absent live]
    exact ⟨by simpa using gate, by simpa using infeed, by simpa using waits⟩
  | some r =>
    obtain ⟨tracks, readers, -⟩ := retire_places live o e
    rw [tracks, readers]
    refine ⟨fun e => gate (dropTicket_eq_some.1 e).1, fun mem => infeed ?_, fun e => waits (dropTicket_eq_some.1 e).1⟩
    obtain ⟨x, there, rfl⟩ := List.mem_map.1 mem
    exact List.mem_map_of_mem (List.mem_filter.1 there).1

/-- R93: the book that takes the entry place leaves the way to the head. -/
theorem Apart.takeWaiting {s : State} (h : Apart s) (alone : PastingAlone s) : Apart (takeWaiting s) := by
  unfold Machine.takeWaiting
  split
  · split
    · next t l head =>
      split
      · obtain ⟨gate, infeed, waits⟩ := alone t l head
        have stage (r : BookRecord) : (fixDwell s r).stage = .entry ∧ (fixDwell s r).ticket = r.ticket := by
          unfold fixDwell
          split <;> exact ⟨rfl, rfl⟩
        have found (u : Ticket) : liveRecord u (takeMarriage t l s) =
            if u = t then (liveRecord t s).map (fixDwell s) else liveRecord u s := by
          have same : liveRecord u (takeMarriage t l s) = liveRecord u (changeRecord t (fixDwell s) s) := liveRecord_congr rfl
          rw [same]
          cases live : liveRecord t s with
          | none =>
            rw [changeRecord_absent live]
            split
            · next e => rw [e, live]; rfl
            · rfl
          | some r =>
            have ticket : (fixDwell s r).ticket = t := (stage r).2.trans (findRecord_ticket (liveRecord_iff.1 live).1)
            rw [changeRecord_live live, liveRecord_putRecord (r0 := r) (by rw [ticket]; exact live) (by rw [(stage r).1]; nofun), ticket]
            rfl
        have tracks : (takeMarriage t l s).tracks = { s.tracks with entry := some t, waitingMarriage := none } := by
          simp [takeMarriage]
        intro u atPress up
        have away : u ≠ t → ¬ Upstream u s := by
          intro other
          refine h u ?_
          rw [AtPress, tracks] at atPress
          rcases atPress with entry | position
          · exact absurd (Option.some.inj entry).symm other
          · exact .inr (by simpa using position)
        by_cases e : u = t
        · subst e
          rw [Upstream, tracks] at up
          rcases up with gate' | infeed' | waits' | ⟨r, live, unmarried⟩
          · exact gate gate'
          · exact infeed infeed'
          · exact waits (by simpa using waits')
          · rw [found, if_pos rfl, Option.map_eq_some_iff] at live
            obtain ⟨r', -, rfl⟩ := live
            rw [(stage r').1] at unmarried
            cases unmarried
        · refine away e ?_
          rw [Upstream, tracks] at up
          rcases up with gate' | infeed' | waits' | ⟨r, live, unmarried⟩
          · exact .inl gate'
          · exact .inr (.inl infeed')
          · exact .inr (.inr (.inl (by simpa using waits')))
          · rw [found, if_neg e] at live
            exact upstream_stage live unmarried
      · exact h
    · exact h
  · exact h

/-! ### The reports -/

theorem DemandInv.settled {s : State} (h : DemandInv s) : DemandInv (settleLine s) :=
  h.congr (by simp) (by simp) (by simp [settleLine, idleRefresh]) (by simp [settleLine, idleRefresh]) (by simp)
    (by simp [settleLine, idleRefresh])

theorem DemandInv.softStopped {s : State} (h : DemandInv s) : DemandInv (softStopTest s) :=
  h.congr (by simp) (by simp) (by simp) (by simp) (by simp) (by simp)

theorem DemandInv.marriedElse {s : State} (h : DemandInv s) (reading : Reading Ticket) : DemandInv (marriedElse reading s) :=
  h.congr (by simp) (by simp) (by simp) (by simp) (by simp) (by simp)

/-- A live record on the way to the head, or one away from the press, retires calmly. -/
theorem PlaceInv.retires_calmly {s : State} (places : PlaceInv s) (records : RecordInv s) {t : Ticket} {r : BookRecord}
    (live : liveRecord t s = some r) (entry : r.stage ≠ .entry) (press : r.stage ≠ .press) : ¬ AtPress t s := by
  intro atPress
  obtain ⟨r', live', stage⟩ := places.atPress_live records atPress
  rw [live] at live'
  cases live'
  exact stage.elim entry press

theorem DemandInv.reports {s u : State} (h : DemandInv s) (records : RecordInv s) (places : PlaceInv s) (reported : Reports s u) :
    DemandInv u := by
  have calm (run : Acts true s u) : DemandInv u := h.acts records (places.apart records) run
  cases reported with
  | nothing => exact h
  | block => exact calm (sortBlock_acts _ _ _)
  | reading => exact calm ((takeReading_acts _ _ _).trans (settleLine_acts _))
  | caseUnread => exact calm (Acts.send _ _)
  | caseRead => exact calm (takeCaseRead_acts _ _)
  | purgeDone => exact calm (endPurge_acts _ _)
  | purgeTimeout => exact calm ((purgeTimedOut_acts _ _).trans (settleLine_acts _))
  | waitExpiry =>
    refine calm ((waitExpired_acts fun _ t waits r live => ?_).trans (settleLine_acts _))
    have there : t ∈ standing s .head := by
      unfold waitingRecord at waits
      split at waits
      · next head => cases waits; simp [standing, head]
      · next head => cases waits; simp [standing, head]
      · cases waits
    obtain ⟨r', live', stage⟩ := places.live_of_standing records (st := .head) nofun nofun there
    exact .inl (upstream_stage live' (by rw [stage]; rfl))
  | married reading =>
    unfold takeMarried
    split
    · split
      · unfold marriedHead
        split
        · exact h
        · split
          · exact (DemandInv.recomputed _).softStopped.settled
          · exact h
      · exact h.marriedElse _
    · exact h.marriedElse _
  | temperature => exact (DemandInv.recomputed _).settled
  | indexReady => exact calm (takeIndexReady_acts _)
  | indexDone =>
    unfold takeIndexDone
    split
    · exact (DemandInv.recomputed _).softStopped.settled
    · exact h
  | idleExpiry => exact calm (goStandby_acts _)
  | jacketRead => exact calm (takeJacketRead_acts _ _)
  | applied => exact calm (takeApplied_acts _ _)
  | passed =>
    refine calm (takePassed_acts fun _ t taken r live => .inr ?_)
    simp only [passedTaken, Bool.and_eq_true, beq_iff_eq] at taken
    have there : t ∈ standing s .delivery := List.mem_of_head? taken.1
    obtain ⟨r', live', stage⟩ := places.live_of_standing records (st := .delivery) nofun nofun there
    exact places.retires_calmly records live' (by rw [stage]; nofun) (by rw [stage]; nofun)
  | floor => exact calm (writeFloor_acts _ _ _)

/-! ### The requests -/

/-- R22: Force Retire recomputes PD when the book was at the press, and else leaves it as it was. -/
theorem DemandInv.forced {s : State} (h : DemandInv s) (records : RecordInv s) (places : PlaceInv s) {t : Ticket} {r : BookRecord}
    (live : liveRecord t s = some r) : DemandInv (forcedConsequence t r.stage (retire t .forced none s)) := by
  have apart := places.apart records
  have records' := records.retire t .forced none
  have apart' := apart.retire records t .forced none
  cases stage : r.stage with
  | entry =>
    have waiting := takeWaiting_acts (retire t .forced none s)
    have apart'' := apart'.takeWaiting ((places.pasting_alone records).retire t .forced none)
    have recomputed := recomputeDemand_acts (b := true) (takeWaiting (retire t .forced none s))
    exact (DemandInv.recomputed _).acts ((records'.acts waiting).acts recomputed) (apart''.acts (records'.acts waiting) recomputed)
      (headGivesUp_acts t _)
  | press =>
    have recomputed := recomputeDemand_acts (b := true) (retire t .forced none s)
    exact (DemandInv.recomputed _).acts (records'.acts recomputed) (apart'.acts records' recomputed) (indexRetest_acts _)
  | _ =>
    have away := places.retires_calmly records live (by rw [stage]; nofun) (by rw [stage]; nofun)
    have retired : Acts true s (retire t .forced none s) := retire_acts _ _ _ _ fun _ _ _ => .inr away
    exact h.acts records apart (retired.trans (forcedConsequence_acts fun _ => nofun))

theorem DemandInv.parameter {s : State} (h : DemandInv s) (number value : Nat) :
    DemandInv (parameterEffect number { s with params := s.params.write number value }) := by
  let w : State := { s with params := s.params.write number value }
  have written (tRef : number ≠ 13) (tX : number ≠ 14) : DemandInv w := by
    have same : pressDemand w = pressDemand s :=
      pressDemand_same rfl rfl rfl (Params.value_write_other (m := 13) tRef.symm s.params value)
        (Params.value_write_other (m := 14) tX.symm s.params value) fun _ _ => rfl
    rw [DemandInv, same]
    exact h
  have recomputed (tRef : number ≠ 13) (tX : number ≠ 14) : DemandInv (recomputePitch w) :=
    (written tRef tX).congr (by simp) (by simp) (by simp) (by simp) (by simp) (by simp)
  unfold parameterEffect
  split
  · exact .recomputed _
  · exact .recomputed _
  · exact (written (by decide) (by decide)).congr rfl rfl rfl rfl rfl rfl
  · exact recomputed (by decide) (by decide)
  · exact recomputed (by decide) (by decide)
  · exact recomputed (by decide) (by decide)
  · next tRef tX _ _ _ _ => exact written tRef tX

/-- R15: a new record stands at no place. -/
theorem DemandInv.admitRecord {s : State} (h : DemandInv s) (records : RecordInv s) (places : PlaceInv s) (t : Ticket)
    (k : TitleKey) (override : Option Nat) (oneOff : Option TitleParams) :
    DemandInv (admitRecord t k override oneOff s) := by
  obtain ⟨resolved, added, -⟩ := admitRecord_records t k override oneOff s
  have same : pressDemand (Machine.admitRecord t k override oneOff s) = pressDemand s := by
    refine pressDemand_same (by simp) (by simp) (by simp) (by simp) (by simp) fun u atPress => ?_
    obtain ⟨r, live, -⟩ := places.atPress_live records atPress
    have found := (liveRecord_iff.1 live).1
    have kept : findRecord u (Machine.admitRecord t k override oneOff s) = some r := by
      rw [findRecord, added, List.find?_append]
      rw [findRecord] at found
      rw [found]
      rfl
    rw [bookShare, bookShare, live, liveRecord_iff.2 ⟨kept, (liveRecord_iff.1 live).2⟩]
  have pd : (Machine.admitRecord t k override oneOff s).press.pd = s.press.pd := by simp
  rw [DemandInv, same, pd]
  exact h

theorem DemandInv.table {s u : State} (h : DemandInv s) (records : RecordInv s) (places : PlaceInv s) (served : ServesTable s u) :
    DemandInv u := by
  have apart := places.apart records
  cases served with
  | admitted t k override oneOff => exact h.admitRecord records places t k override oneOff
  | attached t r p _ live =>
    let r' : BookRecord := { r with source := .oneOff, oneOff := some p, resolved := true }
    let v := stopWaiting r.key (putRecord r' s)
    have live' : liveRecord r'.ticket s = some r := by
      rw [show r'.ticket = t from findRecord_ticket (r := r) (liveRecord_iff.1 live).1]
      exact live
    have stage : r'.stage ≠ .retiring := (liveRecord_iff (r := r).1 live).2
    have same : pressDemand v = pressDemand s := pressDemand_same (by simp [v]) (by simp [v]) (by simp [v]) (by simp [v]) (by simp [v])
      fun u _ => bookShare_putRecord (r := r') live' stage rfl rfl u
    have pd : v.press.pd = s.press.pd := by simp [v]
    have demand : DemandInv v := by
      rw [DemandInv, same, pd]
      exact h
    have records' : RecordInv v := (records.attach live p).congr (by simp [v, r']) (by simp [v])
    have put : Apart (putRecord r' s) := apart.putRecord live' stage fun unmarried => upstream_stage (r := r) live' unmarried
    have apart' : Apart v := put.congr (by simp [v]) (by simp [v]) (by simp [v]) (by simp [v])
    exact (demand.acts records' apart' (announceResolved_acts _ _)).settled
  | updated =>
    exact h.congr (by simp [updateTitle]) (by simp [updateTitle]) (by simp [updateTitle]) (by simp [updateTitle])
      (by simp [updateTitle]) (by simp [updateTitle])
  | installed k p w =>
    let v := changeSet k (fun ts => ts.put w (installedEntry k p)) s
    let unlisted : State := { v with pendingTitles := v.pendingTitles.filter fun p => !(p.key == k) }
    have records' : RecordInv unlisted := records.congr (by simp [unlisted, v]) (by simp [unlisted, v])
    have apart' : Apart unlisted := apart.congr (by simp [unlisted, v]) (by simp [unlisted, v]) (by simp [unlisted, v])
      (by simp [unlisted, v])
    have demand : DemandInv unlisted := h.congr (by simp [unlisted, v]) (by simp [unlisted, v]) (by simp [unlisted, v])
      (by simp [unlisted, v]) (by simp [unlisted, v]) (by simp [unlisted, v])
    have resolved := demand.acts records' apart' (resolveWaiting_acts (titleWay_installed k p w s))
    have used : DemandInv (changeSet k (·.use w) (resolveWaiting k v)) :=
      resolved.congr (by simp) (by simp) (by simp) (by simp) (by simp) (by simp)
    exact used.settled
  | dropped => exact h.congr (by simp) (by simp) (by simp) (by simp) (by simp) (by simp)
  | parameter number value => exact h.parameter number value
  | clear => exact (DemandInv.recomputed _).congr rfl rfl rfl rfl rfl rfl

theorem DemandInv.serves {s u : State} (h : DemandInv s) (records : RecordInv s) (places : PlaceInv s) (served : Serves s u) :
    DemandInv u := by
  have calm (run : Acts true s u) : DemandInv u := h.acts records (places.apart records) run
  cases served with
  | unchanged => exact h
  | withdrawn t r _ live stage => exact calm (retire_acts _ _ _ _ fun _ _ _ => .inl (upstream_stage live (by rw [stage]; rfl)))
  | forced t r _ live => exact (h.forced records places live).settled
  | floor => exact calm (writeFloor_acts _ _ _)
  | jacketsLoaded => exact h.congr rfl rfl rfl rfl rfl rfl
  | jacketsReleased => exact h.congr rfl rfl rfl rfl rfl rfl
  | run => exact calm (runLine_acts _)
  | stopSoft => exact calm (softStop_acts _)
  | stopNow => exact calm (stopNowLine_acts _)
  | runOut => exact calm (runOutLine_acts _)
  | release => exact calm (releaseLine_acts _)
  | table served => exact h.table records places served

/-! ### The events -/

theorem DemandInv.noticeOut {s : State} (h : DemandInv s) (records : RecordInv s) (rest : List NoticeEntry) :
    DemandInv (noticeOut rest s) := by
  let v : State := { s with link := { s.link with notices := rest } }
  have records' : RecordInv v := records.congr rfl rfl
  have demand : DemandInv v := h
  have share (u : Ticket) : bookShare u (refillNotices v) = bookShare u v := by
    unfold refillNotices
    split
    · next t _ order =>
      rw [bookShare, liveRecord_offerRetired records' fun r mem e => records'.retiring_stage r mem (by rw [order, e]; exact List.mem_cons_self)]
    · split <;> rfl
  have same : pressDemand (refillNotices v) = pressDemand v :=
    pressDemand_same (by simp) (by simp) (by simp) (by simp) (by simp) fun u _ => share u
  have pd : (refillNotices v).press.pd = v.press.pd := by simp
  have refilled : DemandInv (refillNotices v) := by
    rw [DemandInv, same, pd]
    exact demand
  exact refilled

theorem DemandInv.event {s u : State} (h : DemandInv s) (records : RecordInv s) (places : PlaceInv s) (event : Event true s u) :
    DemandInv u := by
  cases event with
  | words ws =>
    obtain ⟨recordsSame, -, -, -, tracks, -, -, -, press, -, -, params⟩ := takeWords_frame ws s
    exact h.congr recordsSame tracks (by rw [press]) (by rw [press]) params (by rw [press])
  | noticeSent e rest ws =>
    have shown : DemandInv (frameOut ws s) := h
    exact shown.noticeOut (records.congr rfl rfl) rest
  | request q rest hd _ _ served =>
    let v : State := { s with link := { s.link with requests := rest } }
    have dequeued : DemandInv v := h
    have handled : DemandInv hd.state :=
      dequeued.serves (records.congr rfl rfl) (places.congr rfl rfl rfl rfl rfl rfl) served
    exact handled
  | report reported => exact h.reports records places reported
  | _ => exact h

theorem DemandInv.step {s t : State} (h : DemandInv s) (records : RecordInv s) (places : PlaceInv s) (stepped : step s = .next t) :
    DemandInv t := by
  refine step_leads (P := fun s => DemandInv s ∧ RecordInv s ∧ PlaceInv s) (Q := DemandInv) ?_ ?_ ?_ ?_ ?_ stepped
    ⟨h, records, places⟩
  · exact fun _ h => h.1.congr rfl rfl rfl rfl rfl rfl
  · exact fun _ _ => rfl
  · exact fun _ _ h => ⟨h.1, h.2.1.congr rfl rfl, h.2.2.congr rfl rfl rfl rfl rfl rfl⟩
  · exact fun _ h => h.1
  · exact fun _ _ h happens =>
      (h.1.event h.2.1 h.2.2 happens).congr (by simp) (by simp) (by simp) (by simp) (by simp) (by simp)

/-- Settles O60: whatever may change a condition of the timer brings it up to date, and whatever changes what PD reads recomputes PD. -/
theorem idleTimerAndDemandAreKept : Obligations.IdleTimerAndDemandAreKept := by
  intro s t records places stepped
  exact ⟨fun idle => idle.step records places stepped, fun demand => demand.step records places stepped⟩

end Sys2Proof.Machine
end

section
/-! The step, device reset and the ports: what passes with no command waiting, what every command leaves alone, and what the ports send
and count. -/

namespace Sys2Proof.Machine

variable {b : Bool}

/-! ### The step -/

/-- Settles O1: `step` is defined by the front of the queue. -/
theorem stepRunsFrontCommand : Obligations.StepRunsFrontCommand := fun _ _ _ => rfl

/-! ### One millisecond (log 2) -/

theorem mem_expiry {left : Option Nat} {c d : Instr} : d ∈ expiry left c ↔ left = some 0 ∧ d = c := by
  unfold expiry
  split
  · next e => simp [e]
  · next e => simp [e]

theorem expiry_sublist (left : Option Nat) (c : Instr) : (expiry left c).Sublist [c] := by
  unfold expiry
  split
  · exact .refl _
  · exact List.nil_sublist _

/-- The expiry commands of every timer, in the order of log 3. -/
def allExpiries : List Instr :=
  [.driveStopAfterReset, .portQuietTime .s1, .portQuietTime .s2, .portQuietTime .s3, .portQuietTime .s4, .portQuietTime .s5,
    .portQuietTime .s6, .purgeTimeout .a, .purgeTimeout .b, .marriageWaitExpiry, .idleTimerExpiry]

theorem expiries_sublist (s : State) : (expiries s).Sublist allExpiries := by
  have wait : (if s.line.state.feeds then expiry s.marriageTimer .marriageWaitExpiry else []).Sublist [.marriageWaitExpiry] := by
    split
    · exact expiry_sublist _ _
    · exact List.nil_sublist _
  exact ((((((((((expiry_sublist _ _).append (expiry_sublist _ _)).append (expiry_sublist _ _)).append (expiry_sublist _ _)).append
    (expiry_sublist _ _)).append (expiry_sublist _ _)).append (expiry_sublist _ _)).append (expiry_sublist _ _)).append
    (expiry_sublist _ _)).append wait).append (expiry_sublist _ _)

theorem mem_expiries {s : State} {c : Instr} : c ∈ expiries s ↔
    s.drive.stopDue = some 0 ∧ c = .driveStopAfterReset ∨ (∃ st, (s.ports.get st).quiet = some 0 ∧ c = .portQuietTime st) ∨
      (∃ l, (s.lanes.get l).left = some 0 ∧ c = .purgeTimeout l) ∨
      (s.line.state.feeds = true ∧ s.marriageTimer = some 0 ∧ c = .marriageWaitExpiry) ∨
      (s.press.idleTimer = some 0 ∧ c = .idleTimerExpiry) := by
  have wait : c ∈ (if s.line.state.feeds then expiry s.marriageTimer .marriageWaitExpiry else []) ↔
      s.line.state.feeds = true ∧ s.marriageTimer = some 0 ∧ c = .marriageWaitExpiry := by
    split
    · next feeds => simp [mem_expiry, feeds]
    · next feeds => simp [feeds]
  have station {p : Station → Prop} : (∃ st, p st) ↔ p .s1 ∨ p .s2 ∨ p .s3 ∨ p .s4 ∨ p .s5 ∨ p .s6 :=
    ⟨fun ⟨st, h⟩ => by cases st <;> simp [h], by rintro (h | h | h | h | h | h) <;> exact ⟨_, h⟩⟩
  have lane {p : LaneId → Prop} : (∃ l, p l) ↔ p .a ∨ p .b :=
    ⟨fun ⟨l, h⟩ => by cases l <;> simp [h], by rintro (h | h) <;> exact ⟨_, h⟩⟩
  simp only [expiries, List.mem_append, mem_expiry, wait, station, lane, Ports.get, Lanes.get, or_assoc]

/-- Settles O2: the timers count down, and the queue takes the expiry commands of those that have run out, which are all different. -/
theorem emptyQueuePassesOneMillisecond : Obligations.EmptyQueuePassesOneMillisecond := by
  intro s empty
  have stepped : step s = .next (tick s) := by simp [step, empty]
  have pending : (tick s).pending = expiries (countTimers (openStep s)) := by simp [tick, countTimers, empty]
  have lanes (l : LaneId) : (tick s).lanes.get l = (s.lanes.get l).tick := by cases l <;> rfl
  have mem (c : Instr) : c ∈ (tick s).pending ↔
      (tick s).drive.stopDue = some 0 ∧ c = .driveStopAfterReset ∨
        (∃ st, ((tick s).ports.get st).quiet = some 0 ∧ c = .portQuietTime st) ∨
        (∃ l, ((tick s).lanes.get l).left = some 0 ∧ c = .purgeTimeout l) ∨
        ((tick s).line.state.feeds = true ∧ (tick s).marriageTimer = some 0 ∧ c = .marriageWaitExpiry) ∨
        ((tick s).press.idleTimer = some 0 ∧ c = .idleTimerExpiry) := by
    rw [pending]
    exact mem_expiries
  refine ⟨tick s, stepped, fun l kind carried n purging => ?_, fun l stands => ?_, rfl, rfl, fun st => ?_, rfl, fun l => ?_, ?_, ?_,
    fun st => ?_, ?_, ?_, fun c there => ?_, ⟨rfl, rfl⟩, ⟨rfl, rfl⟩, ⟨rfl, rfl⟩, rfl, rfl, rfl, rfl, rfl, rfl, rfl, rfl, rfl, rfl⟩
  · rw [lanes, purging]; rfl
  · rw [lanes]
    cases lane : s.lanes.get l <;> rw [lane] at stands <;> first | rfl | cases stands
  · cases st <;> rfl
  · rw [mem]; simp
  · rw [mem]; simp
  · rw [mem]; simp
  · rw [mem]; simp
  · rw [mem]; simp
  · rw [pending]
    exact (show allExpiries.Nodup by decide).sublist (expiries_sublist _)
  · rcases (mem c).1 there with h | ⟨st, -, h⟩ | ⟨l, -, h⟩ | h | h
    · exact .inl h.2
    · exact .inr (.inr (.inr (.inl ⟨st, h⟩)))
    · exact .inr (.inr (.inr (.inr ⟨l, h⟩)))
    · exact .inr (.inl h.2.2)
    · exact .inr (.inr (.inl h.2))

/-! ### What every command leaves alone -/

/-- The queue of waiting commands and the words shown on the link are as they were. -/
structure QueueKept (s u : State) : Prop where
  pending : u.pending = s.pending
  sentFrame : u.sentFrame = s.sentFrame

theorem Acts.queueKept {s u : State} (h : Acts b s u) : QueueKept s u := by
  induction h with
  | refl => exact ⟨rfl, rfl⟩
  | tail _ act ih =>
    obtain ⟨pending, shown⟩ := ih
    cases act with
    | send => exact ⟨by simpa using pending, by simpa using shown⟩
    | notice => exact ⟨by simpa using pending, by simpa using shown⟩
    | edit => exact ⟨by simpa using pending, by simpa using shown⟩
    | retire => exact ⟨by simpa using pending, by simpa using shown⟩
    | resolve => exact ⟨by simpa using pending, by simpa using shown⟩
    | _ => exact ⟨pending, shown⟩

theorem ServesTable.queueKept {s u : State} (h : ServesTable s u) : QueueKept s u := by
  cases h with
  | admitted => exact ⟨by simp, by simp⟩
  | attached => exact ⟨by simp, by simp⟩
  | updated => exact ⟨by simp, by simp⟩
  | installed => exact ⟨by simp, by simp⟩
  | dropped => exact ⟨by simp, by simp⟩
  | parameter => exact ⟨by simp, by simp⟩
  | clear => exact ⟨by simp, by simp⟩

theorem Event.queueKept {s u : State} (h : Event b s u) : u.pending = s.pending ∧ (b = false → u.sentFrame = s.sentFrame) := by
  cases h with
  | driveStop => exact ⟨rfl, fun _ => rfl⟩
  | port => exact ⟨rfl, fun _ => rfl⟩
  | words ws =>
    exact ⟨foldl_keeps State.pending takeWord (by simp) ws s, fun _ => foldl_keeps State.sentFrame takeWord (by simp) ws s⟩
  | refusalSent => exact ⟨rfl, nofun⟩
  | answerSent => exact ⟨rfl, nofun⟩
  | noticeSent => exact ⟨by simp, nofun⟩
  | request q rest hd _ _ served =>
    obtain ⟨pending, shown⟩ := served.acts_or_table.elim Acts.queueKept ServesTable.queueKept
    exact ⟨pending, fun _ => shown⟩
  | report reported =>
    obtain ⟨pending, shown⟩ := reported.acts.queueKept
    exact ⟨pending, fun _ => shown⟩

theorem Comes.queueKept {s t : State} (h : Comes b s t) : t.pending = s.pending ∧ (b = false → t.sentFrame = []) := by
  rcases h with rfl | ⟨u, event, rfl⟩
  · exact ⟨rfl, fun _ => rfl⟩
  · obtain ⟨pending, shown⟩ := event.queueKept
    exact ⟨by simpa using pending, fun quiet => by simpa using shown quiet⟩

/-- Settles O3: every command comes to an effect that leaves the queue alone, and only ANSWER_SENT and NOTICE_SENT show a frame. -/
theorem everyCommandAnswersNext : Obligations.EveryCommandAnswersNext := by
  intro c s
  by_cases reset : c = .deviceReset
  · subst reset
    exact ⟨_, exec_deviceReset s, rfl, fun _ _ => rfl⟩
  by_cases shows : (∀ p, c ≠ .answerSent p) ∧ c ≠ .noticeSent
  · obtain ⟨t, next, comes⟩ := exec_comes (b := false) s reset fun _ => shows
    exact ⟨t, next, comes.queueKept.1, fun _ _ => comes.queueKept.2 rfl⟩
  · obtain ⟨t, next, comes⟩ := exec_comes (b := true) s reset nofun
    exact ⟨t, next, comes.queueKept.1, fun answer notice => absurd ⟨answer, notice⟩ shows⟩

/-! ### Device reset and the ports -/

/-- Settles O5: the state after device reset is `State.reset` but for the waiting commands and the counter. -/
theorem deviceResetOfTheOtherBlocks : Obligations.DeviceResetOfTheOtherBlocks := by
  intro s
  refine ⟨_, exec_deviceReset s, rfl, rfl, rfl, fun i => ?_, rfl, rfl, rfl, rfl, rfl, fun c => ?_, rfl, rfl, rfl, rfl, rfl, rfl, rfl,
    rfl, rfl, rfl, rfl, rfl, rfl, rfl, fun st => ?_, rfl, rfl, rfl, rfl⟩
  · cases i <;> rfl
  · cases c <;> rfl
  · cases st <;> rfl

/-- R201: the event that sends the first STOP. -/
theorem exec_driveStop {s : State} {n : Nat} (due : s.drive.stopDue = some n) :
    exec .driveStopAfterReset s = .next (noteSending
      { s with out := .driveStop :: s.drive.waiting, sentFrame := [], drive := ⟨none, []⟩ }) := by
  show execDriveStopAfterReset s = _
  simp only [execDriveStopAfterReset, due]
  rfl

/-- Settles O6: a command is sent at once or, for the drive before its first STOP, kept behind it. -/
theorem commandsKeepTheirOrder : Obligations.CommandsKeepTheirOrder := by
  refine ⟨fun s n due => exec_driveStop due, fun c s => ⟨send_now, fun drive due => ?_, ?_⟩⟩
  · exact send_waits drive (Option.isSome_iff_ne_none.2 due)
  · cases c <;> simp [PortCommand.toDrive]

/-- R200: a station message before its port's quiet time has run only begins the quiet time again. -/
theorem exec_message_discarded {c : Instr} {st : Station} {n : Nat} {s : State} (message : messageStation c = some st)
    (quiet : (s.ports.get st).quiet = some n) : exec c s = .next (noteSending (discardChars st (openStep s))) := by
  cases c with
  | blockReadS1 | caseRead | purgeDone | blockReadS3 | married | exitRead | indexReady | indexDone | temperature | bookArrived
  | jacketRead | applied | bookRead | passed | floor | damagedMessage =>
    cases message
    exact takeMessage_discards quiet _
  | _ => cases message

/-- Settles O7: a quiet line opens its port, and a message that comes earlier is discarded. -/
theorem portsWaitForAQuietLine : Obligations.PortsWaitForAQuietLine := by
  refine ⟨fun st s => rfl, fun c st n s message quiet => ?_⟩
  rw [exec_message_discarded message quiet]
  rfl

end Sys2Proof.Machine
end

section
/-! The line link as the requests come and the answers and notices go (chapter 9). -/

namespace Sys2Proof.Machine

/-! ### Frames taken (R175 to R179) -/

/-- R179: a refusal of the port, with the arrival number it takes. -/
theorem refused_link (kind : Nat) (st : Status) (s : State) :
    takeArrival (refuseFrame kind st) s = { s with link := s.link.refused kind st } := by
  cases place : s.link.refusal <;> simp [takeArrival, refuseFrame, Link.refused, place, Config.saturation]

/-- R178: every request calls for at least one word behind its header. -/
theorem frameRequest_count {ws : List Word} {n : Nat} {r : Request} (h : frameRequest ws = some (n, r)) : 2 ≤ n := by
  unfold frameRequest at h
  split at h
  all_goals cases h
  all_goals try omega
  all_goals grind

/-- The checks of a whole frame, each with the answer it leads to (R177, R179). -/
theorem checkFrame_unknown {ws : List Word} (unknown : frameRequest ws = none) :
    checkFrame ws = refuseFrame (hiByte (wordAt ws 0)) .unknownRequest := by
  funext arrival s
  simp [checkFrame, unknown]

theorem checkFrame_badLength {ws : List Word} {n : Nat} {r : Request} (known : frameRequest ws = some (n, r)) (ne : ws.length ≠ n) :
    checkFrame ws = refuseFrame (hiByte (wordAt ws 0)) .badLength := by
  funext arrival s
  simp [checkFrame, known, ne]

theorem checkFrame_queued {ws : List Word} {r : Request} {s : State} (known : frameRequest ws = some (ws.length, r))
    (room : s.link.requests.length + s.link.answers.length < 8) (arrival : Word) :
    checkFrame ws arrival s = { s with link := { s.link with requests := s.link.requests ++ [⟨r, arrival⟩] } } := by
  simp [checkFrame, known, Config.answerPlaces, room]

theorem checkFrame_busy {ws : List Word} {r : Request} {s : State} (known : frameRequest ws = some (ws.length, r))
    (full : 8 ≤ s.link.requests.length + s.link.answers.length) (arrival : Word) :
    checkFrame ws arrival s = refuseFrame (hiByte (wordAt ws 0)) .busy arrival s := by
  simp [checkFrame, known, Config.answerPlaces, Nat.not_lt.2 full]

/-- R175, R177: a frame that passes the checks is queued with the arrival number it takes. -/
theorem takeArrival_queued {ws : List Word} {r : Request} {s : State} (known : frameRequest ws = some (ws.length, r))
    (room : s.link.requests.length + s.link.answers.length < 8) :
    takeArrival (checkFrame ws) s = { s with link := { s.link with
      requests := s.link.requests ++ [⟨r, s.link.nextArrival⟩], nextArrival := s.link.nextArrival + 1 } } :=
  checkFrame_queued (s := { s with link := { s.link with nextArrival := s.link.nextArrival + 1 } }) known room _

/-- R179: with every place taken the frame is refused BUSY. -/
theorem takeArrival_busy {ws : List Word} {r : Request} {s : State} (known : frameRequest ws = some (ws.length, r))
    (full : 8 ≤ s.link.requests.length + s.link.answers.length) :
    takeArrival (checkFrame ws) s = { s with link := s.link.refused (hiByte (wordAt ws 0)) .busy } :=
  (checkFrame_busy (s := { s with link := { s.link with nextArrival := s.link.nextArrival + 1 } }) known full _).trans
    (refused_link _ _ _)

/-- R175: what a request frame does, begun with no frame in assembly. -/
theorem exec_requestFrame {header : Word} {rest : List Word} {s : State} (idle : s.link.assembly = [])
    (count : loByte header = rest.length + 1) (most : rest.length + 1 ≤ 40) :
    exec (.requestFrame (frameWords header rest)) s =
      .next (noteSending (takeArrival (checkFrame (header :: rest)) (openStep s))) := by
  have whole := takeWords_whole (s := openStep s) idle count most
  show stepWith (fun s' => (frameWords header rest).foldl takeWord s') s = _
  rw [stepWith_next, frameWords, whole]

/-- R175: a header of count 0 or above 40 is refused at once. -/
theorem beginFrame_refused {w : Word} {s : State} (idle : s.link.assembly = []) (bad : loByte w = 0 ∨ 40 < loByte w) :
    beginFrame w s = { s with link := s.link.refused (hiByte w) .badLength } := by
  have same : { s with link := { s.link with assembly := [] } } = s := by rw [← idle]
  have bad' : loByte w = 0 ∨ Config.requestWords < loByte w := bad
  rw [beginFrame]
  simp only [if_pos bad', same, refused_link]

/-- Settles O9: the frame's words are checked as a whole, and each check leads to its clause. -/
theorem framesAreQueuedOrRefused : Obligations.FramesAreQueuedOrRefused := by
  refine ⟨⟨fun header rest r s idle count most known room => ?queued, fun words s idle => ?quiet⟩, fun header rest s idle =>
    ⟨fun bad => ?header, fun count most => ⟨fun unknown => ?unknown, fun n r known ne => ?badLength, fun r known full => ?busy⟩⟩⟩
  case queued =>
    rw [exec_requestFrame idle count most, takeArrival_queued (s := openStep s) known room]
    rfl
  case quiet =>
    show stepWith (fun s' => (words.map (⟨false, ·⟩)).foldl takeWord s') s = _
    rw [stepWith_next, takeWords_idle (s := openStep s) idle]
    rfl
  case header =>
    have cut : cutShort (openStep s) = openStep s := by
      have idle : (openStep s).link.assembly = [] := idle
      simp only [cutShort, idle]
    show stepWith (fun s' => [(⟨true, header⟩ : LinkWord)].foldl takeWord s') s = _
    rw [stepWith_next]
    simp only [List.foldl_cons, List.foldl_nil, takeWord, if_true, cut]
    rw [beginFrame_refused (s := openStep s) idle bad]
    rfl
  case unknown =>
    rw [exec_requestFrame idle count most, checkFrame_unknown unknown, refused_link]
    rfl
  case badLength =>
    rw [exec_requestFrame idle count most, checkFrame_badLength known (by simpa using ne.symm), refused_link]
    rfl
  case busy =>
    rw [exec_requestFrame idle count most, takeArrival_busy (s := openStep s) known full]
    rfl

/-- R176: a frame that has begun and is not complete stands in assembly. -/
theorem takeWords_begun {header : Word} {rest : List Word} {s : State} (idle : s.link.assembly = [])
    (short : rest.length + 1 < loByte header) (most : loByte header ≤ 40) :
    (frameWords header rest).foldl takeWord s = { s with link := { s.link with assembly := header :: rest } } := by
  have begun : takeWord s ⟨true, header⟩ = { s with link := { s.link with assembly := [header] } } := by
    have cut : cutShort s = s := by simp only [cutShort, idle]
    have range : ¬(loByte header = 0 ∨ Config.requestWords < loByte header) := by
      simp only [Config.requestWords]
      omega
    simp only [takeWord, if_true, cut, beginFrame]
    rw [if_neg range, if_neg (by omega)]
  rw [frameWords, List.foldl_cons, begun, takeWords_part (header := header) (pre := []) rfl rest (by simpa [Nat.add_comm] using short)]
  rfl

/-- R179: with the refusal place taken a further refusal only raises the overrun count. -/
theorem refused_again {l : Link} {a : Answer} (taken : l.refusal = some a) (kind : Nat) (st : Status) :
    l.refused kind st = { l with overrun := min (l.overrun + 1) 65535, nextArrival := l.nextArrival + 1 } := by
  simp [Link.refused, taken]

theorem refused_taken (kind : Nat) (st : Status) (l : Link) : ∃ a, (l.refused kind st).refusal = some a := by
  cases place : l.refusal with
  | none => exact ⟨⟨BitVec.ofNat 8 kind, st, l.nextArrival, []⟩, by simp [Link.refused, place]⟩
  | some a => exact ⟨a, by simp [Link.refused, place]⟩

/-- R175, R177: a frame of one word is refused, whatever it asks for. -/
theorem checkFrame_single (w : Word) : ∃ st, checkFrame [w] = refuseFrame (hiByte w) st := by
  cases known : frameRequest [w] with
  | none => exact ⟨_, checkFrame_unknown known⟩
  | some r =>
    obtain ⟨n, r⟩ := r
    have := frameRequest_count known
    exact ⟨_, checkFrame_badLength known (by simp only [List.length_singleton]; omega)⟩

/-- R176: the header that cut another frame short begins its own, with the refusal place taken. -/
theorem beginFrame_taken {w : Word} {s : State} {a : Answer} (idle : s.link.assembly = []) (taken : s.link.refusal = some a) :
    beginFrame w s = { s with link := if 2 ≤ loByte w ∧ loByte w ≤ 40 then { s.link with assembly := [w] }
      else { s.link with overrun := min (s.link.overrun + 1) 65535, nextArrival := s.link.nextArrival + 1 } } := by
  by_cases range : 2 ≤ loByte w ∧ loByte w ≤ 40
  · have good : ¬(loByte w = 0 ∨ Config.requestWords < loByte w) := by
      simp only [Config.requestWords]
      omega
    rw [if_pos range, beginFrame]
    simp only
    rw [if_neg good, if_neg (by omega)]
  · rw [if_neg range]
    by_cases bad : loByte w = 0 ∨ 40 < loByte w
    · rw [beginFrame_refused idle bad, refused_again taken]
    · have single : loByte w = 1 := by omega
      have good : ¬(loByte w = 0 ∨ Config.requestWords < loByte w) := bad
      have same : { s with link := { s.link with assembly := [] } } = s := by rw [← idle]
      obtain ⟨st, refuses⟩ := checkFrame_single w
      rw [beginFrame]
      simp only
      rw [if_neg good, if_pos single, same, refuses, refused_link, refused_again taken]

/-- Settles O10: the frame in assembly is refused FRAMING and the new header begins a frame. -/
theorem frameCutShortIsAnsweredFraming : Obligations.FrameCutShortIsAnsweredFraming := by
  intro header next rest s idle short most cut
  have begun := takeWords_begun (s := openStep s) idle short most
  let v : State := { openStep s with link := cut }
  have framed : cutShort { openStep s with link := { s.link with assembly := header :: rest } } = v := by
    have same : ({ s.link with assembly := [] } : Link) = s.link := by rw [← idle]
    simp only [cutShort]
    rw [refused_link]
    simp only [same, v, cut]
  obtain ⟨a, taken⟩ := refused_taken (hiByte header) .framing s.link
  have assembly : cut.assembly = [] := by
    simp only [cut, Link.refused]
    split <;> exact idle
  show stepWith (fun s' => takeWord ((frameWords header rest).foldl takeWord s') ⟨true, next⟩) s = _
  rw [stepWith_next, begun]
  simp only [takeWord, if_true]
  rw [show ({ openStep s with link := { (openStep s).link with assembly := header :: rest } } : State) =
    { openStep s with link := { s.link with assembly := header :: rest } } from rfl, framed,
    beginFrame_taken (s := v) assembly taken]
  rfl

/-! ### Frames sent (R181, R185) -/

/-- Settles O11: the frame that may have begun goes out and its place is free. -/
theorem answersLeaveTheirPlaces : Obligations.AnswersLeaveTheirPlaces := by
  constructor
  · intro a s refusal sending
    show execAnswerSent .refusal s = _
    simp only [execAnswerSent, refusal, sending, if_true]
    rfl
  · intro a rest s answers sending
    show execAnswerSent .answer s = _
    simp only [execAnswerSent, answers, sending, if_true]
    rfl

/-- R185: with no record in RETIRING the freed place goes to the first held notice. -/
theorem refillNotices_held {s : State} {e : NoticeEntry} {held : Held} (none : s.retiring = [])
    (take : s.link.held.take = some (e, held)) :
    refillNotices s = enqueueNotice e { s with link := { s.link with held := held } } := by
  unfold refillNotices
  rw [none, take]

/-- R185: with nothing that waits the place stays free. -/
theorem refillNotices_none {s : State} (none : s.retiring = []) (take : s.link.held.take = .none) : refillNotices s = s := by
  unfold refillNotices
  rw [none, take]

/-- R185: the oldest record in RETIRING takes the freed place. -/
theorem refillNotices_retired {s : State} {t : Ticket} {ts : List Ticket} (order : s.retiring = t :: ts) :
    refillNotices s = offerRetired t s := by
  simp only [refillNotices, order]

theorem exec_noticeSent {e : NoticeEntry} {rest : List NoticeEntry} {s : State} (head : s.link.notices = e :: rest)
    (sending : s.link.sending.notice = true) :
    exec .noticeSent s = .next (noteSending (noticeOut rest (frameOut (noticeFrame s.link.held.count e) (openStep s)))) := by
  show execNoticeSent s = _
  simp only [execNoticeSent, head, sending, if_true]
  rfl

/-- R12, R179: a freed record takes its notice number and its place in the queue, and no request. -/
theorem offerRetired_link {s : State} {t : Ticket} {r : BookRecord} (found : findRecord t s = some r) :
    (offerRetired t s).link = { s.link with
      notices := s.link.notices ++ [⟨s.link.nextNotice, retiredNotice r⟩], attn := true, nextNotice := s.link.nextNotice + 1 } := by
  rw [offerRetired_found found]
  simp [enqueueNotice]

theorem freeRecord_titles {s u : State} (h : u.titles = s.titles) (r : BookRecord) :
    (freeRecord r u).titles = (freeRecord r s).titles := by
  unfold freeRecord
  dsimp only
  split
  · refine changeEntry_titles ?_ _ _
    exact h
  · exact h

/-- R185: what a notice that goes out leaves of the requests. -/
theorem noticeOut_requests (rest : List NoticeEntry) (s : State) :
    (noticeOut rest s).link.assembly = s.link.assembly ∧ (noticeOut rest s).link.requests = s.link.requests ∧
    (noticeOut rest s).link.answers = s.link.answers ∧ (noticeOut rest s).link.refusal = s.link.refusal ∧
    (noticeOut rest s).link.overrun = s.link.overrun ∧ (noticeOut rest s).link.nextArrival = s.link.nextArrival := by
  unfold noticeOut refillNotices
  dsimp only
  split
  · simp
  · split
    · simp
    · simp

theorem noticeOut_none {s : State} (rest : List NoticeEntry) (none : s.retiring = []) (take : s.link.held.take = .none) :
    noticeOut rest s = { s with link := { s.link with notices := rest, attn := !rest.isEmpty } } := by
  simp only [noticeOut]
  rw [refillNotices_none (s := { s with link := { s.link with notices := rest } }) none take]

theorem noticeOut_held {s : State} (rest : List NoticeEntry) {e : NoticeEntry} {held : Held} (none : s.retiring = [])
    (take : s.link.held.take = some (e, held)) :
    noticeOut rest s = { s with link := { s.link with notices := rest ++ [e], held := held, attn := true } } := by
  simp only [noticeOut]
  rw [refillNotices_held (s := { s with link := { s.link with notices := rest } }) none take]
  simp [enqueueNotice]

theorem noticeOut_retired {s : State} (rest : List NoticeEntry) {t : Ticket} {ts : List Ticket} {r : BookRecord}
    (order : s.retiring = t :: ts) (found : findRecord t s = some r) :
    (noticeOut rest s).link = { s.link with
        notices := rest ++ [⟨s.link.nextNotice, retiredNotice r⟩], attn := true, nextNotice := s.link.nextNotice + 1 } ∧
      (noticeOut rest s).records = s.records.filter (fun x => !(x.ticket == t)) ∧
      (noticeOut rest s).retiring = s.retiring.filter (fun x => !(x == t)) ∧
      (noticeOut rest s).titles = (freeRecord r s).titles := by
  let w : State := { s with link := { s.link with notices := rest } }
  have found' : findRecord t w = some r := found
  have refill : refillNotices w = offerRetired t w := refillNotices_retired order
  have link := offerRetired_link found'
  obtain ⟨records, retiring⟩ := offerRetired_records t w
  refine ⟨?_, ?_, ?_, ?_⟩
  · show { (refillNotices w).link with attn := !(refillNotices w).link.notices.isEmpty } = _
    rw [refill, link]
    simp [w]
  · show (refillNotices w).records = _
    rw [refill, records]
  · show (refillNotices w).retiring = _
    rw [refill, retiring]
  · show (refillNotices w).titles = _
    rw [refill, offerRetired_found found']
    refine freeRecord_titles (s := s) ?_ r
    rfl

/-- Settles O12: the head of the queue goes out, and the freed place is filled as R185 gives. -/
theorem noticesLeaveAndTheQueueRefills : Obligations.NoticesLeaveAndTheQueueRefills := by
  intro e rest s head sending
  rw [exec_noticeSent head sending]
  generalize seen : frameOut (noticeFrame s.link.held.count e) (openStep s) = v
  have shown : v.sentFrame = noticeFrame s.link.held.count e := by rw [← seen]; rfl
  have attn : (noteSending (noticeOut rest v)).link.attn = !(noteSending (noticeOut rest v)).link.notices.isEmpty := by
    simp [noticeOut]
  refine ⟨_, rfl, by simp [shown, noticeFrame], fun none => ?_, fun tk tks r order found => ?_, attn, ?_⟩
  · have none' : v.retiring = [] := by rw [← seen]; exact none
    have sameHeld : v.link.held = s.link.held := by rw [← seen]; rfl
    have number : v.link.nextNotice = s.link.nextNotice := by rw [← seen]; rfl
    have books : v.records = s.records ∧ v.retiring = s.retiring ∧ v.titles = s.titles := by rw [← seen]; exact ⟨rfl, rfl, rfl⟩
    cases take : s.link.held.take with
    | none =>
      rw [noticeOut_none rest none' (sameHeld ▸ take)]
      simp [SameBooks, sameHeld, number, books]
    | some first =>
      obtain ⟨h, left⟩ := first
      rw [noticeOut_held rest none' (sameHeld ▸ take)]
      have occupied : s.link.held.any ≠ false := fun empty => by
        rw [← Held.take_eq_none, take] at empty
        cases empty
      simp [SameBooks, number, books, occupied]
  · have order' : v.retiring = tk :: tks := by rw [← seen]; exact order
    have found' : findRecord tk v = some r := by rw [← seen]; exact found
    obtain ⟨link, records, retiring, titles⟩ := noticeOut_retired rest order' found'
    have freed : (freeRecord r v).titles = (freeRecord r s).titles := freeRecord_titles (by rw [← seen]; rfl) r
    simp [link, records, retiring, titles, freed]
    subst seen
    exact ⟨rfl, rfl, rfl, rfl⟩
  · obtain ⟨assembly, requests, answers, refusal, overrun, nextArrival⟩ := noticeOut_requests rest v
    simp [SameTracks, SameLanes, SamePress, SamePace, SameLine, SameRequests, Sent, assembly, requests, answers, refusal, overrun,
      nextArrival]
    subst seen
    exact ⟨rfl, ⟨rfl, rfl⟩, ⟨rfl, rfl, rfl, rfl⟩, ⟨rfl, rfl⟩, rfl, ⟨rfl, rfl, rfl, rfl⟩, ⟨rfl, rfl, rfl, rfl, rfl, rfl⟩, rfl, rfl⟩

/-! ### Notices (R183, R184) -/

/-- Settles O13: with room and none waiting the notice is queued; else it takes the held place of its kind. -/
theorem noticesAreQueuedOrHeld : Obligations.NoticesAreQueuedOrHeld := by
  intro n s e
  have waits : noticeWaits s = false ↔ s.retiring = [] ∧ s.link.held.any = false := by simp [noticeWaits]
  refine ⟨fun ⟨room, order, held⟩ => ?_, fun not => ?_⟩
  · rw [produce_queued room (waits.2 ⟨order, held⟩)]
    rfl
  · refine ⟨produce_held fun ⟨room, quiet⟩ => not ⟨room, waits.1 quiet⟩, ?_⟩
    cases n <;> simp [Notice.kindCode, Held.put, e]

/-! ### The end of a step -/

/-- R181: the frame that may begin. -/
theorem noteSending_eq (s : State) : noteSending s = { s with
    dataOut := if s.link.refusal = none ∧ s.link.answers = [] ∧ s.link.notices = [] then some 0 else none
    link := { s.link with sending :=
      if s.link.refusal.isSome then { s.link.sending with refusal := true }
      else if s.link.answers ≠ [] then { s.link.sending with answer := true }
      else if s.link.notices ≠ [] then { s.link.sending with notice := true }
      else s.link.sending } } := by
  unfold noteSending
  split
  · next refusal => simp [Option.isSome_iff_ne_none.1 refusal]
  next noRefusal =>
  have refusal : s.link.refusal = none := by simpa using noRefusal
  split
  · next some =>
    have answers : s.link.answers ≠ [] := by simpa using some
    simp [refusal, answers]
  next noAnswer =>
  have answers : s.link.answers = [] := by simpa using noAnswer
  split
  · next some =>
    have notices : s.link.notices ≠ [] := by simpa using some
    simp [refusal, answers, notices]
  next noNotice =>
  have notices : s.link.notices = [] := by simpa using noNotice
  have sending : (if s.link.answers ≠ [] then { s.link.sending with answer := true }
      else if s.link.notices ≠ [] then { s.link.sending with notice := true }
      else s.link.sending) = s.link.sending := by
    simp [answers, notices]
  rw [sending, if_pos ⟨refusal, answers, notices⟩]
  rfl

/-- Settles O15: the run-out test, the idle timer and the frame that may begin, each as it is defined. -/
theorem endOfStep : Obligations.EndOfStep := by
  intro s
  refine ⟨fun runs empty => ?_, fun other => ?_, ?_, noteSending_eq s, rfl⟩
  · rw [runOutTest, if_pos ⟨runs, empty⟩, stopDrive_runs (by rw [runs]; rfl)]
    rfl
  · rw [runOutTest, if_neg]
    rintro ⟨runs, empty⟩
    rcases other with stands | occupied
    · exact stands runs
    · rw [empty] at occupied; cases occupied
  · have runs : idleRuns (runOutTest s) = idleRuns s :=
      idleRuns_congr (by simp) (by simp) (by simp) (by simp) (by simp)
    have press : (runOutTest s).press = s.press := by simp
    have params : (runOutTest s).params = s.params := by simp
    simp only [settleLine, idleRefresh, runs, press, params]

end Sys2Proof.Machine
end

section
/-! The messages of the stations (R49, R196): what the port counts, and the command that the characters of a good message spell; and
the invariants right after device reset. -/

namespace Sys2Proof.Machine

/-! ### The quantities of a message body -/

theorem number_eq_bytesNumber (bytes : List Byte) :
    (bytes.map BitVec.toNat).foldl (fun n b => 256 * n + b) 0 = bytesNumber bytes := by
  rw [List.foldl_map, bytesNumber]

theorem wordOf_eq_ofNat (hi lo : Byte) : wordOf hi lo = BitVec.ofNat 16 (bytesNumber [hi, lo]) := by
  apply BitVec.eq_of_toNat_eq
  have := hi.isLt
  have := lo.isLt
  simp only [wordOf, bytesNumber, List.foldl, BitVec.toNat_append, BitVec.toNat_ofNat]
  rw [← Nat.shiftLeft_add_eq_or_of_lt lo.isLt]
  omega

theorem order_eq_ofNat (o2 o1 o0 : Byte) : o2 ++ o1 ++ o0 = BitVec.ofNat 24 (bytesNumber [o2, o1, o0]) := by
  apply BitVec.eq_of_toNat_eq
  have := o2.isLt
  have := o1.isLt
  have := o0.isLt
  simp only [bytesNumber, List.foldl, BitVec.toNat_append, BitVec.toNat_ofNat]
  rw [← Nat.shiftLeft_add_eq_or_of_lt o0.isLt, ← Nat.shiftLeft_add_eq_or_of_lt o1.isLt]
  omega

/-- R196: a ticket reads as UNREADABLE exactly when its four bytes are 0. -/
theorem ticketReading_eq (o2 o1 o0 copy : Byte) : ticketReading o2 o1 o0 copy =
    if bytesNumber [o2, o1, o0, copy] = 0 then .unreadable
    else .named ⟨BitVec.ofNat 24 (bytesNumber [o2, o1, o0]), copy⟩ := by
  have zero : copy = 0 ↔ copy.toNat = 0 := ⟨fun h => by rw [h]; rfl, fun h => BitVec.eq_of_toNat_eq h⟩
  have same : bytesNumber [o2, o1, o0] = 0 ∧ copy = 0 ↔ bytesNumber [o2, o1, o0, copy] = 0 := by
    rw [zero]
    simp only [bytesNumber, List.foldl]
    omega
  rw [ticketReading, order_eq_ofNat]
  simp only [same]

/-- R196: a key within the largest one reads as UNREADABLE exactly when it is 0. -/
theorem keyReading_eq {k2 k1 k0 : Byte} (range : bytesNumber [k2, k1, k0] < 2 ^ 20) : keyReading k2 k1 k0 =
    if bytesNumber [k2, k1, k0] = 0 then .unreadable else .named (BitVec.ofNat 20 (bytesNumber [k2, k1, k0])) := by
  have zero : BitVec.ofNat 20 (bytesNumber [k2, k1, k0]) = 0 ↔ bytesNumber [k2, k1, k0] = 0 := by
    refine ⟨fun h => ?_, fun h => by rw [h]; rfl⟩
    have value := congrArg BitVec.toNat h
    rw [BitVec.toNat_ofNat, Nat.mod_eq_of_lt range] at value
    exact value
  rw [keyReading, messageKey, if_pos range]
  simp only [zero]

/-! ### The bodies -/

theorem ticketBody_spells {f : Reading Ticket → Instr} {body : List Byte} {c : Instr} (length : body.length = 4)
    (named : ∀ o2 o1 o0 cp, body = [o2, o1, o0, cp] → bytesNumber body ≠ 0 →
      c = f (.named ⟨BitVec.ofNat 24 (bytesNumber [o2, o1, o0]), cp⟩))
    (unreadable : body = [0, 0, 0, 0] → c = f .unreadable) : ticketBody f body = some c := by
  match body, length with
  | [o2, o1, o0, cp], _ =>
    rw [ticketBody, ticketReading_eq]
    by_cases zero : bytesNumber [o2, o1, o0, cp] = 0
    · have null (b : Byte) (h : b.toNat = 0) : b = 0 := BitVec.eq_of_toNat_eq h
      simp only [bytesNumber, List.foldl] at zero
      rw [if_pos (by simp only [bytesNumber, List.foldl]; omega), unreadable]
      rw [null o2 (by omega), null o1 (by omega), null o0 (by omega), null cp (by omega)]
    · rw [if_neg zero, named o2 o1 o0 cp rfl zero]

theorem ticketByteBody_spells {f : Reading Ticket → Byte → Instr} {body : List Byte} {c : Instr} (length : body.length = 5)
    (carries : c = f .unreadable (body.getD 4 0) ∧ bytesNumber (body.take 4) = 0 ∨
      bytesNumber (body.take 4) ≠ 0 ∧
        c = f (.named ⟨BitVec.ofNat 24 (bytesNumber (body.take 3)), body.getD 3 0⟩) (body.getD 4 0)) :
    ticketByteBody f body = some c := by
  match body, length with
  | [o2, o1, o0, cp, m], _ =>
    rw [ticketByteBody, ticketReading_eq]
    rcases carries with ⟨c, zero⟩ | ⟨named, c⟩
    · rw [if_pos (by exact zero), c]
      rfl
    · rw [if_neg (by exact named), c]
      rfl

theorem keyBody_spells {f : Reading TitleKey → Instr} {body : List Byte} {c : Instr}
    (named : bytesNumber body ≠ 0 → c = f (.named (BitVec.ofNat 20 (bytesNumber body))))
    (unreadable : bytesNumber body = 0 → c = f .unreadable) (length : body.length = 3) (range : bytesNumber body < 2 ^ 20) :
    keyBody f body = some c := by
  match body, length with
  | [k2, k1, k0], _ =>
    rw [keyBody, keyReading_eq range]
    by_cases zero : bytesNumber [k2, k1, k0] = 0
    · rw [if_pos zero, unreadable zero]
    · rw [if_neg zero, named zero]

theorem byteBody_spells {f : Byte → Instr} {body : List Byte} (length : body.length = 1) :
    byteBody f body = some (f (body.getD 0 0)) := by
  match body, length with
  | [_], _ => rfl

theorem wordBody_spells {f : Word → Instr} {body : List Byte} (length : body.length = 2) :
    wordBody f body = some (f (BitVec.ofNat 16 (bytesNumber ((body.drop 0).take 2)))) := by
  match body, length with
  | [hi, lo], _ => rw [wordBody, wordOf_eq_ofNat]; rfl

theorem wordsBody_spells {f : Word → Word → Instr} {body : List Byte} (length : body.length = 4) :
    wordsBody f body = some (f (BitVec.ofNat 16 (bytesNumber ((body.drop 0).take 2)))
      (BitVec.ofNat 16 (bytesNumber ((body.drop 2).take 2)))) := by
  match body, length with
  | [h1, l1, h2, l2], _ => rw [wordsBody, wordOf_eq_ofNat, wordOf_eq_ofNat]; rfl

/-! ### A whole message -/

/-- The longest body, that of BLOCK_READ at S1, has five bytes. -/
theorem messageLength_le {st : Station} {kind n : Nat} (length : messageLength st kind = some n) : n ≤ 5 := by
  unfold messageLength at length
  split at length <;> cases length <;> decide

theorem messageOk_spelled {st : Station} {kind sum : Byte} {body : List Byte}
    (length : messageLength st kind.toNat = some body.length)
    (total : (kind.toNat + body.length + (body.map BitVec.toNat).sum + sum.toNat) % 256 = 0) :
    messageOk st (kind :: BitVec.ofNat 8 body.length :: (body ++ [sum])) = true := by
  have short : (BitVec.ofNat 8 body.length).toNat = body.length := by
    have := messageLength_le length
    rw [BitVec.toNat_ofNat]
    omega
  have adds : messageSum (kind :: BitVec.ofNat 8 body.length :: (body ++ [sum])) % 256 = 0 := by
    simp only [messageSum, List.map_cons, List.map_append, List.map_nil, List.sum_cons, List.sum_append, List.sum_nil, short]
    omega
  simp [messageOk, adds, short, length]

/-- A message whose kind and length fit and whose sum is right joins the queue as the command that its body spells. -/
theorem arriveMessage_spelled {st : Station} {kind sum : Byte} {body : List Byte} {c : Instr} (s : State)
    (length : messageLength st kind.toNat = some body.length) (spells : bodyCommand st kind.toNat body = some c)
    (total : (kind.toNat + body.length + (body.map BitVec.toNat).sum + sum.toNat) % 256 = 0) :
    arriveMessage st (kind :: BitVec.ofNat 8 body.length :: (body ++ [sum])) s = { s with pending := s.pending ++ [c] } := by
  simp [arriveMessage, messageCommand, messageOk_spelled length total, spells]

theorem messageCommand_damaged {st : Station} {bytes : List Byte} (damaged : messageOk st bytes = false) :
    messageCommand st bytes = .damagedMessage st bytes := by
  unfold messageCommand
  split
  · rw [damaged]; rfl
  · rfl

/-- Settles O8: what the port counts, and for each kind of message the command that it spells. -/
theorem damagedMessagesAreCounted : Obligations.DamagedMessagesAreCounted := by
  intro st s listens
  have counts (f : State → State) (count : f (openStep s) = countError st (openStep s)) :
      takeMessage st f s = .next (noteSending { s with
        out := [], sentFrame := [], ports := s.ports.put st ⟨min ((s.ports.get st).errors + 1) 65535, none⟩ }) := by
    rw [takeMessage_listens listens, count, countError_listens (s := openStep s) listens]
    rfl
  refine ⟨counts _ rfl, fun bytes damaged => ⟨counts _ (by rw [damaged]; rfl), ?_⟩, ?_⟩
  · rw [arriveMessage, messageCommand_damaged damaged]
  intro c kind body number ticket key word kinds sum total
  have spelled {n : Nat} (length : body.length = n) (takes : messageLength st kind.toNat = some n)
      (spells : bodyCommand st kind.toNat body = some c) := arriveMessage_spelled s (takes.trans (by rw [length])) spells total
  have ticketed (f : Reading Ticket → Instr) (named : ticket f) : ticketBody f body = some c ∧ body.length = 4 :=
    ⟨ticketBody_spells named.2.2 (by simpa only [number, number_eq_bytesNumber] using named.1) named.2.1, named.2.2⟩
  have keyed (f : Reading TitleKey → Instr) (named : key f) : keyBody f body = some c ∧ body.length = 3 := by
    simp only [key, number, number_eq_bytesNumber] at named
    obtain ⟨named, unreadable, length, range⟩ := named
    exact ⟨keyBody_spells named unreadable length range, length⟩
  have worded (i : Nat) : word i = BitVec.ofNat 16 (bytesNumber ((body.drop i).take 2)) := by
    simp only [word, number, number_eq_bytesNumber]
  rcases kinds with ⟨rfl, rfl, length, carries⟩ | ⟨rfl, rfl, carries⟩ | ⟨rfl, rfl, length, rfl⟩ | ⟨rfl, rfl, carries⟩ | ⟨rfl, rfl, carries⟩ |
    ⟨rfl, rfl, carries⟩ | ⟨rfl, rfl, rfl, rfl⟩ | ⟨rfl, rfl, length, rfl⟩ | ⟨rfl, rfl, length, rfl⟩ | ⟨rfl, rfl, carries⟩ |
    ⟨rfl, rfl, carries⟩ | ⟨rfl, rfl, carries⟩ | ⟨rfl, rfl, carries⟩ | ⟨rfl, rfl, carries⟩ | ⟨other, rfl, length, rfl⟩
  · exact spelled length rfl (ticketByteBody_spells length (by simpa only [number, number_eq_bytesNumber] using carries))
  · exact spelled (keyed _ carries).2 rfl (keyed _ carries).1
  · exact spelled length rfl (byteBody_spells length)
  · exact spelled (ticketed _ carries).2 rfl (ticketed _ carries).1
  · exact spelled (ticketed _ carries).2 rfl (ticketed _ carries).1
  · exact spelled (ticketed _ carries).2 rfl (ticketed _ carries).1
  · exact spelled rfl rfl rfl
  · exact spelled length rfl (by rw [worded, worded]; exact wordsBody_spells length)
  · exact spelled length rfl (by rw [worded]; exact wordBody_spells length)
  · exact spelled (ticketed _ carries).2 rfl (ticketed _ carries).1
  · exact spelled (keyed _ carries).2 rfl (keyed _ carries).1
  · exact spelled (ticketed _ carries).2 rfl (ticketed _ carries).1
  · exact spelled (ticketed _ carries).2 rfl (ticketed _ carries).1
  · exact spelled (ticketed _ carries).2 rfl (ticketed _ carries).1
  · have spells : wordBody (.floor st) body = some (.floor st (word 0)) := by rw [worded]; exact wordBody_spells length
    cases st with
    | s4 => exact absurd rfl other
    | s1 | s2 | s3 | s5 | s6 => exact spelled length rfl spells

/-! ### The invariants after device reset -/

theorem TitleInv.reset : TitleInv State.reset := .of_empty rfl fun i w => reset_entryAt i w

theorem LinkInv.reset : LinkInv State.reset where
  places := Nat.zero_le _
  room := Nat.zero_le _
  attn := rfl
  waits := nofun
  owed := nofun

theorem ArbiterInv.reset : ArbiterInv State.reset where
  refusal := nofun
  answer := nofun
  notice := nofun
  sends := by simp [State.reset, Link.resetValue]
  idle := rfl

theorem PendingInv.of_empty {s : State} (records : s.records = []) (pending : s.pendingTitles = []) : PendingInv s := by
  constructor <;> simp [records, pending]

theorem PlaceInv.reset_standing (st : Stage) : standing State.reset st = [] := by
  cases st <;> rfl

theorem PlaceInv.reset : PlaceInv State.reset where
  stands st _ _ t := by
    have records : State.reset.records = [] := rfl
    simp [PlaceInv.reset_standing, records]
  once st := by simp [PlaceInv.reset_standing]
  position _ h := absurd h List.not_mem_nil
  married := nofun
  waiting := nofun
  readS3 := nofun
  readS5 := nofun
  jacketing := nofun

/-- Settles O54: each invariant of the reset state. -/
theorem invariantsHoldAtReset : Obligations.InvariantsHoldAtReset where
  link := .reset
  arbiter := .reset
  records := .of_empty rfl rfl
  titles := .reset
  pending := .of_empty rfl rfl
  lanes := .of_unknown rfl
  tracks := .of_empty rfl rfl
  jackets := ⟨Nat.zero_le _, Nat.zero_le _, fun _ => Nat.zero_lt_succ _⟩
  pace := .reset [] 0
  places := .reset
  idle := rfl
  demand := rfl

end Sys2Proof.Machine
end

section
/-! The row of a request (R180): the request leaves the queue, its checks and effects take place on the state without it, and its
answer fills its place. -/

namespace Sys2Proof.Machine

/-- R180: the state on which the request at the head of the queue is executed. -/
def served (rest : List QueuedRequest) (s : State) : State :=
  { s with out := [], sentFrame := [], link := { s.link with requests := rest } }

@[simp] theorem served_frame (rest : List QueuedRequest) (s : State) :
    (served rest s).pending = s.pending ∧ (served rest s).records = s.records ∧ (served rest s).retiring = s.retiring ∧
    (served rest s).titles = s.titles ∧ (served rest s).pendingTitles = s.pendingTitles ∧ (served rest s).tracks = s.tracks ∧
    (served rest s).readers = s.readers ∧ (served rest s).lanes = s.lanes ∧ (served rest s).head = s.head ∧
    (served rest s).marriageTimer = s.marriageTimer ∧ (served rest s).press = s.press ∧ (served rest s).pace = s.pace ∧
    (served rest s).jackets = s.jackets ∧ (served rest s).line = s.line ∧ (served rest s).params = s.params ∧
    (served rest s).ports = s.ports ∧ (served rest s).drive = s.drive ∧ (served rest s).out = [] ∧
    (served rest s).openChoices = s.openChoices := by
  simp [served]

@[simp] theorem served_link (rest : List QueuedRequest) (s : State) :
    (served rest s).link.requests = rest ∧ (served rest s).link.answers = s.link.answers ∧
    (served rest s).link.refusal = s.link.refusal ∧ (served rest s).link.assembly = s.link.assembly ∧
    (served rest s).link.overrun = s.link.overrun ∧ (served rest s).link.nextArrival = s.link.nextArrival ∧
    (served rest s).link.notices = s.link.notices ∧ (served rest s).link.held = s.link.held ∧
    (served rest s).link.nextNotice = s.link.nextNotice ∧ (served rest s).link.attn = s.link.attn := by
  simp [served]

/-- R161: a Line Command accepted in the line states `ok` with the effect `f`. -/
def handleLine (ok : LineState → Bool) (f : State → State) (s : State) : Handled :=
  if ok s.line.state then accept (f s) (lineWords (f s).line.state) else ⟨s, .wrongState, lineWords s.line.state⟩

/-- R178, R180: what each request comes to. -/
def handleOf : Request → State → Handled
  | .admitBook t k o override oneOff => handleAdmit t k o override oneOff
  | .withdrawBook t => handleWithdraw t
  | .attachParameters t o p => handleAttach t o p
  | .queryBook t => handleQueryBook t
  | .forceRetire t => handleForceRetire t
  | .loadTitle k o p => handleLoadTitle k o p
  | .dropTitle k => handleDropTitle k
  | .queryTitle k => handleQueryTitle k
  | .readTitleSlot set way => handleReadSlot set way
  | .setParameter number value => handleSetParameter number value
  | .setFloor entry marks v => handleSetFloor entry marks v
  | .loadJackets keys => handleLoadJackets keys
  | .releaseJacketer choice => handleReleaseJacketer choice
  | .status part => handleStatus part
  | .lineCommand 1 => handleLine standsFree runLine
  | .lineCommand 2 => handleLine LineState.feeds softStop
  | .lineCommand 3 => handleLine LineState.driveRuns stopNowLine
  | .lineCommand 4 => handleLine isRunning runOutLine
  | .lineCommand 5 => handleLine isFaultHold releaseLine
  | .lineCommand 6 => handleLine standsFree clearWhole
  | .lineCommand _ => fun s => refuse s .range

theorem serve_request {handle : Request → Option (State → Handled)} {s : State} {q : QueuedRequest} {rest : List QueuedRequest}
    (queued : s.link.requests = q :: rest) (takes : handle q.request = some (handleOf q.request)) :
    serve handle s = .next (noteSending (fillAnswer q (handleOf q.request (served rest s)))) := by
  rw [serve_own queued takes]
  rfl

/-- R161: a code that names no Line Command. -/
theorem commandOf_unnamed {code : Nat} (unnamed : code = 0 ∨ 6 < code) :
    commandOf (.lineCommand code) = .lineCommandNamingNoCommand ∧ handleOf (.lineCommand code) = fun s => refuse s .range := by
  match code, unnamed with
  | 0, _ => exact ⟨rfl, rfl⟩
  | n + 7, _ => exact ⟨rfl, rfl⟩

/-- R180: the request at the head of the queue is executed by its own row. -/
theorem exec_request {q : QueuedRequest} {rest : List QueuedRequest} {s : State} (queued : s.link.requests = q :: rest) :
    exec (commandOf q.request) s = .next (noteSending (fillAnswer q (handleOf q.request (served rest s)))) := by
  obtain ⟨request, arrival⟩ := q
  cases request with
  | lineCommand code =>
    match code with
    | 1 => exact (serve_request queued rfl : execRun s = _)
    | 2 => exact (serve_request queued rfl : execStopSoft s = _)
    | 3 => exact (serve_request queued rfl : execStopNow s = _)
    | 4 => exact (serve_request queued rfl : execRunOut s = _)
    | 5 => exact (serve_request queued rfl : execRelease s = _)
    | 6 => exact (serve_request queued rfl : execClearLine s = _)
    | 0 => exact (serve_request queued rfl : execLineCommandNamingNoCommand s = _)
    | n + 7 =>
      have unnamed : within 1 6 (n + 7) = false := by simp [within]
      exact (serve_request queued (by simp only [unnamed]; rfl) : execLineCommandNamingNoCommand s = _)
  | admitBook => exact (serve_request queued rfl : execAdmitBook s = _)
  | withdrawBook => exact (serve_request queued rfl : execWithdrawBook s = _)
  | attachParameters => exact (serve_request queued rfl : execAttachParameters s = _)
  | queryBook => exact (serve_request queued rfl : execQueryBook s = _)
  | forceRetire => exact (serve_request queued rfl : execForceRetire s = _)
  | loadTitle => exact (serve_request queued rfl : execLoadTitle s = _)
  | dropTitle => exact (serve_request queued rfl : execDropTitle s = _)
  | queryTitle => exact (serve_request queued rfl : execQueryTitle s = _)
  | readTitleSlot => exact (serve_request queued rfl : execReadTitleSlot s = _)
  | setParameter => exact (serve_request queued rfl : execSetParameter s = _)
  | setFloor => exact (serve_request queued rfl : execSetFloor s = _)
  | loadJackets => exact (serve_request queued rfl : execLoadJackets s = _)
  | releaseJacketer => exact (serve_request queued rfl : execReleaseJacketer s = _)
  | status => exact (serve_request queued rfl : execStatus s = _)

/-! ### The answer -/

/-- R180: a request that changes nothing but its places. -/
theorem fillAnswer_served (q : QueuedRequest) (rest : List QueuedRequest) (st : Status) (body : List Word) (s : State) :
    fillAnswer q ⟨served rest s, st, body⟩ = answered q rest st body s := rfl

theorem exec_refused {q : QueuedRequest} {rest : List QueuedRequest} {s : State} {st : Status} {body : List Word}
    (queued : s.link.requests = q :: rest) (handled : handleOf q.request (served rest s) = ⟨served rest s, st, body⟩) :
    exec (commandOf q.request) s = .next (noteSending (answered q rest st body s)) := by
  rw [exec_request queued, handled, fillAnswer_served]

/-- R180, R181: the state after a request that has left `u` and is answered OK. -/
def filled (q : QueuedRequest) (body : List Word) (u : State) : State := noteSending (fillAnswer q (accept u body))

/-- What an answered request leaves of its effects (R180, R181). -/
@[simp] theorem filled_frame (q : QueuedRequest) (body : List Word) (u : State) :
    (filled q body u).pending = u.pending ∧ (filled q body u).records = u.records ∧ (filled q body u).retiring = u.retiring ∧
    (filled q body u).titles = u.titles ∧ (filled q body u).pendingTitles = u.pendingTitles ∧
    (filled q body u).tracks = u.tracks ∧ (filled q body u).readers = u.readers ∧ (filled q body u).lanes = u.lanes ∧
    (filled q body u).head = u.head ∧ (filled q body u).marriageTimer = u.marriageTimer ∧ (filled q body u).press = u.press ∧
    (filled q body u).pace = u.pace ∧ (filled q body u).jackets = u.jackets ∧ (filled q body u).line = u.line ∧
    (filled q body u).params = u.params ∧ (filled q body u).ports = u.ports ∧ (filled q body u).drive = u.drive ∧
    (filled q body u).out = u.out ∧ (filled q body u).openChoices = u.openChoices := by
  simp [filled, fillAnswer, accept]

@[simp] theorem filled_notices (q : QueuedRequest) (body : List Word) (u : State) :
    (filled q body u).link.notices = u.link.notices ∧ (filled q body u).link.held = u.link.held ∧
    (filled q body u).link.nextNotice = u.link.nextNotice ∧ (filled q body u).link.attn = u.link.attn := by
  simp [filled, fillAnswer, accept]

theorem exec_accepted {q : QueuedRequest} {rest : List QueuedRequest} {s u : State} {body : List Word}
    (queued : s.link.requests = q :: rest) (handled : handleOf q.request (served rest s) = accept u body) :
    exec (commandOf q.request) s = .next (filled q body u) := by
  rw [exec_request queued, handled, filled]

theorem answered_of_sameRequests {rest : List QueuedRequest} {s : State} {h : Handled} (q : QueuedRequest)
    (same : SameRequests (served rest s) h.state) :
    Answered q rest h.status h.body s (noteSending (fillAnswer q h)) := by
  obtain ⟨requests, answers, refusal, assembly, overrun, nextArrival⟩ := same
  simp [Answered, fillAnswer, requests, answers, refusal, assembly, overrun, nextArrival]

theorem Serves.sameRequests {s u : State} (serves : Serves s u) : SameRequests s u := by
  cases serves with
  | table table => cases table <;> simp [SameRequests, updateTitle]
  | _ => simp [SameRequests, releaseJackets]

theorem handleLine_serves {ok : LineState → Bool} {f : State → State} (effect : ∀ s, Serves s (f s)) (s : State) :
    Serves s (handleLine ok f s).state := by
  unfold handleLine
  split
  · exact effect s
  · exact .unchanged s

theorem handleOf_serves (r : Request) (s : State) : Serves s (handleOf r s).state := by
  cases r with
  | lineCommand code =>
    match code with
    | 1 => exact handleLine_serves .run s
    | 2 => exact handleLine_serves .stopSoft s
    | 3 => exact handleLine_serves .stopNow s
    | 4 => exact handleLine_serves .runOut s
    | 5 => exact handleLine_serves .release s
    | 6 => exact handleLine_serves (fun s => .table (.clear s)) s
    | 0 => exact .unchanged s
    | n + 7 => exact .unchanged s
  | admitBook => exact handleAdmit_serves ..
  | withdrawBook => exact handleWithdraw_serves ..
  | attachParameters => exact handleAttach_serves ..
  | queryBook => exact handleQueryBook_state .. ▸ .unchanged s
  | forceRetire => exact handleForceRetire_serves ..
  | loadTitle => exact handleLoadTitle_serves ..
  | dropTitle => exact handleDropTitle_serves ..
  | queryTitle => exact handleQueryTitle_state .. ▸ .unchanged s
  | readTitleSlot => exact handleReadSlot_state .. ▸ .unchanged s
  | setParameter => exact handleSetParameter_serves ..
  | setFloor => exact handleSetFloor_serves ..
  | loadJackets => exact handleLoadJackets_serves ..
  | releaseJacketer => exact handleReleaseJacketer_serves ..
  | status => exact handleStatus_state .. ▸ .unchanged s

/-- R180: every answered request keeps the other places of the line link. -/
theorem exec_answered {q : QueuedRequest} {rest : List QueuedRequest} {s : State} {h : Handled}
    (handled : handleOf q.request (served rest s) = h) : Answered q rest h.status h.body s (noteSending (fillAnswer q h)) :=
  answered_of_sameRequests q (handled ▸ (handleOf_serves q.request _).sameRequests)

theorem filled_answered {q : QueuedRequest} {rest : List QueuedRequest} {s u : State} {body : List Word}
    (handled : handleOf q.request (served rest s) = accept u body) : Answered q rest .ok body s (filled q body u) :=
  exec_answered handled

/-! ### Refusals -/

/-- A request answered with another status than OK has left the state `s` as it was. -/
def Handled.Clean (s : State) (h : Handled) : Prop := h.status ≠ .ok → h.state = s

theorem Handled.Clean.accepted {s u : State} {body : List Word} : (accept u body).Clean s := fun refused => absurd rfl refused

theorem Handled.Clean.kept {s : State} {st : Status} {body : List Word} : Handled.Clean s ⟨s, st, body⟩ := fun _ => rfl

theorem handleLine_clean (ok : LineState → Bool) (f : State → State) (s : State) : (handleLine ok f s).Clean s := by
  unfold handleLine
  split
  · exact .accepted
  · exact .kept

theorem handleAdmit_clean (t : Ticket) (k : TitleKey) (o : Word) (override : Option Nat) (oneOff : Option TitleParams) (s : State) :
    (handleAdmit t k o override oneOff s).Clean s := by
  unfold handleAdmit
  split
  · exact .kept
  split
  · exact .kept
  split
  · exact .kept
  split
  · exact .kept
  split
  · exact .kept
  · exact .accepted

theorem handleWithdraw_clean (t : Ticket) (s : State) : (handleWithdraw t s).Clean s := by
  unfold handleWithdraw
  split
  · exact .kept
  split
  · exact .kept
  split
  · exact .accepted
  · exact .kept

theorem handleAttach_clean (t : Ticket) (o : Word) (p : TitleParams) (s : State) : (handleAttach t o p s).Clean s := by
  unfold handleAttach
  split
  · exact .kept
  split
  · exact .kept
  split
  · exact .kept
  split
  · exact .kept
  · exact .accepted

theorem handleForceRetire_clean (t : Ticket) (s : State) : (handleForceRetire t s).Clean s := by
  unfold handleForceRetire
  split
  · exact .kept
  split
  · exact .kept
  split
  · exact .kept
  · exact .accepted

theorem handleLoadTitle_clean (k : TitleKey) (o : Word) (p : TitleParams) (s : State) : (handleLoadTitle k o p s).Clean s := by
  unfold handleLoadTitle
  split
  · exact .kept
  split
  · exact .accepted
  split
  · exact .kept
  · exact .accepted

theorem handleDropTitle_clean (k : TitleKey) (s : State) : (handleDropTitle k s).Clean s := by
  unfold handleDropTitle
  split
  · exact .kept
  split
  · exact .kept
  dsimp only
  split
  · exact .kept
  · exact .accepted

theorem handleSetFloor_clean (entry : Nat) (marks : Byte) (v : Nat) (s : State) : (handleSetFloor entry marks v s).Clean s := by
  unfold handleSetFloor
  split
  · exact .kept
  split
  · exact .kept
  · exact .accepted

theorem handleLoadJackets_clean (keys : List TitleKey) (s : State) : (handleLoadJackets keys s).Clean s := by
  unfold handleLoadJackets
  split
  · exact .kept
  split
  · exact .kept
  · exact .accepted

theorem handleReleaseJacketer_clean (choice : Nat) (s : State) : (handleReleaseJacketer choice s).Clean s := by
  unfold handleReleaseJacketer
  split
  · exact .accepted
  · split
    · exact .accepted
    · exact .kept
  · exact .kept

theorem handleSetParameter_clean (number value : Nat) (s : State) : (handleSetParameter number value s).Clean s := by
  unfold handleSetParameter
  split
  · exact .kept
  · exact .accepted

theorem handleOf_clean (r : Request) (s : State) : (handleOf r s).Clean s := by
  cases r with
  | lineCommand code =>
    match code with
    | 1 | 2 | 3 | 4 | 5 | 6 => exact handleLine_clean _ _ s
    | 0 => exact .kept
    | n + 7 => exact .kept
  | admitBook => exact handleAdmit_clean _ _ _ _ _ s
  | withdrawBook => exact handleWithdraw_clean _ s
  | attachParameters => exact handleAttach_clean _ _ _ s
  | queryBook => exact fun _ => handleQueryBook_state ..
  | forceRetire => exact handleForceRetire_clean _ s
  | loadTitle => exact handleLoadTitle_clean _ _ _ s
  | dropTitle => exact handleDropTitle_clean _ s
  | queryTitle => exact fun _ => handleQueryTitle_state ..
  | readTitleSlot => exact fun _ => handleReadSlot_state ..
  | setParameter => exact handleSetParameter_clean _ _ s
  | setFloor => exact handleSetFloor_clean _ _ _ s
  | loadJackets => exact handleLoadJackets_clean _ s
  | releaseJacketer => exact handleReleaseJacketer_clean _ s
  | status => exact fun _ => handleStatus_state ..

/-- Settles O14: each request has its row, its handler keeps the other places of the link, and a refusal keeps the state. -/
theorem everyRequestIsAnswered : Obligations.EveryRequestIsAnswered := by
  intro q rest s queued
  refine ⟨_, _, _, exec_request queued, exec_answered rfl, fun refused => ?_⟩
  have kept := handleOf_clean q.request (served rest s) refused
  rw [answered, fillAnswer, kept]
  rfl

end Sys2Proof.Machine
end

section
/-! The requests that only query the state, or write one part of it: Query Book, Query Title, Read Title Slot, Drop Title, Load
Jackets, Release Jacketer and Status, and the checks of the others. -/

namespace Sys2Proof.Machine

/-! ### The checks of a request's fields (R178) -/

theorem ticketInRange_false {t : Ticket} (zero : t.order = 0 ∨ t.copy = 0) : ticketInRange t = false := by
  rcases zero with zero | zero <;> simp [ticketInRange, zero]

theorem ticketInRange_true {t : Ticket} (order : t.order ≠ 0) (copy : t.copy ≠ 0) : ticketInRange t = true := by
  simp only [ticketInRange, Bool.and_eq_true, Bool.not_eq_true', beq_eq_false_iff_ne]
  exact ⟨order, copy⟩

theorem keyInRange_iff (k : TitleKey) : keyInRange k = true ↔ k ≠ 0 := by
  simp [keyInRange]

/-- R178: the dwell override's mark is bit 2, so an options word with no other mark is 0 or 4. -/
theorem onlyMarks_four (o : Word) : onlyMarks 4 o = true ↔ o.toNat = 0 ∨ o.toNat = 4 := by
  have bit : o &&& 4 = if o.getLsbD 2 then 4 else 0 := BitVec.and_twoPow o 2
  have whole : (o &&& 4) ||| (o &&& ~~~4) = o := by
    rw [← BitVec.and_or_distrib_left, BitVec.or_not_self, BitVec.and_allOnes]
  have value (n : Nat) (small : n < 2 ^ 16) : o.toNat = n ↔ o = BitVec.ofNat 16 n := by
    refine ⟨fun h => BitVec.eq_of_toNat_eq (by rw [h, BitVec.toNat_ofNat, Nat.mod_eq_of_lt small]), fun h => ?_⟩
    rw [h, BitVec.toNat_ofNat, Nat.mod_eq_of_lt small]
  rw [value 0 (by decide), value 4 (by decide), onlyMarks, beq_iff_eq]
  constructor
  · intro others
    have low : o &&& 4 = o := by rw [others] at whole; exact (BitVec.or_zero).symm.trans whole
    rw [← low, bit]
    split
    · exact .inr rfl
    · exact .inl rfl
  · rintro (rfl | rfl) <;> rfl

/-- R13, R39: the ranges of a parameter set. -/
theorem paramsInRange_iff (p : TitleParams) : paramsInRange p = true ↔
    3 ≤ p.s ∧ p.s ≤ 90 ∧ 120 ≤ p.h ∧ p.h ≤ 420 ∧ 80 ≤ p.w ∧ p.w ≤ 320 ∧ 1 ≤ p.pc ∧ p.pc ≤ 3 ∧ 1 ≤ p.mc ∧ p.mc ≤ 3 ∧
      ∀ v, p.override = some v → 300 ≤ v ∧ v ≤ 30000 := by
  cases override : p.override with
  | none => simp [paramsInRange, override, overrideInRange, within, and_assoc]
  | some v => simp [paramsInRange, override, overrideInRange, within, and_assoc]

/-- R26, R27: the way in which a key is valid. -/
theorem titleWay_valid {k : TitleKey} {w : Way} {s : State} (valid : titleWay k s = some w) :
    ((titleSet k s).get w).valid = true ∧ ((titleSet k s).get w).key = k := by
  unfold titleWay TitleSet.wayOf at valid
  split at valid
  · next first => cases valid; simpa [TitleSet.get] using first
  · split at valid
    · next second => cases valid; simpa [TitleSet.get] using second
    · cases valid

/-! ### Query Book and the title queries (R20, R47, R48) -/

/-- Settles O20: Query Book reads the record of its ticket. -/
theorem queryBookAnswersTheRecord : Obligations.QueryBookAnswersTheRecord := by
  intro tk n rest s q queued range
  refine ⟨fun r found => ?_, fun missing => ?_⟩
  · refine (exec_refused queued (st := .ok) (body := bookWords r) ?_).trans ?_
    · simp [handleOf, handleQueryBook, range, show findRecord tk (served rest s) = some r from found, q, accept]
    · obtain ⟨_, _, _, oneOff, _, _, _, _, lane, _, _, _, _, _, outcome, _⟩ := r
      cases oneOff <;> rcases lane with _ | _ | _ <;> cases outcome <;> rfl
  · exact exec_refused queued (by
      simp [handleOf, handleQueryBook, range, show findRecord tk (served rest s) = none from missing, q, refuse])

/-- Settles O25: Query Title looks its key up in the table, and in the Pending Title List when it is not valid. -/
theorem queryTitleAnswersTheEntry : Obligations.QueryTitleAnswersTheEntry := by
  intro k n rest s q queued
  have range (zero : k ≠ 0) : keyInRange k = true := (keyInRange_iff k).2 zero
  refine ⟨fun zero => ?_, fun zero => ⟨fun w valid => ?_, fun missing unlisted => ?_, fun p missing listed => ?_⟩⟩
  · exact exec_refused queued (by simp [handleOf, handleQueryTitle, keyInRange, zero, q, refuse])
  · have key : ((titleSet k s).get w).key = k := (titleWay_valid valid).2
    refine (exec_refused queued (st := .ok)
      (body := entryWords (setOf k).val w (titleSet k s).lru ((titleSet k s).get w)) ?_).trans ?_
    · have valid' : titleWay k (served rest s) = some w := valid
      simp only [handleOf, handleQueryTitle, range zero, valid', q]
      rfl
    · rw [entryWords, key]
      cases (titleSet k s).lru <;> rfl
  · refine exec_refused queued ?_
    have missing' : titleWay k (served rest s) = none := missing
    have count : waitingCount k (served rest s) = 0 := by
      have : s.pendingTitles.find? (fun p => p.key == k) = none := by simpa [isListed] using unlisted
      simp [waitingCount, this]
    simp only [handleOf, handleQueryTitle, range zero, missing', count, q]
    rfl
  · refine exec_refused queued ?_
    have missing' : titleWay k (served rest s) = none := missing
    have count : waitingCount k (served rest s) = p.count := by simp [waitingCount, listed]
    simp only [handleOf, handleQueryTitle, range zero, missing', count, q]
    rfl

/-- Settles O26: Read Title Slot reads the entry of its set and way. -/
theorem readTitleSlotAnswersTheEntry : Obligations.ReadTitleSlotAnswersTheEntry := by
  intro set way n rest s q queued
  refine ⟨fun outside => exec_refused queued ?_, fun small w named => exec_refused queued ?_⟩
  · show handleReadSlot set way (served rest s) = _
    unfold handleReadSlot wayOfNum
    split
    · rfl
    · split
      · next w _ small =>
        have : 2 ≤ way := by omega
        match way with
        | n + 2 => contradiction
      · rfl
  · show handleReadSlot set way (served rest s) = _
    subst named
    cases w <;> simp [handleReadSlot, wayOfNum, Way.num, small, accept]

/-! ### The jacketer's requests and Status (R140, R150, R187) -/

/-- Settles O31: the two checks of Load Jackets, and the keys appended. -/
theorem loadJacketsAppendsTheKeys : Obligations.LoadJacketsAppendsTheKeys := by
  intro keys n rest s q queued
  have inRange : jacketsInRange keys = true ↔ keys ≠ [] ∧ keys.length ≤ 16 ∧ 0 ∉ keys := by
    simp only [jacketsInRange, within, Bool.and_eq_true, decide_eq_true_eq, List.all_eq_true, keyInRange_iff, and_assoc]
    refine and_congr (by rw [← List.length_pos_iff]; exact Nat.succ_le_iff) (and_congr_right fun _ => ?_)
    exact ⟨fun all zero => all 0 zero rfl, fun free k mem zero => free (zero ▸ mem)⟩
  refine ⟨fun bad => exec_refused queued ?_, fun some short keyed => ⟨fun full => exec_refused queued ?_, fun fits => ?_⟩⟩
  · have : jacketsInRange keys = false := by
      rw [Bool.eq_false_iff, Ne, inRange]
      rintro ⟨some, short, keyed⟩
      rcases bad with empty | long | zero
      · exact some empty
      · omega
      · exact keyed zero
    simp [handleOf, handleLoadJackets, this, q, refuse]
  · have room : Config.jacketKeys < s.jackets.sequence.length + keys.length := full
    simp [handleOf, handleLoadJackets, inRange.2 ⟨some, short, keyed⟩, room, q, refuse]
  · have room : ¬Config.jacketKeys < s.jackets.sequence.length + keys.length := Nat.not_lt.2 fits
    refine (exec_request queued).trans ?_
    simp only [handleOf, handleLoadJackets, inRange.2 ⟨some, short, keyed⟩, served_frame, if_neg room, q]
    rfl

/-- Settles O32: KEEP, EMPTY in FREE, and the refusals. -/
theorem releaseJacketerEndsBypass : Obligations.ReleaseJacketerEndsBypass := by
  intro choice n rest s q queued
  refine ⟨fun notKeep notEmpty => exec_refused queued ?_, fun keep => ?_, fun empty busy => exec_refused queued ?_,
    fun empty free => ?_⟩
  · show handleReleaseJacketer choice (served rest s) = _
    unfold handleReleaseJacketer
    split
    · contradiction
    · contradiction
    · rfl
  · subst keep
    exact exec_request queued
  · subst empty
    simp [handleOf, handleReleaseJacketer, busy, q, refuse]
  · subst empty
    refine (exec_request queued).trans ?_
    simp only [handleOf, handleReleaseJacketer, served_frame, free, q, if_true, releaseJackets]
    rfl

/-- Settles O33: the part that the number names. -/
theorem statusAnswersAPartOfTheState : Obligations.StatusAnswersAPartOfTheState := by
  intro part n rest s q queued s'
  refine ⟨fun above => exec_refused queued ?_, fun words named => ?_⟩
  · obtain ⟨k, rfl⟩ := Nat.exists_eq_add_of_le' (show 7 ≤ part from above)
    rfl
  · rcases named with ⟨rfl, rfl⟩ | ⟨rfl, rfl⟩ | ⟨rfl, rfl⟩ | ⟨rfl, rfl⟩ | ⟨rfl, rfl⟩ | ⟨rfl, rfl⟩ | ⟨rfl, rfl⟩
    all_goals exact exec_refused queued rfl

/-- Settles O34: the line states of each Line Command. -/
theorem lineCommandsAreCheckedByTheLineState : Obligations.LineCommandsAreCheckedByTheLineState := by
  intro code n rest s q wrong queued
  have refused {ok : LineState → Bool} {f : State → State} (handle : handleOf (.lineCommand code) = handleLine ok f)
      (not : ok s.line.state = false) :
      handleOf q.request (served rest s) = ⟨served rest s, .wrongState, [numWord s.line.state.code]⟩ := by
    simp [q, handle, handleLine, not, lineWords]
  refine ⟨fun unnamed => ?_, ?_, ?_, ?_, ?_, ?_, ?_⟩
  · obtain ⟨row, handle⟩ := commandOf_unnamed unnamed
    rw [← row]
    exact exec_refused (q := q) queued (by simp [q, handle, refuse])
  · rintro rfl notStopped notHalted
    refine exec_refused queued (refused rfl ?_)
    cases st : s.line.state <;> simp_all [standsFree]
  · rintro rfl notRunning notRunningOut
    refine exec_refused queued (refused rfl ?_)
    cases st : s.line.state <;> simp_all [LineState.feeds]
  · rintro rfl notRunning notStopping notRunningOut
    refine exec_refused queued (refused rfl ?_)
    cases st : s.line.state <;> simp_all [LineState.driveRuns]
  · rintro rfl notRunning
    refine exec_refused queued (refused rfl ?_)
    cases st : s.line.state <;> simp_all [isRunning]
  · rintro rfl notHold
    refine exec_refused queued (refused rfl ?_)
    cases st : s.line.state <;> simp_all [isFaultHold]
  · rintro rfl notStopped notHalted
    refine exec_refused queued (refused rfl ?_)
    cases st : s.line.state <;> simp_all [standsFree]

/-! ### Drop Title (R45, R46) -/

/-- R46: the entry that becomes invalid keeps its contents, and no other changes. -/
theorem changeEntry_set {k : TitleKey} {w : Way} {s : State} (valid : titleWay k s = some w) (f : TitleEntry → TitleEntry) :
    (titleSet k (changeEntry k f s)).get w = f ((titleSet k s).get w) ∧
    (titleSet k (changeEntry k f s)).get w.other = (titleSet k s).get w.other ∧
    (titleSet k (changeEntry k f s)).lru = (titleSet k s).lru ∧
    ∀ i, i ≠ setOf k → (changeEntry k f s).titles.get i = s.titles.get i := by
  have changed : changeEntry k f s = changeSet k (fun ts => ts.put w (f (ts.get w))) s := by rw [changeEntry, valid]
  rw [changed]
  refine ⟨?_, ?_, ?_, fun i other => changeSet_get_other k _ s other⟩ <;> simp

/-- Settles O24: a key that is not valid, a pinned entry, and an unpinned one. -/
theorem dropTitleFreesTheEntry : Obligations.DropTitleFreesTheEntry := by
  intro k n rest s q queued range
  refine ⟨fun missing => exec_refused queued ?_, fun w valid => ⟨fun pinned => exec_refused queued ?_, fun unpinned => ?_⟩⟩
  · have missing' : titleWay k (served rest s) = none := missing
    simp [handleOf, handleDropTitle, range, missing', q, refuse]
  · have valid' : titleWay k (served rest s) = some w := valid
    have pinned' : ((titleSet k (served rest s)).get w).pin ≠ 0 := pinned
    simp only [handleOf, handleDropTitle, range, valid', q, if_pos pinned']
    rfl
  · have valid' : titleWay k (served rest s) = some w := valid
    have unpinned' : ¬((titleSet k (served rest s)).get w).pin ≠ 0 := fun pinned => pinned unpinned
    have mark : numWord (bitIf ((titleSet k s).get w).dirty 1) = if ((titleSet k s).get w).dirty then 1 else 0 := by
      cases ((titleSet k s).get w).dirty <;> rfl
    have handled : handleOf q.request (served rest s) =
        accept (changeEntry k (fun e => { e with valid := false }) (served rest s))
          [pairWord (k.toNat % 32) w.num, if ((titleSet k s).get w).dirty then 1 else 0, numWord ((titleSet k s).get w).bound,
            numWord ((titleSet k s).get w).diverted] := by
      rw [← mark]
      simp only [handleOf, handleDropTitle, range, valid', q, if_neg unpinned']
      rfl
    obtain ⟨entry, other, lru, sets⟩ := changeEntry_set valid' fun e => { e with valid := false }
    refine ⟨_, exec_accepted queued handled, filled_answered handled, ?_, ?_, ?_, fun i away => ?_, ?_⟩
    · simpa [titleSet] using entry
    · simpa [titleSet] using other
    · simpa [titleSet] using lru
    · simpa using sets i away
    · simp [SameBooks, SameTracks, SameLanes, SamePress, SamePace, SameLine, SameNotices, Sent]

/-! ### The checks (R18, R178) -/

/-- R178: a request of a known kind that its row refuses. -/
theorem exec_asked {q : QueuedRequest} {rest : List QueuedRequest} {s : State} {st : Status} {body : List Word} {r : Request}
    (queued : s.link.requests = q :: rest) (asked : q.request = r)
    (handled : handleOf r (served rest s) = ⟨served rest s, st, body⟩) :
    exec (commandOf r) s = .next (noteSending (answered q rest st body s)) :=
  asked ▸ exec_refused queued (asked ▸ handled)

/-- R13, R178: RANGE before any lookup. -/
theorem requests_range {q : QueuedRequest} {rest : List QueuedRequest} {s : State} (queued : s.link.requests = q :: rest) :
    let range : Host.Outcome State Fault Refusal := .next (noteSending (answered q rest .range [] s))
    (∀ tk : Ticket, tk.order = 0 ∨ tk.copy = 0 →
      (q.request = .withdrawBook tk → exec .withdrawBook s = range) ∧
      (q.request = .queryBook tk → exec .queryBook s = range) ∧
      (q.request = .forceRetire tk → exec .forceRetire s = range) ∧
      (∀ o p, q.request = .attachParameters tk o p → exec .attachParameters s = range) ∧
      (∀ k o v p, q.request = .admitBook tk k o v p → exec .admitBook s = range)) ∧
    (∀ (o : Word) (p : TitleParams), o.toNat ≠ 0 ∧ o.toNat ≠ 4 ∨ paramsInRange p = false →
      (∀ tk, q.request = .attachParameters tk o p → exec .attachParameters s = range) ∧
      (∀ k, q.request = .loadTitle k o p → exec .loadTitle s = range)) ∧
    (q.request = .dropTitle 0 → exec .dropTitle s = range) ∧
    (∀ o p, q.request = .loadTitle 0 o p → exec .loadTitle s = range) := by
  refine ⟨fun tk zero => ?_, fun o p bad => ?_, fun asked => exec_asked queued asked ?_, fun o p asked => exec_asked queued asked ?_⟩
  · have refused := ticketInRange_false zero
    refine ⟨fun asked => exec_asked queued asked ?_, fun asked => exec_asked queued asked ?_, fun asked => exec_asked queued asked ?_,
      fun o p asked => exec_asked queued asked ?_, fun k o v p asked => exec_asked queued asked ?_⟩
    · simp [handleOf, handleWithdraw, refused, refuse]
    · simp [handleOf, handleQueryBook, refused, refuse]
    · simp [handleOf, handleForceRetire, refused, refuse]
    · simp [handleOf, handleAttach, refused, refuse]
    · simp [handleOf, handleAdmit, admitInRange, refused, refuse]
  · have refused (b : Bool) : (b && onlyMarks 4 o && paramsInRange p) = false := by
      rcases bad with ⟨notZero, notFour⟩ | params
      · have marks : onlyMarks 4 o = false := by
          rw [Bool.eq_false_iff, Ne, onlyMarks_four]
          exact fun marks => marks.elim notZero notFour
        rw [marks, Bool.and_false, Bool.false_and]
      · rw [params, Bool.and_false]
    refine ⟨fun tk asked => exec_asked queued asked ?_, fun k asked => exec_asked queued asked ?_⟩
    · exact if_pos (refused _)
    · exact if_pos (refused _)
  · simp [handleOf, handleDropTitle, keyInRange, refuse]
  · simp [handleOf, handleLoadTitle, keyInRange, refuse]

theorem unmarried_iff (st : Stage) : st.unmarried = true ↔ st = .admitted ∨ st = .gated ∨ st = .infeed ∨ st = .head := by
  cases st <;> simp [Stage.unmarried]

section Attach

variable {tk : Ticket} {o : Word} {p : TitleParams} {s : State} {r : BookRecord}
  (range : (ticketInRange tk && onlyMarks 4 o && paramsInRange p) = true)

include range

theorem handleAttach_missing (missing : liveRecord tk s = none) : handleAttach tk o p s = refuse s .noRecord := by
  rw [handleAttach, if_neg (by rw [range]; nofun), missing]

theorem handleAttach_late (live : liveRecord tk s = some r) (late : r.stage.unmarried = false) :
    handleAttach tk o p s = refuse s .tooLate := by
  rw [handleAttach, if_neg (by rw [range]; nofun), live]
  exact if_pos late

theorem handleAttach_resolved (live : liveRecord tk s = some r) (unmarried : r.stage.unmarried = true)
    (resolved : r.source = .oneOff ∨ r.resolved = true) : handleAttach tk o p s = refuse s .wrongState := by
  rw [handleAttach, if_neg (by rw [range]; nofun), live]
  exact (if_neg (by rw [unmarried]; nofun)).trans (if_pos resolved)

theorem handleAttach_accepts (live : liveRecord tk s = some r) (unmarried : r.stage.unmarried = true)
    (unresolved : ¬(r.source = .oneOff ∨ r.resolved = true)) : handleAttach tk o p s = accept (attachRecord r p s) [] := by
  rw [handleAttach, if_neg (by rw [range]; nofun), live]
  exact (if_neg (by rw [unmarried]; nofun)).trans (if_neg unresolved)

end Attach

/-- Settles O22: RANGE before any lookup, and the three further checks of Attach Parameters. -/
theorem requestsAreCheckedBeforeTheyAct : Obligations.RequestsAreCheckedBeforeTheyAct := by
  refine ⟨paramsInRange_iff, fun q rest s queued => requests_range queued, ?_⟩
  intro tk o p n rest s q queued order copy marks params
  have range : (ticketInRange tk && onlyMarks 4 o && paramsInRange p) = true := by
    rw [ticketInRange_true order copy, (onlyMarks_four o).2 marks, params]
    rfl
  refine ⟨fun missing => exec_refused queued (handleAttach_missing range missing), fun r live => ?_⟩
  rw [← unmarried_iff]
  exact ⟨fun late => exec_refused queued (handleAttach_late range live (by simpa using late)),
    fun unmarried resolved => exec_refused queued (handleAttach_resolved range live unmarried resolved)⟩

end Sys2Proof.Machine
end

section
/-! The operations do not read the commands already sent in the step, the frame shown or the waiting requests: over a state with
other ones they do the same. A statement about an operation on the state before a request holds so on the state on which the
request is served. -/

namespace Sys2Proof.Machine

/-- The state with the commands `sent` before its own, the frame shown and the waiting requests replaced. -/
def reline (sent : List PortCommand) (frame : List Word) (requests : List QueuedRequest) (s : State) : State :=
  { s with out := sent ++ s.out, sentFrame := frame, link := { s.link with requests := requests } }

variable (sent : List PortCommand) (frame : List Word) (requests : List QueuedRequest) (s : State)

@[simp] theorem reline_frame :
    (reline sent frame requests s).pending = s.pending ∧ (reline sent frame requests s).records = s.records ∧
    (reline sent frame requests s).retiring = s.retiring ∧ (reline sent frame requests s).titles = s.titles ∧
    (reline sent frame requests s).pendingTitles = s.pendingTitles ∧ (reline sent frame requests s).tracks = s.tracks ∧
    (reline sent frame requests s).readers = s.readers ∧ (reline sent frame requests s).lanes = s.lanes ∧
    (reline sent frame requests s).head = s.head ∧ (reline sent frame requests s).marriageTimer = s.marriageTimer ∧
    (reline sent frame requests s).press = s.press ∧ (reline sent frame requests s).pace = s.pace ∧
    (reline sent frame requests s).jackets = s.jackets ∧ (reline sent frame requests s).line = s.line ∧
    (reline sent frame requests s).params = s.params ∧ (reline sent frame requests s).ports = s.ports ∧
    (reline sent frame requests s).drive = s.drive ∧ (reline sent frame requests s).out = sent ++ s.out ∧
    (reline sent frame requests s).openChoices = s.openChoices := by
  simp [reline]

@[simp] theorem reline_notices :
    (reline sent frame requests s).link.notices = s.link.notices ∧ (reline sent frame requests s).link.held = s.link.held ∧
    (reline sent frame requests s).link.nextNotice = s.link.nextNotice ∧
    (reline sent frame requests s).link.attn = s.link.attn := by
  simp [reline]

@[simp] theorem reline_reads :
    (∀ t, findRecord t (reline sent frame requests s) = findRecord t s) ∧
    (∀ t, liveRecord t (reline sent frame requests s) = liveRecord t s) ∧
    (∀ t, keyOf t (reline sent frame requests s) = keyOf t s) ∧
    (∀ k, titleSet k (reline sent frame requests s) = titleSet k s) ∧
    (∀ k, titleWay k (reline sent frame requests s) = titleWay k s) ∧
    (∀ r, paramsOf r (reline sent frame requests s) = paramsOf r s) ∧
    (∀ r, passesCheck r (reline sent frame requests s) = passesCheck r s) ∧
    (∀ k, infeedHas k (reline sent frame requests s) = infeedHas k s) ∧
    (∀ t, isMarked t (reline sent frame requests s) = isMarked t s) :=
  ⟨fun _ => rfl, fun _ => rfl, fun _ => rfl, fun _ => rfl, fun _ => rfl, fun _ => rfl, fun _ => rfl, fun _ => rfl, fun _ => rfl⟩

@[simp] theorem reline_tests :
    noticeWaits (reline sent frame requests s) = noticeWaits s ∧ gateOpen (reline sent frame requests s) = gateOpen s ∧
    lineEmpty (reline sent frame requests s) = lineEmpty s ∧ idleRuns (reline sent frame requests s) = idleRuns s ∧
    freedLane (reline sent frame requests s) = freedLane s ∧ purgeChoice (reline sent frame requests s) = purgeChoice s ∧
    targetPitch (reline sent frame requests s) = targetPitch s ∧ decidingSource (reline sent frame requests s) = decidingSource s :=
  ⟨rfl, rfl, rfl, rfl, rfl, rfl, rfl, rfl⟩

/-- A state is the one on which a request is served, with the commands, the frame and the requests it had. -/
theorem eq_reline_served (rest : List QueuedRequest) : s = reline s.out s.sentFrame s.link.requests (served rest s) := by
  simp [reline, served]

/-! ### Commands and notices -/

theorem send_reline (c : PortCommand) : send c (reline sent frame requests s) = reline sent frame requests (send c s) := by
  unfold send
  rw [(reline_frame sent frame requests s).2.2.2.2.2.2.2.2.2.2.2.2.2.2.2.2.1]
  split
  · rfl
  · simp [reline]

theorem produce_reline (n : Notice) : produce n (reline sent frame requests s) = reline sent frame requests (produce n s) := by
  unfold produce
  simp only [reline_notices, reline_tests]
  split <;> rfl

/-! ### Records and titles -/

theorem changeRecord_reline (t : Ticket) (f : BookRecord → BookRecord) :
    changeRecord t f (reline sent frame requests s) = reline sent frame requests (changeRecord t f s) := by
  unfold changeRecord
  simp only [reline_reads]
  split <;> rfl

theorem changeEntry_reline (k : TitleKey) (f : TitleEntry → TitleEntry) :
    changeEntry k f (reline sent frame requests s) = reline sent frame requests (changeEntry k f s) := by
  unfold changeEntry
  simp only [reline_reads]
  split <;> rfl

theorem freeRecord_reline (r : BookRecord) :
    freeRecord r (reline sent frame requests s) = reline sent frame requests (freeRecord r s) := by
  unfold freeRecord
  dsimp only
  split
  · exact changeEntry_reline sent frame requests { s with
      records := s.records.filter (fun x => !(x.ticket == r.ticket)), retiring := s.retiring.filter (fun t => !(t == r.ticket)) } ..
  · rfl

theorem offerRetired_reline (t : Ticket) :
    offerRetired t (reline sent frame requests s) = reline sent frame requests (offerRetired t s) := by
  unfold offerRetired
  simp only [reline_reads]
  cases findRecord t s with
  | none => rfl
  | some r =>
    exact freeRecord_reline sent frame requests
      (enqueueNotice ⟨s.link.nextNotice, retiredNotice r⟩ { s with link.nextNotice := s.link.nextNotice + 1 }) r

theorem offerAll_reline (ts : List Ticket) :
    offerAll ts (reline sent frame requests s) = reline sent frame requests (offerAll ts s) := by
  induction ts generalizing s with
  | nil => rfl
  | cons t ts ih =>
    simp only [offerAll, reline_notices]
    split
    · rw [offerRetired_reline, ih]
    · rfl

theorem enterRetiring_reline (t : Ticket) (o : BookOutcome) (eject : Option Reason) :
    enterRetiring t o eject (reline sent frame requests s) = reline sent frame requests (enterRetiring t o eject s) := by
  unfold enterRetiring
  simp only [reline_reads]
  cases liveRecord t s with
  | none => rfl
  | some r =>
    dsimp only
    split <;> rfl

theorem retire_reline (t : Ticket) (o : BookOutcome) (eject : Option Reason) :
    retire t o eject (reline sent frame requests s) = reline sent frame requests (retire t o eject s) := by
  simp only [retire, enterRetiring_reline, reline_frame, offerAll_reline]

/-! ### The line -/

theorem setLine_reline (st : LineState) (c : Cause) :
    setLine st c (reline sent frame requests s) = reline sent frame requests (setLine st c s) :=
  produce_reline sent frame requests { s with line := ⟨st, some c⟩ } _

theorem stopDrive_reline : stopDrive (reline sent frame requests s) = reline sent frame requests (stopDrive s) := by
  unfold stopDrive
  simp only [reline_frame]
  split
  · exact send_reline ..
  · rfl

theorem runOutTest_reline : runOutTest (reline sent frame requests s) = reline sent frame requests (runOutTest s) := by
  unfold runOutTest
  simp only [reline_frame, reline_tests]
  split
  · rw [stopDrive_reline, setLine_reline]
  · rfl

theorem settleLine_reline : settleLine (reline sent frame requests s) = reline sent frame requests (settleLine s) := by
  simp only [settleLine, runOutTest_reline]
  rfl

theorem recomputePitch_reline : recomputePitch (reline sent frame requests s) = reline sent frame requests (recomputePitch s) := by
  unfold recomputePitch
  simp only [reline_frame, reline_tests]
  split
  · rw [← produce_reline, ← send_reline, ← send_reline]
    rfl
  · rfl

/-! ### The gate, the lanes and the head -/

theorem gateTest_reline : gateTest (reline sent frame requests s) = reline sent frame requests (gateTest s) := by
  unfold gateTest
  simp only [reline_frame, reline_tests]
  split
  · split
    · simp only [admitHeld, send_reline, setStage, changeRecord_reline]
      rfl
    · rfl
  · rfl

theorem takeCase_reline (t : Ticket) (l : LaneId) (k : TitleKey) (n : Nat) :
    takeCase t l k n (reline sent frame requests s) = reline sent frame requests (takeCase t l k n s) := by
  simp only [takeCase, send_reline, changeRecord_reline]
  rfl

theorem tryTakeCase_reline : tryTakeCase (reline sent frame requests s) = reline sent frame requests (tryTakeCase s) := by
  unfold tryTakeCase
  simp only [reline_frame, reline_reads]
  split
  · split
    · split
      · exact takeCase_reline ..
      · rfl
    · rfl
  · rfl

theorem laneDecision_reline (t : Ticket) (k : TitleKey) :
    laneDecision t k (reline sent frame requests s) = reline sent frame requests (laneDecision t k s) := by
  unfold laneDecision
  simp only [reline_frame, reline_tests]
  split
  · next l _ => exact tryTakeCase_reline sent frame requests { s with head := .waitCase t (some l) }
  split
  · rfl
  split
  · rfl
  split
  · rfl
  split
  · next l _ =>
    rw [← show startPurge l .exchange (some k) (reline sent frame requests { s with head := .waitCase t (some l) }) =
      reline sent frame requests (startPurge l .exchange (some k) { s with head := .waitCase t (some l) }) by
        rw [startPurge, send_reline]; rfl]
    rfl
  · rfl

theorem decideAgain_reline : decideAgain (reline sent frame requests s) = reline sent frame requests (decideAgain s) := by
  unfold decideAgain
  simp only [reline_frame, reline_reads]
  split
  · split
    · exact laneDecision_reline ..
    · rfl
  · rfl

theorem releaseCheck_reline : releaseCheck (reline sent frame requests s) = reline sent frame requests (releaseCheck s) := by
  have lanes : releaseLanes (reline sent frame requests s) = reline sent frame requests (releaseLanes s) := rfl
  simp only [releaseCheck, lanes, reline_frame]
  split
  · exact decideAgain_reline ..
  · rfl

theorem leaveInfeed_reline (t : Ticket) :
    leaveInfeed t (reline sent frame requests s) = reline sent frame requests (leaveInfeed t s) := by
  rw [leaveInfeed, leaveInfeed, ← gateTest_reline]
  exact congrArg gateTest (changeRecord_reline sent frame requests
    { s with tracks := { s.tracks with infeed := s.tracks.infeed.filter fun e => !(e.ticket == t) } } ..)

theorem arrive_reline (t : Ticket) : arrive t (reline sent frame requests s) = reline sent frame requests (arrive t s) := by
  unfold arrive
  simp only [leaveInfeed_reline, reline_reads, send_reline, retire_reline, releaseCheck_reline]
  split
  · rfl
  split
  · rfl
  · split
    · rw [← releaseCheck_reline, ← laneDecision_reline]
      rfl
    · rw [← releaseCheck_reline]
      rfl

theorem actWaitingS3_reline : actWaitingS3 (reline sent frame requests s) = reline sent frame requests (actWaitingS3 s) := by
  unfold actWaitingS3
  simp only [reline_frame]
  split
  · split
    · rw [← arrive_reline]
      rfl
    · rfl
  · rfl

theorem ejectHead_reline (t : Ticket) (why : Reason) :
    ejectHead t why (reline sent frame requests s) = reline sent frame requests (ejectHead t why s) := by
  have cleared (u : State) : clearHead (reline sent frame requests u) = reline sent frame requests (clearHead u) := rfl
  simp only [ejectHead, send_reline, cleared, retire_reline, releaseCheck_reline, actWaitingS3_reline]

theorem announceResolved_reline (t : Ticket) :
    announceResolved t (reline sent frame requests s) = reline sent frame requests (announceResolved t s) := by
  unfold announceResolved
  simp only [reline_reads, reline_frame]
  split
  · rfl
  split
  · split
    · rw [laneDecision_reline, releaseCheck_reline]
    · rfl
  split
  · rw [refuseGated, send_reline, retire_reline]
    rfl
  · rfl
  · exact ejectHead_reline ..
  · rfl

end Sys2Proof.Machine
end

section
/-! The retirement of a record (R8 to R12, R70), and the requests that retire or write one record or floor. -/

namespace Sys2Proof.Machine

/-! ### The place of the record -/

theorem toList_dropTicket (t : Ticket) (o : Option Ticket) : (dropTicket t o).toList = o.toList.filter (fun u => !(u == t)) := by
  cases o with
  | none => rfl
  | some u =>
    by_cases h : u = t
    · simp [dropTicket, h]
    · simp [dropTicket, h]

theorem Positions.drop_tickets (t : Ticket) (p : Positions) : (p.drop t).tickets = p.tickets.filter (fun u => !(u == t)) := by
  have tickets (p : Positions) : p.tickets =
      p.p1.toList ++ p.p2.toList ++ p.p3.toList ++ p.p4.toList ++ p.p5.toList ++ p.p6.toList := by
    obtain ⟨a, b, c, d, e, f⟩ := p
    cases a <;> cases b <;> cases c <;> cases d <;> cases e <;> cases f <;> rfl
  simp only [tickets, List.filter_append]
  simp only [Positions.drop, toList_dropTicket]

/-- R8: the place of a record that retires closes up behind it. -/
theorem standing_retire {t : Ticket} {r : BookRecord} {s : State} (live : liveRecord t s = some r) (o : BookOutcome)
    (e : Option Reason) {st : Stage} (notHead : st ≠ .head) :
    standing (retire t o e s) st = (standing s st).filter (fun u => !(u == t)) := by
  obtain ⟨tracks, -, press⟩ := retire_places live o e
  cases st with
  | gated => simp only [standing, tracks]; exact toList_dropTicket t _
  | infeed =>
    simp only [standing, tracks]
    simp [forgetTicket, vacate, List.filter_map, Function.comp_def]
  | head => exact absurd rfl notHead
  | entry => simp only [standing, tracks]; exact toList_dropTicket t _
  | press => simp only [standing, press]; exact Positions.drop_tickets t _
  | jacket => simp only [standing, tracks]; rfl
  | delivery => simp only [standing, tracks]; rfl
  | admitted => rfl
  | retiring => rfl

/-! ### The record and its entry -/

/-- R8: the record as it waits in the retirement order. -/
def BookRecord.entering (o : BookOutcome) (e : Option Reason) (r : BookRecord) : BookRecord :=
  { r with stage := .retiring, outcome := some o, reasons := retireReasons o r.flags e, position := none }

theorem enterRetiring_findRecord {t : Ticket} {r : BookRecord} {s : State} (live : liveRecord t s = some r) (o : BookOutcome)
    (e : Option Reason) : findRecord t (enterRetiring t o e s) = some (r.entering o e) ∧
      ∀ u, u ≠ t → findRecord u (enterRetiring t o e s) = findRecord u s := by
  have found := (liveRecord_iff.1 live).1
  have ticket := findRecord_ticket found
  have records : (enterRetiring t o e s).records = (putRecord (r.entering o e) s).records := (enterRetiring_live live o e).1
  subst ticket
  simp only [findRecord, records]
  exact ⟨findRecord_putRecord_same (r := r.entering o e) found, fun u other => findRecord_putRecord_other other⟩

/-- R11, R12: with room and none waiting the record is freed in the same step. -/
theorem retire_room {t : Ticket} {r : BookRecord} {s : State} (live : liveRecord t s = some r) (o : BookOutcome)
    (e : Option Reason) (room : s.link.notices.length < 32) (order : s.retiring = []) :
    retire t o e s = offerRetired t (enterRetiring t o e s) := by
  have retiring : (enterRetiring t o e s).retiring = [t] := by rw [(enterRetiring_live live o e).2.1, order]; rfl
  rw [retire, retiring, offerAll_room (by simpa using room)]
  rfl

/-- Replacing a record of a ticket does not show in the others. -/
theorem filter_replaced {t : Ticket} {r : BookRecord} (rs : List BookRecord) (ticket : r.ticket = t) :
    (rs.map fun y => if y.ticket = t then r else y).filter (fun y => !(y.ticket == t)) =
      rs.filter (fun y => !(y.ticket == t)) := by
  induction rs with
  | nil => rfl
  | cons y rs ih =>
    by_cases h : y.ticket = t
    · simpa [h, ticket] using ih
    · simpa [h] using ih

theorem titleEntry_of_titles {s u : State} (h : u.titles = s.titles) (k : TitleKey) : titleEntry k u = titleEntry k s := by
  simp only [titleEntry, titleWay, titleSet, h]

/-- R12, R30: the entry that a freed record relied on. -/
theorem changeEntry_titleEntry {f : TitleEntry → TitleEntry} (keeps : ∀ e, (f e).valid = e.valid ∧ (f e).key = e.key)
    {k : TitleKey} {e : TitleEntry} {s : State} (entry : titleEntry k s = some e) :
    titleEntry k (changeEntry k f s) = some (f e) ∧
      ∀ i, i ≠ setOf k → (changeEntry k f s).titles.get i = s.titles.get i := by
  obtain ⟨w, valid, rfl⟩ := Option.map_eq_some_iff.1 entry
  obtain ⟨changed, -, -, others⟩ := changeEntry_set valid f
  refine ⟨?_, others⟩
  rw [titleEntry, titleWay_changeEntry keeps, valid, Option.map_some, changed]

/-- Settles O16: the record leaves its place; then either it waits in the order, or it is freed with its notice. -/
theorem retirementOfARecord : Obligations.RetirementOfARecord := by
  intro tk o eject r s live x reasons
  have said : retireReasons o r.flags eject = reasons := by
    simp only [reasons]
    cases o <;> rfl
  obtain ⟨tracks, readers, press⟩ := retire_places live o eject
  obtain ⟨records, retiring, pending, -⟩ := enterRetiring_live live o eject
  obtain ⟨found, others⟩ := enterRetiring_findRecord live o eject
  have ticket := findRecord_ticket (liveRecord_iff.1 live).1
  refine ⟨fun full => ?_, fun room order => ?_, ?_, fun st => standing_retire live o eject, fun i => ?_, ?_, press, ?_⟩
  · simp only [x, retire_full full]
    exact ⟨retiring, by simp, by simp, by rw [found, BookRecord.entering, said], others⟩
  · have freed : x = offerRetired tk (enterRetiring tk o eject s) := retire_room live o eject room order
    obtain ⟨left, leaves⟩ := offerRetired_records tk (enterRetiring tk o eject s)
    have titles : x.titles = (freeRecord (r.entering o eject) s).titles := by
      rw [freed, offerRetired_found found]
      refine freeRecord_titles ?_ _
      simp
    refine ⟨?_, ?_, ?_, fun unrelied => ?_, fun e source resolved entry => ?_⟩
    · rw [freed, leaves, retiring, order]
      simp
    · rw [freed, left, records, ticket]
      exact filter_replaced s.records rfl
    · rw [freed, offerRetired_link found]
      simp [retiredNotice, BookRecord.entering, said, ticket]
    · rw [titles, freeRecord, if_neg]
      rintro ⟨source, resolved⟩
      rcases unrelied with unrelied | unrelied
      · rw [show r.source = .table from source] at unrelied; cases unrelied
      · rw [show r.resolved = true from resolved] at unrelied; cases unrelied
    · have counted : freeRecord (r.entering o eject) s = changeEntry r.key
          (fun e => countOutcome (some o) { e with pin := e.pin - 1 })
          { s with records := s.records.filter (fun y => !(y.ticket == r.ticket)),
                   retiring := s.retiring.filter (fun u => !(u == r.ticket)) } := if_pos ⟨source, resolved⟩
      rw [counted] at titles
      obtain ⟨changed, away⟩ := changeEntry_titleEntry
        (s := { s with records := s.records.filter (fun y => !(y.ticket == r.ticket)),
                       retiring := s.retiring.filter (fun u => !(u == r.ticket)) })
        (f := fun e => countOutcome (some o) { e with pin := e.pin - 1 })
        (fun e => have kept := countOutcome_keeps (some o) { e with pin := e.pin - 1 }; ⟨kept.1, kept.2.1⟩) entry
      exact ⟨by rw [titleEntry_of_titles titles]; exact changed, fun i other => by rw [titles]; exact away i other⟩
  · simpa [x, retire] using pending
  · rw [readers]
    cases i <;> exact ⟨rfl, rfl, rfl⟩
  · rw [tracks]; rfl
  · simp [x, SameLanes, SamePace, SameLine, SameRequests]

/-! ### Withdraw Book (R16) -/

/-- An operation that does not read what `reline` replaces leaves the same of the state on which the request is served. -/
theorem retire_served (t : Ticket) (o : BookOutcome) (e : Option Reason) (rest : List QueuedRequest) (s : State) :
    retire t o e s = reline s.out s.sentFrame s.link.requests (retire t o e (served rest s)) := by
  rw [← retire_reline, ← eq_reline_served]

/-- Settles O18: the record's stage decides. -/
theorem withdrawBookRetiresTheRecord : Obligations.WithdrawBookRetiresTheRecord := by
  intro tk n rest s q queued range
  have handled : handleOf q.request (served rest s) = handleWithdraw tk (served rest s) := rfl
  refine ⟨fun r live stage => ?_, fun r live stage => exec_refused queued ?_, fun missing => exec_refused queued ?_⟩
  · have live' : liveRecord tk (served rest s) = some r := live
    have accepted : handleOf q.request (served rest s) = accept (retire tk .withdrawn none (served rest s)) [] := by
      simp [handled, handleWithdraw, range, live', stage]
    refine ⟨_, exec_accepted queued accepted, filled_answered accepted, ?_⟩
    rw [retire_served tk _ _ rest s]
    simp [SameBooks, SameTitles, SameTracks, SameNotices, SamePress, SameLanes, SamePace, SameLine, Sent]
  · have live' : liveRecord tk (served rest s) = some r := live
    simp [handled, handleWithdraw, range, live', stage, refuse]
  · have missing' : liveRecord tk (served rest s) = none := missing
    simp [handled, handleWithdraw, range, missing', refuse]

/-! ### Set Floor (R125, R126) -/

theorem contributorOfCode_code (c : Contributor) : contributorOfCode c.code = some c := by cases c <;> rfl

theorem contributorOfCode_none {code : Nat} (outside : code = 0 ∨ 6 < code) : contributorOfCode code = none := by
  rcases outside with rfl | above
  · rfl
  · obtain ⟨k, rfl⟩ := Nat.exists_eq_add_of_le' (show 7 ≤ code from above)
    rfl

/-- R178: of the marks only lock and ignore may be set, and their byte is made of them. -/
theorem marks_of_bits {marks : Byte} (small : marks.toNat < 4) :
    bitIf (marks.getLsbD 0) 1 + bitIf (marks.getLsbD 1) 2 = marks.toNat := by
  have bits : ∀ m : Fin 4, bitIf ((BitVec.ofNat 8 m.val).getLsbD 0) 1 + bitIf ((BitVec.ofNat 8 m.val).getLsbD 1) 2 = m.val := by
    decide
  have same : BitVec.ofNat 8 marks.toNat = marks := by simp
  have := bits ⟨marks.toNat, small⟩
  rwa [same] at this

@[simp] theorem recomputePitch_keeps (s : State) :
    (recomputePitch s).pace.floors = s.pace.floors ∧ (recomputePitch s).pace.inForce = s.pace.inForce := by
  unfold recomputePitch
  dsimp only
  split <;> simp

/-- Settles O29: the checks of Set Floor, and the entry written with the pitch recomputed. -/
theorem setFloorWritesTheEntry : Obligations.SetFloorWritesTheEntry := by
  intro entry marks v n rest s q queued
  have handled : handleOf q.request (served rest s) = handleSetFloor entry marks v (served rest s) := rfl
  refine ⟨fun bad => exec_refused queued ?_, ?_⟩
  · rw [handled]
    unfold handleSetFloor
    split
    · rfl
    · next c named =>
      refine if_pos ?_
      have inside : ¬(entry = 0 ∨ 6 < entry) := fun outside => by rw [contributorOfCode_none outside] at named; cases named
      simp only [floorInRange, within, Bool.and_eq_false_iff, Bool.or_eq_false_iff, beq_eq_false_iff_ne, decide_eq_false_iff_not]
      omega
  · rintro c rfl range small lock written x
    have checked : (floorInRange v && decide (marks.toNat < 4)) = true := by
      simp only [floorInRange, within, Bool.and_eq_true, Bool.or_eq_true, beq_iff_eq, decide_eq_true_eq]
      omega
    generalize entry : writtenFloor c (marks.getLsbD 0) (marks.getLsbD 1) v (s.pace.floors.get c) = e
    have same : written = e := entry
    have pitch : x = reline s.out s.sentFrame s.link.requests (writeFloor c e (served rest s)) := by
      rw [writeFloor, ← recomputePitch_reline, ← same]
      refine congrArg recomputePitch ?_
      simp [reline, served]
    have held : (writeFloor c e (served rest s)).pace.floors = s.pace.floors.put c e := by
      simp [writeFloor]
    have accepted : handleOf q.request (served rest s) = accept (writeFloor c e (served rest s))
        [pairWord c.code marks.toNat, numWord e.reported, numWord e.locked, optNumWord e.effective,
          numWord (writeFloor c e (served rest s)).pace.commanded] := by
      have shown : pairWord c.code (floorMarks e) = pairWord c.code marks.toNat := by
        rw [← entry, floorMarks, writtenFloor, marks_of_bits small]
      rw [handled, handleSetFloor, contributorOfCode_code, ← shown]
      simp only [checked, served_frame, entry, held, floorWords, Floors.get_put_same, Bool.true_eq_false, if_false]
    refine ⟨_, exec_accepted queued accepted, ?_⟩
    rw [same, pitch]
    refine ⟨by simpa using filled_answered accepted, ?_, fun c' other => ?_, ?_⟩
    · simp [held]
    · simpa [held] using Floors.get_put_other other e s.pace.floors
    · simp [SamePace, SameNotices, SameBooks, SameTitles, SameTracks, SameLanes, SamePress, SameLine]

end Sys2Proof.Machine
end

section
/-! Admit Book (R14, R15) and Attach Parameters (R18, R19), and what the announcement of a resolution brings (R5, R61, R83). -/

namespace Sys2Proof.Machine

/-- R183, R184: a notice reads only the notice places and the retirement order. -/
theorem produce_sameNotices {s u : State} (same : SameNotices s u) (retiring : u.retiring = s.retiring) (n : Notice) :
    SameNotices (produce n s) (produce n u) := by
  obtain ⟨notices, held, nextNotice, attn⟩ := same
  have waits : noticeWaits u = noticeWaits s := by simp only [noticeWaits, retiring, held]
  unfold produce
  simp only [notices, held, nextNotice, waits]
  split
  · simp [SameNotices, enqueueNotice]
  · simp [SameNotices, attn]

/-! ### Admit Book -/

/-- R28, R29: a valid entry that a record relies on is pinned, and its way is used. -/
theorem usePinned_titles {k : TitleKey} {w : Way} {s : State} (valid : titleWay k s = some w) :
    titleEntry k (useTitle k (pinTitle k s)) = (titleEntry k s).map (fun e => { e with pin := e.pin + 1 }) ∧
    (titleSet k (useTitle k (pinTitle k s))).lru = w.other ∧
    (titleSet k (useTitle k (pinTitle k s))).get w.other = (titleSet k s).get w.other ∧
    ∀ i, i ≠ setOf k → (useTitle k (pinTitle k s)).titles.get i = s.titles.get i := by
  have pinned : titleWay k (pinTitle k s) = some w := by rw [titleWay_pinTitle, valid]
  have used : useTitle k (pinTitle k s) = changeSet k (·.use w) (pinTitle k s) := by rw [useTitle, pinned]
  obtain ⟨entry, other, -, away⟩ := changeEntry_set valid fun e => { e with pin := e.pin + 1 }
  refine ⟨?_, ?_, ?_, fun i apart => ?_⟩
  · rw [titleEntry, titleWay_useTitle, pinned, titleEntry, valid, used]
    have entry' : (titleSet k (pinTitle k s)).get w = _ := entry
    simp [entry']
  · rw [used]; simp
  · have other' : (titleSet k (pinTitle k s)).get w.other = _ := other
    rw [used]
    simp [other']
  · rw [used, changeSet_get_other k _ _ apart]
    exact away i apart

theorem admitRecord_oneOff (tk : Ticket) (k : TitleKey) (override : Option Nat) (p : TitleParams) (s : State) :
    admitRecord tk k override (some p) s = addRecord (newRecord tk k override (some p) true) s := rfl

theorem admitRecord_valid {k : TitleKey} {w : Way} {s : State} (tk : Ticket) (override : Option Nat)
    (valid : titleWay k s = some w) : admitRecord tk k override none s =
      useTitle k (pinTitle k (addRecord (newRecord tk k override none true) s)) := by
  simp [admitRecord, valid]

theorem admitRecord_missing {k : TitleKey} {s : State} (tk : Ticket) (override : Option Nat) (missing : titleWay k s = none) :
    admitRecord tk k override none s = missTitle k (addRecord (newRecord tk k override none false) s) := by
  simp [admitRecord, missing]

/-- R15: an accepted Admit Book adds its record and leaves the places of the line. -/
theorem admitRecord_adds (tk : Ticket) (k : TitleKey) (override : Option Nat) (oneOff : Option TitleParams) (s : State) :
    (admitRecord tk k override oneOff s).records =
      s.records ++ [newRecord tk k override oneOff (admitResolved k oneOff s)] ∧
    (admitRecord tk k override oneOff s).retiring = s.retiring := by
  cases oneOff with
  | some p => exact ⟨rfl, rfl⟩
  | none =>
    cases valid : titleWay k s with
    | some w => simp [admitRecord_valid tk override valid, addRecord, admitResolved, valid]
    | none => simp [admitRecord_missing tk override valid, addRecord, admitResolved, valid]

theorem backlogFull_iff (k : TitleKey) (oneOff : Option TitleParams) (s : State) : backlogFull k oneOff s = true ↔
    oneOff = none ∧ titleWay k s = none ∧ isListed k s = false ∧ 8 ≤ s.pendingTitles.length := by
  simp only [backlogFull, admitResolved, Bool.and_eq_true, Bool.not_eq_true', Bool.or_eq_false_iff, decide_eq_true_eq,
    Option.isSome_eq_false_iff, Option.isNone_iff_eq_none, and_assoc]
  exact Iff.rfl

/-- R14: the checks of Admit Book. -/
theorem admit_checked {tk : Ticket} {k : TitleKey} {o : Word} {override : Option Nat} {oneOff : Option TitleParams} {n : Word}
    {rest : List QueuedRequest} {s : State} (queued : s.link.requests = ⟨.admitBook tk k o override oneOff, n⟩ :: rest) :
    let q : QueuedRequest := ⟨.admitBook tk k o override oneOff, n⟩
    (admitInRange tk k o override oneOff = false →
      exec .admitBook s = .next (noteSending (answered q rest .range [] s))) ∧
    (admitInRange tk k o override oneOff = true →
      (clearedLeft s ≠ 0 → exec .admitBook s = .next (noteSending (answered q rest .wrongState [] s))) ∧
      (clearedLeft s = 0 →
        (findRecord tk s ≠ none → exec .admitBook s = .next (noteSending (answered q rest .duplicate [] s))) ∧
        (findRecord tk s = none →
          (64 ≤ s.records.length → exec .admitBook s = .next (noteSending (answered q rest .tableFull [] s))) ∧
          (s.records.length < 64 → oneOff = none → titleWay k s = none → isListed k s = false →
            8 ≤ s.pendingTitles.length →
            exec .admitBook s = .next (noteSending (answered q rest .titleBacklog [] s)))))) := by
  intro q
  have reads : clearedLeft (served rest s) = clearedLeft s ∧ findRecord tk (served rest s) = findRecord tk s ∧
      backlogFull k oneOff (served rest s) = backlogFull k oneOff s := ⟨rfl, rfl, rfl⟩
  obtain ⟨cleared, found, backlog⟩ := reads
  refine ⟨fun range => exec_refused queued ?_, fun range => ⟨fun left => exec_refused queued ?_, fun left =>
    ⟨fun known => exec_refused queued ?_, fun unknown => ⟨fun full => exec_refused queued ?_,
      fun room table missing unlisted long => exec_refused queued ?_⟩⟩⟩⟩
  · show handleAdmit tk k o override oneOff (served rest s) = _
    simp [handleAdmit, range, refuse]
  · show handleAdmit tk k o override oneOff (served rest s) = _
    simp [handleAdmit, range, cleared, left, refuse]
  · show handleAdmit tk k o override oneOff (served rest s) = _
    simp [handleAdmit, range, cleared, left, found, Option.isSome_iff_ne_none.2 known, refuse]
  · show handleAdmit tk k o override oneOff (served rest s) = _
    simp [handleAdmit, range, cleared, left, found, unknown, Config.liveRecords, full, refuse]
  · have blocked := (backlogFull_iff k oneOff s).2 ⟨table, missing, unlisted, long⟩
    show handleAdmit tk k o override oneOff (served rest s) = _
    simp [handleAdmit, range, cleared, left, found, unknown, Config.liveRecords, Nat.not_le.2 room, backlog, blocked, refuse]

/-- Settles O17: the checks in their order, and what an accepted request creates by its source and the Title Table. -/
theorem admitBookIsCheckedAndCreatesTheRecord : Obligations.AdmitBookIsCheckedAndCreatesTheRecord := by
  refine ⟨fun tk k o override oneOff n rest s queued => admit_checked queued, ?_⟩
  intro tk k o override oneOff n rest s q queued range left unknown room backlog resolved
  have open_ : backlogFull k oneOff s = false := by
    rw [Bool.eq_false_iff, Ne, backlogFull_iff]
    rintro ⟨table, missing, unlisted, long⟩
    rcases backlog with known | known | known | known
    · exact known table
    · exact known missing
    · rw [unlisted] at known; cases known
    · omega
  have accepted : handleOf q.request (served rest s) = accept (admitRecord tk k override oneOff (served rest s))
      (ticketWords tk ++ [if resolved then 1 else 0]) := by
    have mark : numWord (bitIf resolved 1) = if resolved then 1 else 0 := by cases resolved <;> rfl
    have reads : clearedLeft (served rest s) = clearedLeft s ∧ findRecord tk (served rest s) = findRecord tk s ∧
      backlogFull k oneOff (served rest s) = backlogFull k oneOff s := ⟨rfl, rfl, rfl⟩
    obtain ⟨cleared, found, backlog⟩ := reads
    rw [← mark]
    show handleAdmit tk k o override oneOff (served rest s) = _
    simp [handleAdmit, range, cleared, left, found, unknown, Config.liveRecords, Nat.not_le.2 room, backlog, open_]
    rfl
  have records := (admitRecord_adds tk k override oneOff (served rest s)).1
  refine ⟨_, exec_accepted queued accepted, filled_answered accepted, ?_, ?_, fun once => ?_, fun w table valid => ?_,
    fun table missing listed => ?_, fun table missing unlisted => ?_, ?_⟩
  · exact Eq.trans (by simp) records
  · simp
  · obtain ⟨p, rfl⟩ := Option.ne_none_iff_exists'.1 once
    simp [admitRecord_oneOff, SameTitles, SameNotices, addRecord]
  · subst table
    have valid' : titleWay k (served rest s) = some w := valid
    obtain ⟨entry, lru, other, away⟩ := usePinned_titles (s := addRecord (newRecord tk k override none true) (served rest s)) valid'
    rw [admitRecord_valid tk override valid']
    refine ⟨by simp [SameNotices, addRecord], by simp [addRecord], ?_, ?_, ?_, fun i apart => ?_⟩
    · exact (titleEntry_of_titles (by simp) k).trans entry
    · simpa [titleSet, addRecord] using lru
    · simpa [titleSet, addRecord] using other
    · simpa [addRecord] using away i apart
  · subst table
    have missing' : titleWay k (served rest s) = none := missing
    rw [admitRecord_missing tk override missing', missTitle_listed (by exact listed)]
    simp [SameNotices, addRecord]
  · subst table
    have missing' : titleWay k (served rest s) = none := missing
    rw [admitRecord_missing tk override missing', missTitle_new (by exact unlisted)]
    refine ⟨?_, by simp [addRecord], by simp [addRecord]⟩
    have noticed := produce_sameNotices (s := s) (u := { addRecord (newRecord tk k override none false) (served rest s) with
      pendingTitles := s.pendingTitles ++ [⟨k, 1⟩] }) ⟨rfl, rfl, rfl, rfl⟩ rfl (.titleRequest k)
    simpa [SameNotices] using noticed
  · simp [SameTracks, SameLanes, SamePress, SamePace, SameLine, Sent]

/-! ### Announcements (R5, R57, R61, R83) -/

theorem thicknessOk_iff (tolerance m spine : Nat) :
    thicknessOk tolerance m spine = true ↔ m ≤ spine + tolerance ∧ spine ≤ m + tolerance := by
  simp only [thicknessOk, Bool.and_eq_true, decide_eq_true_eq, Nat.sub_le_iff_le_add, Nat.add_comm]

theorem passesCheck_measured {r : BookRecord} {m : Nat} {p : TitleParams} {s : State} (thickness : r.thickness = some m)
    (params : paramsOf r s = some p) :
    passesCheck r s = false ↔ p.s + s.params.tolerance < m ∨ m + s.params.tolerance < p.s := by
  have value : passesCheck r s = thicknessOk s.params.tolerance m p.s := by simp [passesCheck, thickness, params]
  rw [value, Bool.eq_false_iff, Ne, thicknessOk_iff]
  omega

section Announced

variable {tk : Ticket} {r : BookRecord} {s : State} (live : liveRecord tk s = some r)

include live

theorem announceResolved_passes (passes : passesCheck r s = true) :
    announceResolved tk s = if s.head = .waitTitle tk then releaseCheck (laneDecision tk r.key s) else s := by
  rw [announceResolved, live]
  exact if_pos passes

theorem announceResolved_fails (fails : passesCheck r s = false) :
    (r.stage = .gated → announceResolved tk s = refuseGated tk s) ∧
    (r.stage = .infeed → announceResolved tk s = markWrong tk s) ∧
    (r.stage = .head → announceResolved tk s = ejectHead tk .wrongBlock s) := by
  refine ⟨fun stage => ?_, fun stage => ?_, fun stage => ?_⟩ <;> simp [announceResolved, live, fails, stage]

end Announced

/-- R5: the record of an accepted Attach Parameters. -/
def BookRecord.attached (p : TitleParams) (r : BookRecord) : BookRecord :=
  { r with source := .oneOff, oneOff := some p, resolved := true }

theorem passesCheck_attached {r : BookRecord} {p : TitleParams} {s : State}
    (fits : ∀ m, r.thickness = some m → m ≤ p.s + s.params.tolerance ∧ p.s ≤ m + s.params.tolerance) :
    passesCheck (r.attached p) s = true := by
  cases thickness : r.thickness with
  | none => simp [passesCheck, BookRecord.attached, thickness]
  | some m =>
    have ok := (thicknessOk_iff s.params.tolerance m p.s).2 (fits m thickness)
    simpa [passesCheck, BookRecord.attached, thickness, paramsOf] using ok

/-- Settles O19: the record resolved and announced, and the cases of an announcement. -/
theorem attachParametersResolvesTheRecord : Obligations.AttachParametersResolvesTheRecord := by
  constructor
  · intro tk o p n rest r s q queued ticket marks params live unmarried source unresolved u
    have named := findRecord_ticket (liveRecord_iff.1 live).1
    have range : (ticketInRange tk && onlyMarks 4 o && paramsInRange p) = true := by rw [ticket, marks, params]; rfl
    have loose : ¬(r.source = .oneOff ∨ r.resolved = true) := by
      rintro (once | resolved)
      · rw [source] at once; cases once
      · rw [unresolved] at resolved; cases resolved
    have live' : liveRecord tk (served rest s) = some r := live
    have accepted : handleOf q.request (served rest s) = accept (attachRecord r p (served rest s)) [] :=
      handleAttach_accepts range live' unmarried loose
    have pasted : u = reline [] [] s.link.requests (stopWaiting r.key (putRecord (r.attached p) (served rest s))) := by
      simp only [u, ← named]
      rfl
    have attached : attachRecord r p (served rest s) =
        settleLine (announceResolved tk (stopWaiting r.key (putRecord (r.attached p) (served rest s)))) := by
      rw [← named]
      rfl
    have left : settleLine (announceResolved tk u) = reline [] [] s.link.requests (attachRecord r p (served rest s)) := by
      rw [pasted, announceResolved_reline, settleLine_reline, attached]
    refine ⟨⟨_, exec_accepted queued accepted, filled_answered accepted, ?_⟩, fun fits away => ?_⟩
    · rw [left]
      simp [SameBooks, SameTitles, SameTracks, SameLanes, SamePress, SameLine, SamePace, SameNotices]
    · have found : liveRecord tk u = some (r.attached p) := by
        have stage : r.stage ≠ .retiring := (liveRecord_iff.1 live).2
        refine liveRecord_iff.2 ⟨?_, stage⟩
        rw [pasted]
        have put := findRecord_putRecord_same (r := r.attached p) (s := served rest s) (r0 := r)
          (by rw [BookRecord.attached, named]; exact (liveRecord_iff.1 live').1)
        rw [show (r.attached p).ticket = tk from named] at put
        exact put
      rw [announceResolved_passes found (passesCheck_attached fits), if_neg (by exact away)]
  · intro tk r p m s live thickness params fails
    have check : passesCheck r s = false ↔ fails := passesCheck_measured thickness params
    refine ⟨fun ok away => ?_, fun ok waits => ?_, fun bad stage => ?_, fun bad stage => ?_,
      fun bad stage => ?_⟩
    · rw [announceResolved_passes live (by simpa using mt check.1 ok), if_neg away]
    · rw [announceResolved_passes live (by simpa using mt check.1 ok), if_pos waits]
    · exact (announceResolved_fails live (check.2 bad)).1 stage
    · exact (announceResolved_fails live (check.2 bad)).2.1 stage
    · exact (announceResolved_fails live (check.2 bad)).2.2 stage

end Sys2Proof.Machine
end

section
/-! The gate and the lanes: the gate test and the release check (R60, R76), cases (R74, R75), the end of a purge (R85, R87), and what
a fault does to the line (R96, R170). -/

namespace Sys2Proof.Machine

/-! ### The gate test and the release check -/

/-- R76: a key is wanted by a record of the infeed track or by the record for which the head waits. -/
theorem wanted_iff (k : TitleKey) (s : State) : wanted k s = true ↔ (∃ e ∈ s.tracks.infeed, keyOf e.ticket s = some k) ∨
    ∃ t, keyOf t s = some k ∧ (s.head = .waitTitle t ∨ ∃ l, s.head = .waitCase t l) := by
  have infeed : infeedHas k s = true ↔ ∃ e ∈ s.tracks.infeed, keyOf e.ticket s = some k := by
    simp [infeedHas, entryHasKey]
  rw [wanted, Bool.or_eq_true, infeed]
  refine or_congr_right ?_
  cases head : s.head <;> simp

/-- R76: the release check without a lane that empties, or without a head that waits with no lane, only frees the lanes. -/
theorem releaseCheck_frees {s : State}
    (quiet : (∀ t, s.head ≠ .waitCase t none) ∨ laneEmptied s.lanes (releaseLanes s).lanes = false) :
    releaseCheck s = releaseLanes s := by
  rw [releaseCheck]
  rcases quiet with away | none
  · split
    · exact decideAgain_other away
    · rfl
  · exact if_neg (by rw [none]; nofun)

theorem laneEmptied_iff (before after : Lanes) :
    laneEmptied before after = true ↔ ∃ l, after.get l = .empty ∧ before.get l ≠ .empty := by
  simp only [laneEmptied, Bool.or_eq_true, Bool.and_eq_true, Bool.not_eq_true', beq_iff_eq, beq_eq_false_iff_ne]
  constructor
  · rintro (⟨now, was⟩ | ⟨now, was⟩)
    · exact ⟨.a, now, was⟩
    · exact ⟨.b, now, was⟩
  · rintro ⟨l, now, was⟩
    cases l with
    | a => exact .inl ⟨now, was⟩
    | b => exact .inr ⟨now, was⟩

/-- Settles O43: the gate test, the release check with and without a new lane decision, and the keys that are wanted. -/
theorem gateTestAndReleaseCheck : Obligations.GateTestAndReleaseCheck := by
  intro s
  refine ⟨fun tk held open_ => ?_, fun closed => ?_, ?_, fun k => wanted_iff k s⟩
  · rw [gateTest_open held open_, admitHeld]
    simp
  · rcases closed with none | closed
    · exact gateTest_none none
    · exact gateTest_closed closed
  · intro freed x
    have lane (l : Lane) : releasedLane s l = freed l := by
      rcases l with _ | _ | _ | ⟨_, _ | _, _⟩ | _ <;> rfl
    have lanes : releaseLanes s = x := by
      rw [releaseLanes, lane, lane]
    refine ⟨fun away => ?_, fun quiet => ?_, fun t k l head key was now => ?_⟩
    · rw [← lanes]
      exact releaseCheck_frees (.inl away)
    · rw [releaseCheck_frees (.inr ?_), lanes]
      rw [Bool.eq_false_iff, Ne, laneEmptied_iff, lanes]
      exact fun ⟨l, now, was⟩ => was (quiet l now)
    · have emptied : laneEmptied s.lanes (releaseLanes s).lanes = true := by
        rw [laneEmptied_iff, lanes]
        exact ⟨l, now, was⟩
      have head' : (releaseLanes s).head = .waitCase t none := head
      rw [releaseCheck, if_pos emptied, decideAgain_waits head' (by exact key), lanes]

/-! ### Cases (R74, R75) -/

/-- R74: a lane that neither holds a key nor is reserved for it has no stock of it. -/
theorem Lane.stock_of_not_holds {k : TitleKey} {l : Lane} (free : l.holds k = false) : l.stock k = none := by
  cases l <;> simp_all [Lane.holds, Lane.stock, Lane.isHolding, Lane.isKept]

/-- R74, rows 2 to 4: the lane that has stock of the key takes its case. -/
theorem takeCaseRead_stock {s : State} (h : LaneInv s) {k : TitleKey} {l : LaneId} {n : Nat} (stock : (s.lanes.get l).stock k = some n) :
    takeCaseRead k s = joinLane l k n s := by
  have holds : (s.lanes.get l).holds k = true := by
    by_contra free
    rw [Lane.stock_of_not_holds (by simpa using free)] at stock
    cases stock
  cases l with
  | a => simp [takeCaseRead, show s.lanes.a.stock k = some n from stock]
  | b =>
    have other : s.lanes.a.stock k = none := Lane.stock_of_not_holds (h.other (j := .a) holds nofun)
    simp [takeCaseRead, show s.lanes.b.stock k = some n from stock, other]

/-- R74, row 5: a key that a purge carries. -/
theorem takeCaseRead_carried {s : State} (h : LaneInv s) {k : TitleKey} {l : LaneId} {kind : PurgeKind} {n : Nat}
    (purging : s.lanes.get l = .purging kind (some k) n) : takeCaseRead k s = send .s2Recirculate s := by
  have kept : (s.lanes.get l).isKept k = true := by simp [purging, Lane.isKept]
  have own : (s.lanes.get l).stock k = none := by rw [purging]; rfl
  have holds : (s.lanes.get l).holds k = true := by simp [Lane.holds, kept]
  cases l with
  | a =>
    have other : s.lanes.b.stock k = none := Lane.stock_of_not_holds (h.other (j := .b) holds nofun)
    simp [takeCaseRead, show s.lanes.a.stock k = none from own, other, show s.lanes.a.isKept k = true from kept]
  | b =>
    have other : s.lanes.a.stock k = none := Lane.stock_of_not_holds (h.other (j := .a) holds nofun)
    simp [takeCaseRead, show s.lanes.b.stock k = none from own, other, show s.lanes.b.isKept k = true from kept]

/-- R74, rows 6 and 7: a key that no lane holds. -/
theorem takeCaseRead_fresh {s : State} {k : TitleKey} (free : ∀ l, (s.lanes.get l).holds k = false) :
    takeCaseRead k s = match s.lanes.first (fun x => x == .empty) with
      | some l => steerCase l k 1 s
      | none => send .s2Recirculate s := by
  have a : s.lanes.a.stock k = none := Lane.stock_of_not_holds (free .a)
  have b : s.lanes.b.stock k = none := Lane.stock_of_not_holds (free .b)
  have unkept (l : LaneId) : (s.lanes.get l).isKept k = false := (Bool.or_eq_false_iff.1 (free l)).2
  simp [takeCaseRead, a, b, show s.lanes.a.isKept k = false from unkept .a, show s.lanes.b.isKept k = false from unkept .b] <;> rfl

/-- Settles O44: the rows of a CASE_READ. -/
theorem casesAreSteered : Obligations.CasesAreSteered := by
  intro k s listens lanes s0 back joined
  have taken : exec (.caseRead (.named k)) s = .next (noteSending (takeCaseRead k s0)) := takeMessage_listens listens _
  have lanes0 : LaneInv s0 := lanes.congr rfl
  refine ⟨takeMessage_listens listens _, fun l full => ?_, fun l n stocked => ?_, fun l kind n purging => ?_, fun free => ?_⟩
  · have stock : (s0.lanes.get l).stock k = some 10 := by simp [s0, full, Lane.stock]
    rw [taken, takeCaseRead_stock lanes0 stock]
    rfl
  · have stock : (s0.lanes.get l).stock k = some n := by
      rcases stocked with ⟨holding, -⟩ | ⟨reserved, rfl⟩
      · simp [s0, holding, Lane.stock]
      · simp [s0, reserved, Lane.stock]
    have room : ¬Config.laneCases ≤ n := by
      show ¬10 ≤ n
      omega
    rw [taken, takeCaseRead_stock lanes0 stock, joinLane, if_neg room]
    refine ⟨fun away => ?_, fun t waits => ?_⟩
    · split
      · next t l' head =>
        rw [if_neg fun same : l' = l => away t (same ▸ head)]
        rfl
      · rfl
    · rw [show s0.head = .waitCase t (some l) from waits]
      exact congrArg (fun x => Host.Outcome.next (noteSending x)) (if_pos rfl)
  · rw [taken, takeCaseRead_carried lanes0 (by exact purging)]
    rfl
  · rw [taken, takeCaseRead_fresh (s := s0) free]
    refine ⟨fun a => ?_, fun a b => ?_, fun a b => ?_⟩
    · simp only [Lanes.first, show (s0.lanes.a == .empty) = true from beq_iff_eq.2 a]
      rfl
    · simp only [Lanes.first, show (s0.lanes.a == .empty) = false from beq_eq_false_iff_ne.2 a,
        show (s0.lanes.b == .empty) = true from beq_iff_eq.2 b]
      rfl
    · simp only [Lanes.first, show (s0.lanes.a == .empty) = false from beq_eq_false_iff_ne.2 a,
        show (s0.lanes.b == .empty) = false from beq_eq_false_iff_ne.2 b]
      rfl

end Sys2Proof.Machine
end

section
/-! The end of a purge (R85, R87), a fault that halts a pasting (R96, R170), the timers that run out (R91, R119), marriage (R54, R93,
R94) and a block at the gate (R56 to R59). -/

namespace Sys2Proof.Machine

/-! ### Purges and faults -/

/-- R4: a flag is set once. -/
theorem setFlag_new {f : Flag} {t : Ticket} {r : BookRecord} {s : State} (live : liveRecord t s = some r) (new : f ∉ r.flags) :
    setFlag f t s = putRecord { r with flags := r.flags ++ [f] } s := by
  rw [setFlag, changeRecord_live live, addFlag, if_neg new]

theorem putRecord_eq (r : BookRecord) (s : State) :
    putRecord r s = { s with records := s.records.map fun x => if x.ticket = r.ticket then r else x } := rfl

theorem liveRecord_ticket {t : Ticket} {r : BookRecord} {s : State} (live : liveRecord t s = some r) : r.ticket = t :=
  findRecord_ticket (liveRecord_iff.1 live).1

theorem stopDrive_eq (s : State) : stopDrive s = if s.line.state.driveRuns then send .driveStop s else s := rfl

/-- R96: a pasting under way is halted, and its record takes INTERRUPTED. -/
theorem haltPaste_halts {t : Ticket} {l : LaneId} {r : BookRecord} {s : State} (head : s.head = .pasting t l)
    (live : liveRecord t s = some r) (out : s.tracks.waitingMarriage ≠ some t) (new : .interrupted ∉ r.flags) :
    haltPaste s = { send .s3HaltPaste s with
      records := s.records.map fun x => if x.ticket = t then { r with flags := r.flags ++ [.interrupted] } else x } := by
  have live' : liveRecord t (send .s3HaltPaste s) = some r := (liveRecord_congr (by simp)).trans live
  rw [haltPaste, head]
  simp only [if_neg out, live, if_neg new]
  rw [setFlag_new live' new]
  simp [putRecord, liveRecord_ticket live]

/-- R96: a pasting whose MARRIED waits, or that is INTERRUPTED already, is not told. -/
theorem haltPaste_told {t : Ticket} {l : LaneId} {s : State} (head : s.head = .pasting t l)
    (told : s.tracks.waitingMarriage = some t ∨ ∀ r, liveRecord t s = some r → .interrupted ∈ r.flags) : haltPaste s = s := by
  rw [haltPaste, head]
  rcases told with waits | told
  · exact if_pos waits
  · simp only
    split
    · rfl
    · split
      · next r live => exact if_pos (told r live)
      · rfl

/-- Settles O45: the end of a purge, its timeout, and the fault that it brings. -/
theorem purgesEnd : Obligations.PurgesEnd := by
  intro l b s s0
  have done (listens : Listens .s2 s) : exec (.purgeDone b) s = .next (noteSending (match laneOfByte b with
      | some l => endPurge l s0
      | none => s0)) := takeMessage_listens listens _
  refine ⟨fun listens named => ?_, fun listens notA notB => ?_, fun kind carried n purging => ?_, fun c => ⟨fun held => ?_,
    fun notHeld away => ?_, fun t l' r notHeld head live => ?_⟩⟩
  · have lane : laneOfByte b = some l := by cases l <;> subst named <;> rfl
    rw [done listens, lane]
    refine ⟨fun kind carried n purging => ?_, fun idle => ?_⟩
    · have purging' : s0.lanes.get l = .purging kind carried n := purging
      simp only [endPurge, purging']
      cases kind <;> cases carried <;> rfl
    · refine congrArg (fun x => Host.Outcome.next (noteSending x)) ?_
      show endPurge l s0 = s0
      unfold endPurge
      split
      · next kind carried n purging => exact absurd purging (idle kind carried n)
      · rfl
  · have lane : laneOfByte b = none := by rw [laneOfByte, if_neg notA, if_neg notB]
    rw [done listens, lane]
  · have taken : exec (.purgeTimeout l) s = .next (noteSending (settleLine (purgeTimedOut l s0))) := by
      show execPurgeTimeout l s = _
      rw [execPurgeTimeout, purging]
      rfl
    have head : unassignLane l s.head = match s.head with
        | .waitCase t (some l') => if l' = l then .waitCase t none else .waitCase t (some l')
        | h => h := by
      rcases s.head with _ | _ | ⟨_, _ | _⟩ | _ | _ <;> rfl
    rw [taken]
    exact congrArg (fun h => Host.Outcome.next (finish (decideAgain (produce (.fault .purgeTimeout .s2 none none)
      (enterFault .purgeTimeout { s0 with lanes := s.lanes.put l .unknown, head := h }))))) head
  · exact enterFault_held held c
  · rw [enterFault_enters notHeld, haltPaste_other (by intro t l'; simpa using away t l'), setLine, stopDrive_eq]
  · intro stopped
    have live' : liveRecord t (stopDrive s) = some r := (liveRecord_congr (by simp)).trans live
    have head' : (stopDrive s).head = .pasting t l' := by simpa using head
    have same : stopDrive s = stopped := rfl
    rw [enterFault_enters notHeld]
    refine ⟨fun out new => ?_, fun told => ?_⟩
    · rw [haltPaste_halts head' live' (by simpa using out) new, setLine]
      simp only [same]
      refine congrArg (produce _) ?_
      have records : stopped.records = s.records := by rw [← same]; simp
      rw [records]
    · have told' : haltPaste (stopDrive s) = stopDrive s := haltPaste_told head' (told.imp (by simp) fun there r' live => by
        rw [live'] at live
        cases live
        exact there)
      rw [told', setLine, same]

/-! ### Timers (R91, R119) -/

/-- Settles O46: the expiry of the marriage wait timer at a head that waits, and that of the idle timer. -/
theorem timersRunOut : Obligations.TimersRunOut := by
  refine ⟨fun tk left s timer feeds => ?_, fun left s timer awake => ?_⟩
  · intro ejected
    have taken : exec .marriageWaitExpiry s = .next (noteSending (settleLine (waitExpired (openStep s)))) := by
      show execMarriageWaitExpiry s = _
      rw [execMarriageWaitExpiry, if_pos ⟨by rw [timer]; rfl, feeds⟩]
      rfl
    refine ⟨fun head => ?_, fun l head => ?_⟩
    · rw [taken, waitExpired, show (openStep s).head = .waitTitle tk from head]
      rfl
    · rw [taken, waitExpired, show (openStep s).head = .waitCase tk l from head]
      rfl
  · show execIdleTimerExpiry s = _
    rw [execIdleTimerExpiry, timer]
    refine congrArg (fun x => Host.Outcome.next (noteSending x)) ?_
    exact setPress_change (st := .standby) (s := send .s4Standby { openStep s with press := { s.press with idleTimer := none } }) awake

/-! ### Marriage (R54, R93, R94) -/

/-- R104 to R106: D0 and the force setpoint of a record that holds neither. -/
theorem fixDwell_new {r : BookRecord} {p : TitleParams} {s : State} (params : paramsOf r s = some p) (dwell : r.dwell = none)
    (force : r.force = none) : fixDwell s r = { r with
      stage := .entry
      dwell := some (min 30000 ((r.override.or p.override).getD (s.params.base.get p.pc + p.s * s.params.inc.get p.pc)))
      force := some ((min (p.h * s.params.q.get p.mc) s.params.fMax + 9) / 10) } := by
  have asked : requiredDwell s.params r p =
      min 30000 ((r.override.or p.override).getD (s.params.base.get p.pc + p.s * s.params.inc.get p.pc)) := by
    rw [requiredDwell]
    cases r.override with
    | some d => rfl
    | none => cases p.override <;> rfl
  rw [fixDwell, params, dwell, force]
  simp only [Option.none_or, asked]
  rfl

/-- Settles O47: the head's own MARRIED, a repeated one, and any other. -/
theorem marriageTakesTheEntryPlace : Obligations.MarriageTakesTheEntryPlace := by
  intro tk s listens s0
  have taken (rd : Reading Ticket) : exec (.married rd) s = .next (noteSending (takeMarried rd s0)) := takeMessage_listens listens _
  have next {x y : State} (same : x = y) :
      (Host.Outcome.next (noteSending x) : Host.Outcome State Fault Refusal) = .next (noteSending y) := by rw [same]
  have own {l : LaneId} (head : s.head = .pasting tk l) : takeMarried (.named tk) s0 = marriedHead tk l s0 := by
    rw [takeMarried, show s0.head = .pasting tk l from head]
    exact if_pos rfl
  refine ⟨fun l r p head quiet entry live params dwell force => ?_, fun l e head quiet entry => ?_, fun repeated => ?_,
    fun rd notHead notMarried notPlaced => ?_⟩
  · intro d0 setpoint
    have live0 : liveRecord tk s0 = some r := live
    have params0 : paramsOf r s0 = some p := params
    have married : takeMarriage tk l s0 = { s0 with
        records := s.records.map fun x =>
          if x.ticket = tk then { r with stage := .entry, dwell := some d0, force := some setpoint } else x
        tracks := { s.tracks with entry := some tk }
        head := .holdMarried tk l } := by
      rw [takeMarriage, changeRecord_live live0, fixDwell_new params0 dwell force, putRecord_eq]
      simp only [liveRecord_ticket live]
      rw [quiet]
    rw [taken, own head, marriedHead, if_neg (by rw [show s0.tracks.waitingMarriage = none from quiet]; nofun),
      show s0.tracks.entry = none from entry]
    simp only [married]
    rfl
  · rw [taken, own head, marriedHead, if_neg (by exact quiet), show s0.tracks.entry = some e from entry]
  · rw [taken]
    refine next ?_
    have again (away : ∀ l, s.head ≠ .pasting tk l) (seen : marriedRepeated tk s0 = true) : takeMarried (.named tk) s0 = s0 := by
      have otherwise : takeMarried (.named tk) s0 = marriedElse (.named tk) s0 := by
        unfold takeMarried
        split
        · next u l head =>
          refine if_neg fun same => ?_
          cases same
          exact away l head
        · rfl
      rw [otherwise]
      exact if_pos seen
    rcases repeated with ⟨l, head⟩ | waits | ⟨entry, away⟩
    · refine again (fun l' head' => by rw [head] at head'; cases head') ?_
      simp [marriedRepeated, s0, head]
    · by_cases pasting : ∃ l, s.head = .pasting tk l
      · obtain ⟨l, head⟩ := pasting
        rw [own head]
        exact if_pos waits
      · exact again (fun l head => pasting ⟨l, head⟩) (by simp [marriedRepeated, s0, waits])
    · exact again away (by simp [marriedRepeated, s0, entry])
  · rw [taken]
    refine next ?_
    have otherwise : takeMarried rd s0 = marriedElse rd s0 := by
      unfold takeMarried
      split
      · next u l head => exact if_neg (notHead u l head)
      · rfl
    rw [otherwise]
    cases rd with
    | unreadable => rfl
    | named u =>
      refine if_neg ?_
      have entry : s.tracks.entry ≠ some u := fun there => notPlaced u (.inl there) rfl
      have waiting : s.tracks.waitingMarriage ≠ some u := fun there => notPlaced u (.inr there) rfl
      have head : ∀ l, s.head ≠ .holdMarried u l := fun l there => notMarried u l there rfl
      simp only [marriedRepeated, s0, Bool.or_eq_true, beq_iff_eq, not_or]
      refine ⟨⟨entry, waiting⟩, ?_⟩
      split
      · next v l held =>
        rw [beq_iff_eq]
        exact fun same => head l (same ▸ held)
      · nofun

/-! ### A block at the gate (R56 to R59) -/

/-- R57: the record of a block that goes to the gate. -/
def BookRecord.gatedWith (m : Nat) (r : BookRecord) : BookRecord :=
  { r with stage := .gated, thickness := r.thickness.or (some m) }

/-- R56, case 6: a block of an ADMITTED record goes to the gate, where it is checked. -/
theorem sortBlock_gates {tk : Ticket} {r : BookRecord} {m : Nat} {s : State} (fresh : s.tracks.lastGated ≠ some tk)
    (live : liveRecord tk s = some r) (stage : r.stage = .admitted) (hold : s.tracks.gateHold = none) :
    sortBlock (.named tk) m s = settleLine (checkGated tk (gateBook tk m s)) := by
  simp only [sortBlock, if_neg fresh, live]
  rw [if_neg fun other => other stage, if_neg (by rw [hold]; nofun)]

/-- R119: a STANDBY press is sent WAKE and goes WARMING, with its notice. -/
theorem wakePress_standby {s : State} (standby : s.press.state = .standby) :
    wakePress s = produce (.pressState .warming s.press.temp)
      { s with out := s.out ++ [.s4Wake], press := { s.press with state := .warming } } := by
  have woken : send .s4Wake s = { s with out := s.out ++ [.s4Wake] } := send_now (.inl rfl)
  rw [wakePress, if_pos standby, woken]
  exact setPress_change (by rw [standby]; nofun)

theorem gateOpen_iff (s : State) : gateOpen s = true ↔ s.line.state = .running ∧ s.press.state = .ready ∧
    s.lanes.a.pastInitial = true ∧ s.lanes.b.pastInitial = true ∧ s.tracks.infeed.length < 3 := by
  simp only [gateOpen, Bool.and_eq_true, beq_iff_eq, decide_eq_true_eq, and_assoc]
  exact Iff.rfl

/-- R56, cases 2 to 5. -/
theorem sortBlock_strange {tk : Ticket} {m : Nat} {s : State} (fresh : s.tracks.lastGated ≠ some tk)
    (strange : liveRecord tk s = none ∨ (∃ r, liveRecord tk s = some r ∧ r.stage ≠ .admitted) ∨ s.tracks.gateHold ≠ none) :
    sortBlock (.named tk) m s = refuseStray (.named tk) s := by
  simp only [sortBlock, if_neg fresh]
  split
  · rfl
  · next r live =>
    split
    · rfl
    · next stage =>
      refine if_pos ?_
      rcases strange with missing | ⟨r', live', other⟩ | held
      · rw [missing] at live; cases live
      · rw [live'] at live; cases live; exact absurd other stage
      · exact Option.isSome_iff_ne_none.2 held

/-- R57: the check of a block at the gate fails when its record is resolved and its thickness does not fit. -/
theorem gated_check {r : BookRecord} {m : Nat} {s u : State} (thickness : r.thickness = none) (titles : u.titles = s.titles)
    (params : u.params = s.params) : (r.resolved && !passesCheck (r.gatedWith m) u) = true ↔ r.resolved = true ∧
      ∃ p, paramsOf r s = some p ∧ (p.s + s.params.tolerance < m ∨ m + s.params.tolerance < p.s) := by
  have measured : (r.gatedWith m).thickness = some m := by simp [BookRecord.gatedWith, thickness]
  have same : paramsOf (r.gatedWith m) u = paramsOf r s := by
    simp only [paramsOf, titleEntry_of_titles titles]
    rfl
  rw [Bool.and_eq_true, Bool.not_eq_true']
  refine and_congr_right fun _ => ?_
  cases known : paramsOf r s with
  | none => simp [passesCheck, same, known]
  | some p =>
    rw [passesCheck_measured measured (same.trans known), params]
    simp

/-- A record put in the place of another one twice stands there as it was put last. -/
theorem map_replaced {t : Ticket} {r : BookRecord} (rs : List BookRecord) (ticket : r.ticket = t) (r' : BookRecord) :
    (rs.map fun x => if x.ticket = t then r else x).map (fun x => if x.ticket = t then r' else x) =
      rs.map fun x => if x.ticket = t then r' else x := by
  rw [List.map_map]
  refine List.map_congr_left fun x _ => ?_
  simp only [Function.comp]
  by_cases h : x.ticket = t
  · simp [h, ticket]
  · simp [h]

/-- Settles O39: the readings that are refused, and the block that goes to the gate. -/
theorem blockAtTheGate : Obligations.BlockAtTheGate := by
  intro tk b s listens s0
  have taken (rd : Reading Ticket) : exec (.blockReadS1 rd b) s = .next (noteSending (sortBlock rd (clampThickness b) s0)) :=
    takeMessage_listens listens _
  refine ⟨fun again => ?_, taken _, fun fresh strange => ?_, ?_⟩
  · rw [taken, sortBlock, if_pos (by exact again)]
  · rw [taken, sortBlock_strange (s := s0) fresh strange]
    rfl
  · intro r fresh live stage thickness hold m fails isOpen book gated woken
    have named := liveRecord_ticket live
    have put : putRecord (r.gatedWith m) s0 = { s0 with records := book .gated } := by
      simp only [putRecord_eq, BookRecord.gatedWith, thickness, named, book, Option.none_or]
      rfl
    have stands : gateBook tk m s0 = woken := by
      have placed : gateBook tk m s0 = wakePress gated := by
        rw [gateBook, changeRecord_live (s := s0) live]
        exact congrArg (fun u : State => wakePress { u with
          tracks := { u.tracks with gateHold := some tk, lastGated := some tk }, press := { u.press with idleTimer := none } }) put
      rw [placed]
      by_cases standby : s.press.state = .standby
      · rw [wakePress_standby (by exact standby)]
        exact (if_pos standby).symm
      · rw [wakePress_other (by exact standby)]
        exact (if_neg standby).symm
    have kept : woken.records = book .gated ∧ woken.titles = s.titles ∧ woken.params = s.params ∧ woken.line = s.line ∧
        woken.lanes = s.lanes ∧ woken.tracks = gated.tracks := by
      simp only [woken]
      split <;> simp [gated, s0]
    obtain ⟨records, titles, params, line, lanes, tracks⟩ := kept
    have found : liveRecord tk woken = some (r.gatedWith m) := by
      have live' : liveRecord (r.gatedWith m).ticket s0 = some r := by
        rw [show (r.gatedWith m).ticket = tk from named]
        exact live
      have same : liveRecord tk woken = liveRecord tk (putRecord (r.gatedWith m) s0) := liveRecord_congr (by rw [records, put])
      rw [same, liveRecord_putRecord live' nofun, if_pos (by exact named.symm)]
    have check : (r.resolved && !passesCheck (r.gatedWith m) woken) = true ↔ fails := gated_check thickness titles params
    have opens : gateOpen woken = true ↔ isOpen := by
      rw [gateOpen_iff, line, lanes, tracks]
      by_cases standby : s.press.state = .standby
      · have warming : woken.press.state = .warming := by simp [woken, standby]
        simp [isOpen, warming, standby]
      · have same : woken = gated := if_neg standby
        rw [same]
    rw [taken, sortBlock_gates (s := s0) fresh live stage hold, show clampThickness b = m from rfl, stands, checkGated, found]
    simp only
    refine ⟨fun bad => ?_, fun fits isOpen => ?_, fun fits closed => ?_⟩
    · rw [if_pos (by exact check.2 bad)]
      rfl
    · rw [if_neg (by exact mt check.1 fits), answerGate, if_pos (opens.2 isOpen)]
      have awake : s.press.state ≠ .standby := by rw [isOpen.2.1]; nofun
      have same : woken = gated := if_neg awake
      have live' : liveRecord tk (send .s1Admit woken) = some (r.gatedWith m) := (liveRecord_congr (by simp)).trans found
      have sent : send .s1Admit woken = { woken with out := [.s1Admit] } := by
        rw [send_now (.inl rfl), same]
        rfl
      have admitted : admitHeld tk woken = { woken with
          out := [.s1Admit]
          records := book .infeed
          tracks := { s.tracks with lastGated := some tk, infeed := s.tracks.infeed ++ [⟨tk, false⟩] } } := by
        have again : (book .gated).map (fun x => if x.ticket = tk then { r with stage := .infeed, thickness := some m } else x) =
            book .infeed := map_replaced (r := { r with stage := .gated, thickness := some m }) s.records named _
        rw [admitHeld, setStage, changeRecord_live live', sent, putRecord_eq, ← again, ← records]
        simp only [tracks, gated, BookRecord.gatedWith, thickness, named, Option.none_or, hold]
      rw [admitted]
      rfl
    · rw [if_neg (by exact mt check.1 fits), answerGate, if_neg (mt opens.1 closed)]
      rfl

end Sys2Proof.Machine
end

section
/-! Readings at S3 to S6 (R64 to R68), the arrival of a block at the head (R66, R79), and the lane decision (R80 to R82). -/

namespace Sys2Proof.Machine

/-! ### The judgement of a reading (R64) -/

/-- R64, case 1: a reading is ignored when its book is the last accepted one or waits. -/
def ReadIgnored (x : Reader) (e : Option Ticket) (rd : Reading Ticket) : Prop :=
  (∃ tk, rd = .named tk ∧ (x.last = some tk ∨ x.waiting = some tk)) ∨
    rd = .unreadable ∧ e ≠ none ∧ (x.last = e ∨ x.waiting = e)

theorem judge_ignored {x : Reader} {e : Option Ticket} {rd : Reading Ticket} (ignored : ReadIgnored x e rd) :
    judge x e rd = .ignored := by
  rcases ignored with ⟨tk, rfl, seen⟩ | ⟨rfl, expected, seen⟩
  · exact if_pos seen
  · exact if_pos ⟨Option.isSome_iff_ne_none.2 expected, seen⟩

theorem judge_replaces {x : Reader} {e : Option Ticket} {rd : Reading Ticket} (heard : ¬ReadIgnored x e rd)
    (unresolved : x.unresolved ≠ none) : judge x e rd = .replaces := by
  have some := Option.isSome_iff_ne_none.2 unresolved
  cases rd with
  | named tk => exact (if_neg fun seen => heard (.inl ⟨tk, rfl, seen⟩)).trans (if_pos some)
  | unreadable =>
    exact (if_neg fun ⟨expected, seen⟩ => heard (.inr ⟨rfl, Option.isSome_iff_ne_none.1 expected, seen⟩)).trans (if_pos some)

section Judged

variable {x : Reader} {e : Option Ticket} {rd : Reading Ticket} (heard : ¬ReadIgnored x e rd) (unresolved : x.unresolved = none)

include heard unresolved

theorem judge_fault (notNamed : ¬∃ tk, rd = .named tk ∧ e = some tk) (unread : rd = .unreadable → e = none) :
    judge x e rd = .sequenceFault := by
  have none : ¬x.unresolved.isSome = true := by rw [unresolved]; nofun
  cases rd with
  | named tk =>
    exact ((if_neg fun seen => heard (.inl ⟨tk, rfl, seen⟩)).trans (if_neg none)).trans
      (if_neg fun expected => notNamed ⟨tk, rfl, expected⟩)
  | unreadable =>
    rw [unread rfl]
    simp [judge, unresolved]

theorem judge_accepts {tk : Ticket} (expected : e = some tk) (read : rd = .unreadable ∨ rd = .named tk) :
    judge x e rd = .accepted tk (rd = .unreadable) := by
  have none : ¬x.unresolved.isSome = true := by rw [unresolved]; nofun
  subst expected
  rcases read with rfl | rfl
  · exact (if_neg fun ⟨there, seen⟩ => heard (.inr ⟨rfl, Option.isSome_iff_ne_none.1 there, seen⟩)).trans (if_neg none)
  · exact ((if_neg fun seen => heard (.inl ⟨tk, rfl, seen⟩)).trans (if_neg none)).trans (if_pos rfl)

end Judged

/-- R64, R65: an accepted reading marks its book, and the station's effect follows. -/
theorem takeReading_accepts {i : ReaderId} {rd : Reading Ticket} {tk : Ticket} {s : State}
    (heard : ¬ReadIgnored (s.readers.get i) (expectedBook i s) rd) (unresolved : (s.readers.get i).unresolved = none)
    (expected : expectedBook i s = some tk) (read : rd = .unreadable ∨ rd = .named tk) :
    takeReading i rd s = acceptedEffect i tk (if rd = .unreadable then
      setFlag .unverified tk (setReader i { s.readers.get i with last := some tk } s)
      else setReader i { s.readers.get i with last := some tk } s) := by
  rw [takeReading, judge_accepts heard unresolved expected read]
  simp only [acceptReading, decide_eq_true_eq]

/-- The message of a reader station that carries a reading. -/
def readCommand (i : ReaderId) (rd : Reading Ticket) : Instr :=
  match i with | .s3 => .blockReadS3 rd | .s4 => .exitRead rd | .s5 => .bookArrived rd | .s6 => .bookRead rd

theorem exec_read {i : ReaderId} {s : State} (listens : Listens i.station s) (rd : Reading Ticket) :
    exec (readCommand i rd) s = .next (finish (takeReading i rd { s with out := [], sentFrame := [] })) := by
  cases i <;> exact takeMessage_listens listens _

/-- Settles O40: the four cases of R64, and the accepted reading at S4 and S6. -/
theorem readingsAreJudgedInOrder : Obligations.ReadingsAreJudgedInOrder := by
  intro i rd s listens c x e s0 kept ignored named
  have taken : exec c s = .next (finish (takeReading i rd s0)) := by
    have run := exec_read listens rd
    cases i <;> exact run
  have expects : expectedBook i s0 = e := by cases i <;> rfl
  refine ⟨fun seen => ?_, fun heard unresolved => ?_, fun heard unresolved notNamed unread => ?_,
    fun tk heard unresolved expected read => ?_⟩
  · rw [taken, takeReading, expects, judge_ignored (by exact seen)]
  · rw [taken, takeReading, expects, judge_replaces (by exact heard) (by exact unresolved)]
    rfl
  · rw [taken, takeReading, expects, judge_fault (by exact heard) (by exact unresolved) notNamed unread]
    simp only [sequenceFault, expects]
    rfl
  · intro s1 s2
    have accepted : takeReading i rd s0 = acceptedEffect i tk s2 :=
      takeReading_accepts (by rw [expects]; exact heard) unresolved (expects.trans expected) read
    have out : s2.out = [] := by
      simp only [s2]
      split <;> simp [s1, s0]
    refine ⟨fun s4 => ?_, fun r s6 live => ?_⟩
    · subst s4
      rw [taken, accepted]
      rfl
    · rw [taken, accepted, s6]
      refine congrArg (fun u => Host.Outcome.next (finish u)) ?_
      have sent : send (deliveryCommand r) s2 = { s2 with out := [if r.flags = [] then .s6Deliver else .s6Divert] } := by
        have command : deliveryCommand r = if r.flags = [] then .s6Deliver else .s6Divert := by
          simp [deliveryCommand]
        have station : (deliveryCommand r).toDrive = false := by
          rw [command]
          split <;> rfl
        rw [send_now (.inl station), out, command]
        rfl
      simp only [acceptedEffect, live, sent]

/-! ### The arrival of a block at the head (R79) -/

section Arrival

variable {tk : Ticket} {marked : Bool} {more : List InfeedEntry} {s : State} (track : s.tracks.infeed = ⟨tk, marked⟩ :: more)
  (once : ∀ e ∈ more, e.ticket ≠ tk)

include track once

theorem isMarked_head : isMarked tk s = marked := by
  have rest : more.any (fun e => e.ticket == tk && e.wrongBlock) = false := by
    rw [List.any_eq_false]
    intro e mem
    simp [once e mem]
  rw [isMarked, track, List.any_cons, rest]
  simp

theorem leaveInfeed_head :
    leaveInfeed tk s = gateTest (setStage .head tk { s with tracks := { s.tracks with infeed := more } }) := by
  have left : s.tracks.infeed.filter (fun e => !(e.ticket == tk)) = more := by
    rw [track, List.filter_cons_of_neg (by simp), List.filter_eq_self]
    intro e mem
    simp [once e mem]
  rw [leaveInfeed, left]

end Arrival

theorem liveRecord_changeRecord_other {t u : Ticket} {s : State} (f : BookRecord → BookRecord)
    (keeps : ∀ r, (f r).ticket = r.ticket) (other : u ≠ t) : liveRecord u (changeRecord t f s) = liveRecord u s := by
  rw [liveRecord, liveRecord, findRecord_changeRecord_other f keeps other]

theorem liveRecord_changeRecord_same {t : Ticket} {r : BookRecord} {s : State} (f : BookRecord → BookRecord)
    (ticket : (f r).ticket = t) (stage : (f r).stage ≠ .retiring) (live : liveRecord t s = some r) :
    liveRecord t (changeRecord t f s) = some (f r) :=
  liveRecord_iff.2 ⟨findRecord_changeRecord_same f ticket live, stage⟩

/-- R60: the gate test leaves the record of every book but the one held there. -/
theorem gateTest_liveRecord {t : Ticket} {s : State} (other : s.tracks.gateHold ≠ some t) :
    liveRecord t (gateTest s) = liveRecord t s := by
  cases held : s.tracks.gateHold with
  | none => rw [gateTest_none held]
  | some u =>
    cases open_ : gateOpen s with
    | false => rw [gateTest_closed open_]
    | true =>
      have apart : t ≠ u := fun same => other (same ▸ held)
      have staged : liveRecord t (setStage .infeed u (send .s1Admit s)) = liveRecord t (send .s1Admit s) :=
        liveRecord_changeRecord_other (fun r => { r with stage := .infeed }) (fun _ => rfl) apart
      rw [gateTest_open held open_]
      exact staged.trans (liveRecord_congr (by simp))

/-- R79: the record of the block that has left the infeed track. -/
theorem leaveInfeed_liveRecord {tk : Ticket} {r : BookRecord} {s : State} (live : liveRecord tk s = some r)
    (gate : s.tracks.gateHold ≠ some tk) : liveRecord tk (leaveInfeed tk s) = some { r with stage := .head } := by
  let left : State := { s with tracks := { s.tracks with infeed := s.tracks.infeed.filter fun e => !(e.ticket == tk) } }
  have live' : liveRecord tk left = some r := live
  have staged : liveRecord tk (setStage .head tk left) = some { r with stage := .head } :=
    liveRecord_changeRecord_same (fun r => { r with stage := .head })
      (show r.ticket = tk from liveRecord_ticket live) nofun live'
  rw [leaveInfeed, gateTest_liveRecord (by simpa [left] using gate)]
  exact staged

/-- R79: the three ways an arrival ends. -/
theorem arrive_cases {tk : Ticket} {s : State} :
    (isMarked tk s = true →
      arrive tk s = releaseCheck (retire tk .diverted (some .wrongBlock) (send .s3Eject (leaveInfeed tk s)))) ∧
    (∀ r, isMarked tk s = false → liveRecord tk s = some r → s.tracks.gateHold ≠ some tk →
      (r.resolved = false → arrive tk s = releaseCheck { startWait (leaveInfeed tk s) with head := .waitTitle tk }) ∧
      (r.resolved = true → arrive tk s = releaseCheck (laneDecision tk r.key (startWait (leaveInfeed tk s))))) := by
  refine ⟨fun marked => if_pos marked, fun r unmarked live gate => ?_⟩
  have found := leaveInfeed_liveRecord live gate
  refine ⟨fun unresolved => ?_, fun resolved => ?_⟩
  · rw [arrive, if_neg (by rw [unmarked]; nofun), found]
    exact if_neg (by rw [unresolved]; nofun)
  · rw [arrive, if_neg (by rw [unmarked]; nofun), found]
    exact if_pos resolved

/-- Settles O41: an accepted S3 reading waits or its block arrives, and a reading that waits is taken the same way. -/
theorem blockArrivesAtTheHead : Obligations.BlockArrivesAtTheHead := by
  refine ⟨?_, fun s quiet => ?_, ?_⟩
  · intro tk marked more rd s listens track read last waiting unresolved s1 s2
    let s0 : State := { s with out := [], sentFrame := [] }
    have expected : expectedBook .s3 s0 = some tk := by simp [expectedBook, s0, track]
    have heard : ¬ReadIgnored (s0.readers.get .s3) (expectedBook .s3 s0) rd := by
      rw [expected]
      rintro (⟨u, rfl, seen⟩ | ⟨-, -, seen⟩)
      · obtain same | same := read
        · cases same
          exact seen.elim last waiting
        · cases same
      · exact seen.elim last waiting
    have taken : exec (.blockReadS3 rd) s = .next (finish (acceptedEffect .s3 tk s2)) := by
      have run := exec_read (i := .s3) listens rd
      rw [takeReading_accepts (s := s0) heard unresolved expected (read.symm)] at run
      exact run
    have frame : s2.head = s.head ∧ s2.tracks = s.tracks ∧ s2.params = s.params ∧ s2.readers = s1.readers := by
      simp only [s2]
      split <;> simp [s1]
    obtain ⟨head, tracks, params, readers⟩ := frame
    refine ⟨fun busy => ?_, fun idle once => ?_⟩
    · rw [taken]
      refine congrArg (fun u => Host.Outcome.next (finish u)) ?_
      have busy' : ¬s2.head = .idle := by rw [head]; exact busy
      simp only [acceptedEffect, if_neg busy', keepWaiting, setReader, readers, s1, Readers.get, Readers.put, unresolved]
    · intro left timed
      have track' : s2.tracks.infeed = ⟨tk, marked⟩ :: more := by rw [tracks]; exact track
      have mark : isMarked tk s2 = marked := isMarked_head track' once
      have leaves : leaveInfeed tk s2 = left := by rw [leaveInfeed_head track' once, tracks]
      have waits : startWait left = timed := by
        have same : left.params.marriageWait = s.params.marriageWait := by simp [left, params]
        rw [startWait, same]
      have arrives : exec (.blockReadS3 rd) s = .next (finish (arrive tk s2)) := by
        rw [taken, acceptedEffect, if_pos (by rw [head]; exact idle)]
      have record (r : BookRecord) (live : liveRecord tk s = some r) :
          ∃ r', liveRecord tk s2 = some r' ∧ r'.resolved = r.resolved ∧ r'.key = r.key := by
        have live1 : liveRecord tk s1 = some r := live
        by_cases unread : rd = .unreadable
        · refine ⟨{ r with flags := addFlag .unverified r.flags }, ?_, rfl, rfl⟩
          simp only [s2, if_pos unread]
          exact liveRecord_changeRecord_same (fun r => { r with flags := addFlag .unverified r.flags })
            (show r.ticket = tk from liveRecord_ticket live) (liveRecord_iff.1 live).2 live1
        · exact ⟨r, by simp only [s2, if_neg unread]; exact live1, rfl, rfl⟩
      obtain ⟨ejects, arrivals⟩ := arrive_cases (tk := tk) (s := s2)
      rw [leaves] at ejects arrivals
      rw [waits] at arrivals
      refine ⟨fun isMarked => ?_, fun r unmarked live unresolved gate => ?_, fun r unmarked live resolved gate => ?_⟩
      · rw [arrives, ejects (mark.trans isMarked)]
      · obtain ⟨r', live', sameResolved, -⟩ := record r live
        rw [arrives, (arrivals r' (mark.trans unmarked) live' (by rw [tracks]; exact gate)).1 (sameResolved.trans unresolved)]
      · obtain ⟨r', live', sameResolved, sameKey⟩ := record r live
        rw [arrives, (arrivals r' (mark.trans unmarked) live' (by rw [tracks]; exact gate)).2 (sameResolved.trans resolved), sameKey]
  · rcases quiet with busy | none
    · exact actWaitingS3_busy busy
    · exact actWaitingS3_none none
  · intro tk marked more r s idle waiting track once gate live left timed
    let v : State := { s with readers := { s.readers with s3 := { s.readers.s3 with waiting := none } } }
    have arrives : actWaitingS3 s = arrive tk v := by
      rw [actWaitingS3, if_pos idle, waiting]
    have mark : isMarked tk v = marked := isMarked_head (s := v) track once
    have leaves : leaveInfeed tk v = left := leaveInfeed_head (s := v) track once
    have waits : startWait left = timed := by
      have same : left.params.marriageWait = s.params.marriageWait := by simp [left]
      rw [startWait, same]
    obtain ⟨ejects, arrivals⟩ := arrive_cases (tk := tk) (s := v)
    rw [leaves] at ejects arrivals
    rw [waits] at arrivals
    refine ⟨fun isMarked => ?_, fun unmarked unresolved => ?_, fun unmarked resolved => ?_⟩
    · rw [arrives, ejects (mark.trans isMarked)]
    · rw [arrives, (arrivals r (mark.trans unmarked) live gate).1 unresolved]
    · rw [arrives, (arrivals r (mark.trans unmarked) live gate).2 resolved]

end Sys2Proof.Machine
end

section
/-! The lane decision and the choice of the lane to purge (R80 to R82). -/

namespace Sys2Proof.Machine

/-! ### The rows of the lane decision (R80) -/

theorem Lanes.first_eq_none {p : Lane → Bool} {ls : Lanes} (fails : ∀ l, p (ls.get l) = false) : ls.first p = none := by
  simp [Lanes.first, show p ls.a = false from fails .a, show p ls.b = false from fails .b]

/-- A property of one lane alone finds that lane. -/
theorem Lanes.first_eq_some {p : Lane → Bool} {ls : Lanes} {l : LaneId} (has : p (ls.get l) = true)
    (alone : ∀ m, m ≠ l → p (ls.get m) = false) : ls.first p = some l := by
  cases l with
  | a => simp [Lanes.first, show p ls.a = true from has]
  | b => simp [Lanes.first, show p ls.b = true from has, show p ls.a = false from alone .a nofun]

theorem Lane.not_holds {k : TitleKey} {l : Lane} : l.holds k = false ↔ l.isHolding k = false ∧ l.isKept k = false := by
  simp [Lane.holds]

theorem laneDecision_holding {tk : Ticket} {k : TitleKey} {s : State} (lanes : LaneInv s) {l : LaneId}
    (holding : (s.lanes.get l).isHolding k = true) :
    laneDecision tk k s = tryTakeCase { s with head := .waitCase tk (some l) } := by
  have found : s.lanes.first (Lane.isHolding k) = some l := Lanes.first_eq_some holding fun m apart =>
    (Lane.not_holds.1 (lanes.other (by rw [Lane.holds, holding]; rfl) apart)).1
  rw [laneDecision, found]

theorem laneDecision_kept {tk : Ticket} {k : TitleKey} {s : State} (lanes : LaneInv s) {l : LaneId}
    (kept : (s.lanes.get l).isKept k = true) : laneDecision tk k s = { s with head := .waitCase tk (some l) } := by
  have holds : (s.lanes.get l).holds k = true := by rw [Lane.holds, kept, Bool.or_true]
  have other (m : LaneId) (apart : m ≠ l) := Lane.not_holds.1 (lanes.other holds apart)
  have noStock : s.lanes.first (Lane.isHolding k) = none := Lanes.first_eq_none fun m => by
    by_cases same : m = l
    · subst same
      cases lane : s.lanes.get m with
      | holding k' n =>
        rw [lane] at kept
        cases kept
      | _ => rfl
    · exact (other m same).1
  have found : s.lanes.first (Lane.isKept k) = some l := Lanes.first_eq_some kept fun m apart => (other m apart).2
  rw [laneDecision, noStock, found]

section Fresh

variable {tk : Ticket} {k : TitleKey} {s : State} (free : ∀ l, (s.lanes.get l).holds k = false)

include free

theorem laneDecision_empty {l : LaneId} (empty : s.lanes.first (fun x => x == .empty) = some l) :
    laneDecision tk k s = setLane l (.reserved k) { s with head := .waitCase tk (some l) } := by
  rw [laneDecision, Lanes.first_eq_none fun l => (Lane.not_holds.1 (free l)).1,
    Lanes.first_eq_none fun l => (Lane.not_holds.1 (free l)).2, empty]

variable (full : ∀ l, s.lanes.get l ≠ .empty)

include full

theorem laneDecision_freed {l : LaneId} (freed : freedLane s = some l) : laneDecision tk k s =
    setLane l (carryKey k (s.lanes.get l)) { s with head := .waitCase tk (some l), openChoices := s.openChoices + 1 } := by
  rw [laneDecision, Lanes.first_eq_none fun l => (Lane.not_holds.1 (free l)).1,
    Lanes.first_eq_none fun l => (Lane.not_holds.1 (free l)).2,
    Lanes.first_eq_none (p := fun x => x == .empty) fun l => beq_eq_false_iff_ne.2 (full l), freed]

theorem laneDecision_purges (freed : freedLane s = none) :
    (∀ l, purgeChoice s = some l → laneDecision tk k s = { send (.s2Purge l) s with
      lanes := s.lanes.put l (.purging .exchange (some k) 20000), head := .waitCase tk (some l) }) ∧
    (purgeChoice s = none → laneDecision tk k s = { s with head := .waitCase tk none }) := by
  have rows := laneDecision.eq_1 tk k s
  rw [Lanes.first_eq_none fun l => (Lane.not_holds.1 (free l)).1,
    Lanes.first_eq_none fun l => (Lane.not_holds.1 (free l)).2,
    Lanes.first_eq_none (p := fun x => x == .empty) fun l => beq_eq_false_iff_ne.2 (full l), freed] at rows
  refine ⟨fun l choice => ?_, fun choice => ?_⟩
  · rw [rows, choice]
    have sent (u : State) : send (.s2Purge l) u = { u with out := u.out ++ [.s2Purge l] } := send_now (.inl rfl)
    simp only [startPurge, setLane, sent]
    rfl
  · rw [rows, choice]

end Fresh

/-! ### The lane to purge (R82) -/

theorem infeedPlace_eq_none {k : TitleKey} {s : State} : infeedPlace k s = none ↔ ¬∃ e ∈ s.tracks.infeed, keyOf e.ticket s = some k := by
  simp [infeedPlace, entryHasKey, List.findIdx?_eq_none_iff]

theorem infeedHas_iff {k : TitleKey} {s : State} : infeedHas k s = true ↔ ∃ e ∈ s.tracks.infeed, keyOf e.ticket s = some k := by
  simp [infeedHas, entryHasKey]

/-! ### TAKE_CASE (R77, R81) -/

/-- R2: a change of a live record that leaves it live and keeps its ticket and key leaves every key found. -/
theorem keyOf_changeRecord {t : Ticket} {s : State} {f : BookRecord → BookRecord} (ticket : ∀ r, (f r).ticket = r.ticket)
    (key : ∀ r, (f r).key = r.key) (live : ∀ r, r.stage ≠ .retiring → (f r).stage ≠ .retiring) (u : Ticket) :
    keyOf u (changeRecord t f s) = keyOf u s := by
  by_cases same : u = t
  · subst same
    cases found : liveRecord u s with
    | none => rw [changeRecord_absent found]
    | some r =>
      have changed := liveRecord_changeRecord_same f ((ticket r).trans (liveRecord_ticket found)) (live r (liveRecord_iff.1 found).2) found
      rw [keyOf, keyOf, changed, found, Option.map_some, Option.map_some, key]
  · rw [keyOf, keyOf, liveRecord_changeRecord_other f ticket same]

/-- R81: what TAKE_CASE makes of the book's record. -/
def BookRecord.taking (l : LaneId) (r : BookRecord) : BookRecord := { r with lane := r.lane.or (some l) }

/-- R76, R77: the lane of a TAKE_CASE. -/
theorem takeCase_lane (tk : Ticket) (k : TitleKey) (l : LaneId) (n : Nat) (s : State) :
    (takeCase tk l k n s).lanes.get l = if 2 ≤ n then .holding k (n - 1) else if infeedHas k s then .reserved k else .empty := by
  let v : State := { changeRecord tk (BookRecord.taking l) (send (.s3TakeCase l) s) with
    marriageTimer := none, head := .pasting tk l }
  let w : State := setLane l (laneAfterTake k n (infeedHas k v)) v
  have keys (u : Ticket) : keyOf u (changeRecord tk (BookRecord.taking l) (send (.s3TakeCase l) s)) = keyOf u s := by
    have sent : liveRecord u (send (.s3TakeCase l) s) = liveRecord u s := liveRecord_congr (by simp)
    rw [keyOf_changeRecord (f := BookRecord.taking l) (fun _ => rfl) (fun _ => rfl) (fun _ live => live), keyOf, keyOf, sent]
  have infeed : v.tracks.infeed = s.tracks.infeed := by simp [v]
  have has : infeedHas k v = infeedHas k s := by
    rw [Bool.eq_iff_iff, infeedHas_iff, infeedHas_iff, infeed]
    exact exists_congr fun e => and_congr_right fun _ => by rw [show keyOf e.ticket v = keyOf e.ticket s from keys e.ticket]
  have wants : wanted k w = infeedHas k s := has ▸ Bool.or_false (infeedHas k v)
  have lane : w.lanes.get l = laneAfterTake k n (infeedHas k s) := by
    rw [← has]
    exact Lanes.get_put_same _ _ _
  have released : (takeCase tk l k n s).lanes.get l = releasedLane w (w.lanes.get l) := by cases l <;> rfl
  rw [released, lane, laneAfterTake]
  split
  · rfl
  · cases held : infeedHas k s with
    | true => simp [releasedLane, wants, held]
    | false => rfl

/-- Settles O42: the first row that applies, and what TAKE_CASE and a purge do. -/
theorem laneDecisionTakesTheFirstRow : Obligations.LaneDecisionTakesTheFirstRow := by
  intro tk k s lanes d infeedHasKey
  refine ⟨fun l n holding => ?_, fun l kept => laneDecision_kept lanes kept, fun free => ⟨fun a => ?_, fun a b => ?_, fun a b => ?_⟩⟩
  · have stock : (s.lanes.get l).isHolding k = true := by
      rw [holding]
      exact beq_self_eq_true k
    have taken := laneDecision_holding (tk := tk) lanes stock
    refine ⟨taken, fun stands => taken.trans (tryTakeCase_stands stands), fun feeds key => ?_⟩
    have takes : d = takeCase tk l k n { s with head := .waitCase tk (some l) } :=
      taken.trans (tryTakeCase_takes rfl holding key feeds)
    have lane : d.lanes.get l = if 2 ≤ n then .holding k (n - 1) else if infeedHas k s then .reserved k else .empty := by
      rw [takes]
      exact takeCase_lane tk k l n _
    have sent : send (.s3TakeCase l) { s with head := .waitCase tk (some l) } =
        { s with head := .waitCase tk (some l), out := s.out ++ [.s3TakeCase l] } := send_now (.inl rfl)
    refine ⟨by rw [takes]; rfl, by rw [takes]; rfl, ?_, fun r live unused => ?_, fun two => lane.trans (if_pos two), fun one wanted => ?_,
      fun one unwanted => ?_⟩
    · simp [takes, takeCase, sent]
    · have live' : liveRecord tk { s with head := .waitCase tk (some l), out := s.out ++ [.s3TakeCase l] } = some r := live
      simp [takes, takeCase, sent, changeRecord_live live', putRecord_records, unused, liveRecord_ticket live]
    · rw [lane, if_neg (by omega), if_pos (infeedHas_iff.2 wanted)]
    · rw [lane, if_neg (by omega), if_neg (fun has => unwanted (infeedHas_iff.1 has))]
  · refine laneDecision_empty (l := .a) free ?_
    simp [Lanes.first, a]
  · refine laneDecision_empty (l := .b) free ?_
    simp [Lanes.first, a, b]
  · have full : ∀ l, s.lanes.get l ≠ .empty := by
      intro l
      cases l
      · exact a
      · exact b
    refine ⟨fun n purging other => ?_, fun n purging other => ?_, fun aHeld bHeld => ?_⟩
    · have own : s.lanes.a.isFreed = true := by rw [purging]; rfl
      have freed : freedLane s = some .a := by simp [freedLane, own, other, Lanes.first]
      simp only [d, laneDecision_freed free full freed, setLane, Lanes.get, purging]
      exact ⟨rfl, trivial, trivial⟩
    · have own : s.lanes.b.isFreed = true := by rw [purging]; rfl
      have freed : freedLane s = some .b := by simp [freedLane, own, other, Lanes.first]
      simp only [d, laneDecision_freed free full freed, setLane, Lanes.get, purging]
      exact ⟨rfl, trivial, trivial⟩
    · have freed : freedLane s = none := by simp [freedLane, aHeld, bHeld, Lanes.first]
      obtain ⟨purges, unpurged⟩ := laneDecision_purges (tk := tk) free full freed
      refine ⟨fun ka stock other => ?_, fun kb stock other => ?_, fun ka kb i j stockA stockB placeA placeB apart => ?_,
        fun stockA stockB => ?_⟩
      · refine purges .a ?_
        rcases other with other | unwanted
        · simp [purgeChoice, stock, other]
        · have place : infeedPlace ka s = .none := infeedPlace_eq_none.2 unwanted
          cases other : s.lanes.b.stockKey <;> simp [purgeChoice, stock, other, place, choosePurge]
      · refine purges .b ?_
        rcases other with other | ⟨ka, other, wanted, unwanted⟩
        · simp [purgeChoice, stock, other]
        · have place : infeedPlace kb s = .none := infeedPlace_eq_none.2 unwanted
          obtain ⟨i, placeA⟩ := Option.ne_none_iff_exists'.1 fun nowhere => infeedPlace_eq_none.1 nowhere wanted
          simp [purgeChoice, stock, other, place, placeA, choosePurge]
      · have choice : purgeChoice s = some (if j < i then .a else .b) := by
          simp [purgeChoice, stockA, stockB, placeA, placeB, choosePurge]
        have sent (l : LaneId) (u : State) : send (.s2Purge l) u = { u with out := u.out ++ [.s2Purge l] } := send_now (.inl rfl)
        simp only [d, purges _ choice, sent]
        exact ⟨trivial, trivial⟩
      · exact unpurged (by simp [purgeChoice, stockA, stockB])

end Sys2Proof.Machine
end

section
/-! The jacketer and the delivery track (R65 to R67, R142 to R149, R155). -/

namespace Sys2Proof.Machine

/-! ### A change of a record as a change of the table alone -/

/-- The table after a change of the live record of a ticket (R7). -/
def changedRecords (t : Ticket) (f : BookRecord → BookRecord) (rs : List BookRecord) : List BookRecord :=
  match (rs.find? fun r => r.ticket == t).filter fun r => !(r.stage == .retiring) with
  | some r => rs.map fun x => if x.ticket = (f r).ticket then f r else x
  | none => rs

theorem changeRecord_eq (t : Ticket) (f : BookRecord → BookRecord) (s : State) :
    changeRecord t f s = { s with records := changedRecords t f s.records } := by
  cases live : liveRecord t s with
  | none =>
    have same : changedRecords t f s.records = s.records := by
      rw [liveRecord, findRecord] at live
      simp only [changedRecords, live]
    rw [changeRecord_absent live, same]
  | some r =>
    have put : changedRecords t f s.records = (putRecord (f r) s).records := by
      rw [liveRecord, findRecord] at live
      simp only [changedRecords, live, putRecord]
    rw [changeRecord_live live, put]
    rfl

theorem setStage_eq (st : Stage) (t : Ticket) (s : State) :
    setStage st t s = { s with records := changedRecords t (fun r => { r with stage := st }) s.records } := changeRecord_eq _ _ _

theorem setFlag_eq (f : Flag) (t : Ticket) (s : State) :
    setFlag f t s = { s with records := changedRecords t (fun r => { r with flags := addFlag f r.flags }) s.records } :=
  changeRecord_eq _ _ _

theorem keyOf_setFlag (f : Flag) (t u : Ticket) (s : State) : keyOf u (setFlag f t s) = keyOf u s :=
  keyOf_changeRecord (f := fun r => { r with flags := addFlag f r.flags }) (fun _ => rfl) (fun _ => rfl) (fun _ live => live) u

/-! ### A notice as a change of the link alone -/

/-- The link after a notice (R183, R184). -/
def producedLink (n : Notice) (retiring : List Ticket) (k : Link) : Link :=
  if k.notices.length < 32 ∧ (!retiring.isEmpty || k.held.any) = false then
    { k with nextNotice := k.nextNotice + 1, notices := k.notices ++ [⟨k.nextNotice, n⟩], attn := true }
  else { k with nextNotice := k.nextNotice + 1, held := k.held.put ⟨k.nextNotice, n⟩ }

theorem produce_eq (n : Notice) (s : State) : produce n s = { s with link := producedLink n s.retiring s.link } := by
  by_cases room : s.link.notices.length < 32 ∧ noticeWaits s = false
  · rw [produce_queued room.1 room.2, producedLink, if_pos (by exact room)]
    rfl
  · rw [produce_held room, producedLink, if_neg (by exact room)]

/-! ### Delivery (R67, R155) -/

theorem passedTaken_iff {t : Ticket} {s : State} :
    passedTaken t s = true ↔ s.tracks.delivery.head? = some t ∧ s.readers.s6.last = some t := by
  simp [passedTaken]

/-- Settles O53: a PASSED is taken or is a Stray. -/
theorem passedRetiresTheBook : Obligations.PassedRetiresTheBook := by
  intro rd s listens s0
  have taken : exec (.passed rd) s = .next (noteSending (takePassed rd s0)) := takeMessage_listens listens _
  refine ⟨fun tk r named head last live => ?_, fun strange => ?_⟩
  · have live0 : liveRecord tk s0 = some r := live
    have outcome : passedOutcome r = if r.flags = [] then .delivered else .diverted := by
      simp only [passedOutcome, List.isEmpty_iff]
    subst named
    rw [taken, takePassed, if_pos (passedTaken_iff.2 (by exact ⟨head, last⟩)), live0]
    simp only [outcome]
    rfl
  · rw [taken]
    refine congrArg (fun u => Host.Outcome.next (noteSending u)) ?_
    cases rd with
    | unreadable => rfl
    | named tk =>
      rw [takePassed]
      split
      · next passed =>
        obtain ⟨head, last⟩ := passedTaken_iff.1 passed
        obtain apart | apart | absent := strange tk rfl
        · exact absurd head apart
        · exact absurd last apart
        · rw [show liveRecord tk s0 = none from absent]
          rfl
      · rfl

/-! ### The book at S5 (R142 to R144) -/

theorem handOver_eq (t : Ticket) (s : State) : handOver t s = indexRetest { setStage .delivery t s with
    tracks := { s.tracks with jacket := s.tracks.jacket.filter (fun x => !(x == t)), delivery := s.tracks.delivery ++ [t] }
    jackets := { s.jackets with state := .free } } := by
  rw [handOver, setStage_eq]

theorem passBook_eq (t : Ticket) (s : State) : passBook t s = indexRetest { setStage .delivery t (setFlag .noJacket t s) with
    out := s.out ++ [.s5Pass]
    tracks := { s.tracks with jacket := s.tracks.jacket.filter (fun x => !(x == t)), delivery := s.tracks.delivery ++ [t] }
    jackets := { s.jackets with state := .free } } := by
  have sent : send .s5Pass s = { s with out := s.out ++ [.s5Pass] } := send_now (.inl rfl)
  rw [passBook, handOver_eq, sent]
  simp only [setFlag_eq, setStage_eq]

theorem skipCount_found {k : TitleKey} {limit n : Nat} {keys : List TitleKey} (behind : 1 ≤ n) (within : n ≤ limit)
    (found : keys[n]? = some k) (first : ∀ j, j < n → keys[j]? ≠ some k) : skipCount k limit keys = some n := by
  obtain ⟨m, rfl⟩ : ∃ m, n = m + 1 := ⟨n - 1, by omega⟩
  obtain ⟨inside, at_m⟩ := List.getElem?_eq_some_iff.1 found
  have place : (keys.tail.take limit).findIdx? (· == k) = some m := by
    refine List.findIdx?_eq_some_iff_getElem.2 ⟨by simp; omega, by simpa using at_m, fun j before => ?_⟩
    have other := first (j + 1) (by omega)
    rw [List.getElem?_eq_getElem (by omega)] at other
    simpa using other
  rw [skipCount, place]
  rfl

theorem skipCount_none {k : TitleKey} {limit : Nat} {keys : List TitleKey} (absent : ∀ j, j ≤ limit → keys[j]? ≠ some k) :
    skipCount k limit keys = none := by
  have nowhere : (keys.tail.take limit).findIdx? (· == k) = none := by
    refine List.findIdx?_eq_none_iff.2 fun x mem => beq_eq_false_iff_ne.2 fun same => ?_
    obtain ⟨j, inside, at_j⟩ := List.mem_iff_getElem.1 mem
    simp only [List.length_take, List.length_tail] at inside
    refine absent (j + 1) (by omega) ?_
    rw [List.getElem?_eq_getElem (by omega), ← same, ← at_j]
    simp
  rw [skipCount, nowhere]
  rfl

section Arrival

variable {tk : Ticket} {k : TitleKey} {s : State} (key : keyOf tk s = some k)

include key

theorem jacketArrival_passes (idle : s.jackets.mode = .bypass ∨ s.jackets.sequence = []) : jacketArrival tk s = passBook tk s := by
  rw [jacketArrival, key]
  rcases idle with bypass | empty
  · exact if_pos bypass
  · simp [empty]

variable (normal : s.jackets.mode = .normal)

theorem jacketArrival_far (absent : ∀ j, j ≤ s.params.skipLimit → s.jackets.sequence[j]? ≠ some k) :
    jacketArrival tk s = passBook tk s := by
  have far := skipCount_none absent
  rw [jacketArrival, key]
  simp only
  split
  · rfl
  · split
    · rfl
    · next head rest sequence =>
      have other : head ≠ k := fun same => absent 0 (Nat.zero_le _) (by rw [sequence, same]; rfl)
      rw [if_neg other, far]

include normal

theorem jacketArrival_applies (head : s.jackets.sequence.head? = some k) : jacketArrival tk s = beginVerify tk s := by
  obtain ⟨rest, sequence⟩ := List.head?_eq_some_iff.1 head
  rw [jacketArrival, key]
  simp [normal, sequence]

theorem jacketArrival_skips {n : Nat} (behind : 1 ≤ n) (within : n ≤ s.params.skipLimit) (found : s.jackets.sequence[n]? = some k)
    (first : ∀ j, j < n → s.jackets.sequence[j]? ≠ some k) : jacketArrival tk s = beginVerify tk (send (.s5Skip n)
      { s with jackets := { s.jackets with sequence := s.jackets.sequence.drop n } }) := by
  have skipped := skipCount_found behind within found first
  rw [jacketArrival, key]
  simp only [skipped]
  rw [if_neg (by rw [normal]; nofun)]
  cases sequence : s.jackets.sequence with
  | nil =>
    rw [sequence] at found
    cases found
  | cons head rest =>
    have other : head ≠ k := fun same => first 0 behind (by rw [sequence, same]; rfl)
    simp [other]

end Arrival

theorem beginVerify_eq (t : Ticket) (s : State) :
    beginVerify t s = { s with out := s.out ++ [.s5Apply], jackets := { s.jackets with state := .verify t } } := send_now (.inl rfl)

/-- R142: the three ways the arrival of a book at S5 ends. -/
theorem jacketArrival_cases {tk : Ticket} {k : TitleKey} {s : State} (key : keyOf tk s = some k) :
    let passed := indexRetest { setStage .delivery tk (setFlag .noJacket tk s) with
      out := s.out ++ [.s5Pass]
      tracks := { s.tracks with jacket := s.tracks.jacket.filter (fun x => !(x == tk)), delivery := s.tracks.delivery ++ [tk] }
      jackets := { s.jackets with state := .free } }
    (s.jackets.mode = .bypass ∨ s.jackets.sequence = [] → jacketArrival tk s = passed) ∧
    (s.jackets.mode = .normal → s.jackets.sequence.head? = some k → jacketArrival tk s =
      { s with out := s.out ++ [.s5Apply], jackets := { s.jackets with state := .verify tk } }) ∧
    (∀ n, s.jackets.mode = .normal → 1 ≤ n → n ≤ s.params.skipLimit → s.jackets.sequence[n]? = some k →
      (∀ j, j < n → s.jackets.sequence[j]? ≠ some k) → jacketArrival tk s =
      { s with
        out := s.out ++ [.s5Skip n, .s5Apply]
        jackets := { s.jackets with sequence := s.jackets.sequence.drop n, state := .verify tk } }) ∧
    ((∀ j, j ≤ s.params.skipLimit → s.jackets.sequence[j]? ≠ some k) → jacketArrival tk s = passed) := by
  refine ⟨fun idle => (jacketArrival_passes key idle).trans (passBook_eq tk s),
    fun normal head => (jacketArrival_applies key normal head).trans (beginVerify_eq tk s),
    fun n normal behind within found first => ?_, fun absent => (jacketArrival_far key absent).trans (passBook_eq tk s)⟩
  have sent (u : State) : send (.s5Skip n) u = { u with out := u.out ++ [.s5Skip n] } := send_now (.inl rfl)
  rw [jacketArrival_skips key normal behind within found first, beginVerify_eq, sent]
  simp only [List.append_assoc]
  rfl

/-- Settles O51: a book accepted at S5, or whose reading waited there, waits or is decided. -/
theorem bookArrivesAtTheJacketer : Obligations.BookArrivesAtTheJacketer := by
  refine ⟨?_, fun s quiet => ?_, ?_⟩
  · intro tk more k rd s listens track key read last waiting unresolved s1 s2 passed
    let s0 : State := { s with out := [], sentFrame := [] }
    have expected : expectedBook .s5 s0 = some tk := by simp [expectedBook, s0, track]
    have heard : ¬ReadIgnored (s0.readers.get .s5) (expectedBook .s5 s0) rd := by
      rw [expected]
      rintro (⟨u, rfl, seen⟩ | ⟨-, -, seen⟩)
      · obtain same | same := read
        · cases same
          exact seen.elim last waiting
        · cases same
      · exact seen.elim last waiting
    have taken : exec (.bookArrived rd) s = .next (finish (acceptedEffect .s5 tk s2)) := by
      have run := exec_read (i := .s5) listens rd
      rw [takeReading_accepts (s := s0) heard unresolved expected (read.symm)] at run
      exact run
    obtain ⟨rs, only⟩ : ∃ rs, s2 = { s1 with records := rs } := by
      simp only [s2]
      split
      · exact ⟨_, setFlag_eq _ _ _⟩
      · exact ⟨s1.records, rfl⟩
    have key2 : keyOf tk s2 = some k := by
      simp only [s2]
      split
      · exact (keyOf_setFlag _ _ _ _).trans key
      · exact key
    clear_value s2
    subst only
    have others : (tk :: more).filter (fun x => !(x == tk)) = more.filter (fun x => !(x == tk)) := List.filter_cons_of_neg (by simp)
    refine ⟨fun full => ?_, fun room => ?_⟩
    · rw [taken, acceptedEffect, if_neg (by exact Nat.not_lt.2 full)]
      simp only [keepWaiting, setReader, s1, Readers.get, Readers.put, unresolved]
    · obtain ⟨passes, applies, skips, far⟩ := jacketArrival_cases key2
      have arrives : exec (.bookArrived rd) s = .next (finish (jacketArrival tk { s1 with records := rs })) := by
        rw [taken, acceptedEffect, if_pos (by exact room)]
      simp only [s1, track, others] at passes far
      refine ⟨fun idle => ?_, fun normal head => ?_, fun n normal behind within found first => ?_, fun absent => ?_⟩
      · rw [arrives, passes idle]
        rfl
      · rw [arrives, applies normal head]
        rfl
      · rw [arrives, skips n normal behind within found first]
        rfl
      · rw [arrives, far absent]
        rfl
  · rcases quiet with full | quiet
    · exact if_neg (Nat.not_lt.2 full)
    · simp [actWaitingS5, quiet]
  · intro tk k s room waiting key s1 passed
    have arrives : actWaitingS5 s = jacketArrival tk s1 := by
      rw [actWaitingS5, if_pos (by exact room), waiting]
    have cases := jacketArrival_cases (s := s1) key
    rw [arrives]
    exact cases

/-! ### The jacket at the verifier (R145 to R149) -/

/-- R146, R147: a mismatch is counted, and the third passes the book in BYPASS. -/
theorem jacketMismatch_cases (tk : Ticket) (rd : Reading TitleKey) (s : State) :
    (s.jackets.mismatch < 2 → jacketMismatch tk rd s =
      { s with out := s.out ++ [.s5Spoil], jackets := { s.jackets with mismatch := s.jackets.mismatch + 1 } }) ∧
    (2 ≤ s.jackets.mismatch → jacketMismatch tk rd s = passBook tk (produce (.jacketFault s.jackets.sequence.head? rd)
      { s with out := s.out ++ [.s5Spoil], jackets := { s.jackets with mode := .bypass, mismatch := 3 } })) := by
  have sent (u : State) : send .s5Spoil u = { u with out := u.out ++ [.s5Spoil] } := send_now (.inl rfl)
  refine ⟨fun few => ?_, fun third => ?_⟩
  · have count : min (s.jackets.mismatch + 1) Config.bypassCount = s.jackets.mismatch + 1 := Nat.min_eq_left (by simp [Config.bypassCount]; omega)
    rw [jacketMismatch, sent, count]
    exact if_neg (by simp [Config.bypassCount]; omega)
  · have count : min (s.jackets.mismatch + 1) Config.bypassCount = 3 := Nat.min_eq_right (by simp [Config.bypassCount]; omega)
    rw [jacketMismatch, sent, count]
    exact if_pos rfl

theorem appliedRepeated_iff {t : Ticket} {s : State} :
    appliedRepeated t s = true ↔ ∃ r, liveRecord t s = some r ∧ r.stage = .delivery ∧ .noJacket ∉ r.flags := by
  rw [appliedRepeated]
  cases liveRecord t s <;> simp

/-- Settles O52: a JACKET_READ, and an APPLIED. -/
theorem jacketsAreVerifiedAndApplied : Obligations.JacketsAreVerifiedAndApplied := by
  refine ⟨fun rd s listens => ?_, fun rd s listens => ?_⟩
  · intro s0
    have taken : exec (.jacketRead rd) s = .next (noteSending (takeJacketRead rd s0)) := takeMessage_listens listens _
    refine ⟨fun outside => ?_, fun tk verify => ⟨fun k head named => ?_, fun other => ?_⟩⟩
    · rw [taken]
      refine congrArg (fun u => Host.Outcome.next (noteSending u)) ?_
      rw [takeJacketRead]
      split
      · next t at_ => exact absurd at_ (outside t)
      · rfl
    · obtain ⟨rest, sequence⟩ := List.head?_eq_some_iff.1 head
      have sent (u : State) : send .s5Go u = { u with out := u.out ++ [.s5Go] } := send_now (.inl rfl)
      rw [taken, takeJacketRead, show s0.jackets.state = .verify tk from verify, show s0.jackets.sequence = k :: rest from sequence]
      simp only [if_pos named, sent]
      rfl
    · have mismatch : exec (.jacketRead rd) s = .next (finish (jacketMismatch tk rd s0)) := by
        rw [taken, takeJacketRead, show s0.jackets.state = .verify tk from verify]
        simp only
        split
        · next head rest sequence =>
          rw [if_neg (other head (congrArg List.head? sequence))]
          rfl
        · rfl
      obtain ⟨few, third⟩ := jacketMismatch_cases tk rd s0
      refine ⟨fun below => ?_, fun reached => ?_⟩
      · rw [mismatch, few below]
        rfl
      · rw [mismatch, third reached, passBook_eq]
        simp only [setFlag_eq, setStage_eq, produce_eq]
        rfl
  · intro s0
    have taken : exec (.applied rd) s = .next (noteSending (takeApplied rd s0)) := takeMessage_listens listens _
    refine ⟨fun tk named applying => ?_, fun tk r named elsewhere live stage flags => ?_, fun strange => ?_⟩
    · subst named
      rw [taken, takeApplied, if_pos (by exact applying), handOver_eq]
      simp only [setStage_eq]
      rfl
    · subst named
      rw [taken, takeApplied, if_neg (by exact elsewhere), if_pos (appliedRepeated_iff.2 (by exact ⟨r, live, stage, flags⟩))]
    · rw [taken]
      refine congrArg (fun u => Host.Outcome.next (noteSending u)) ?_
      cases rd with
      | unreadable => rfl
      | named tk =>
        obtain ⟨elsewhere, undelivered⟩ := strange tk rfl
        have fresh : ¬appliedRepeated tk s0 = true := fun repeated =>
          have ⟨r, live, stage, flags⟩ := appliedRepeated_iff.1 repeated
          (undelivered r live).elim (fun apart => apart stage) flags
        rw [takeApplied, if_neg (by exact elsewhere), if_neg fresh]
        rfl

end Sys2Proof.Machine
end

section
/-! The index (R95, R108 to R110) and the temperature of the press (R100 to R103). -/

namespace Sys2Proof.Machine

/-! ### The index -/

theorem LineState.feeds_iff {x : LineState} : x.feeds = true ↔ x = .running ∨ x = .runningOut := by
  cases x <;> simp [LineState.feeds]

/-- R108: when an index is permitted. -/
theorem indexPermitted_iff {s : State} : indexPermitted s = true ↔ (s.line.state = .running ∨ s.line.state = .runningOut) ∧
    (s.press.positions.p6 = none ∨ s.tracks.jacket.length < 3) ∧ s.press.state ≠ .fault := by
  rw [← LineState.feeds_iff]
  simp only [indexPermitted, Bool.and_eq_true, Bool.or_eq_true, decide_eq_true_iff, Option.isNone_iff_eq_none, Bool.not_eq_true',
    beq_eq_false_iff_ne, and_assoc]
  rfl

/-- R110: INDEX_GO for an empty entry place. -/
theorem sendIndexGo_empty {s : State} (entry : s.tracks.entry = none) : sendIndexGo s = { s with
    out := s.out ++ [.s4IndexGo none], press := { s.press with index := .moving, carried := none } } := by
  rw [sendIndexGo, entry]
  exact send_now (.inl rfl)

/-- R95, R110: INDEX_GO for the book at the entry place, which the head gives up. -/
theorem sendIndexGo_carries {tk : Ticket} {r : BookRecord} {s : State} (entry : s.tracks.entry = some tk)
    (live : liveRecord tk s = some r) :
    let gone : State := { s with
      out := s.out ++ [.s4IndexGo r.force], press := { s.press with index := .moving, carried := some tk } }
    ((∀ l, s.head ≠ .holdMarried tk l) → sendIndexGo s = gone) ∧
    (∀ l, s.head = .holdMarried tk l → sendIndexGo s = actWaitingS3 { gone with head := .idle }) := by
  intro gone
  have sent : sendIndexGo s = headGivesUp tk gone := by
    rw [sendIndexGo, entry]
    simp only [live, Option.bind_some]
    exact congrArg (headGivesUp tk) (send_now (.inl rfl))
  refine ⟨fun apart => sent.trans (headGivesUp_other apart), fun l holds => sent.trans ?_⟩
  rw [headGivesUp, show gone.head = .holdMarried tk l from holds]
  exact if_pos rfl

/-- Settles O49: INDEX_READY is answered by the index state and the permission, and so is a held index that is tested again. -/
theorem indexReadyIsAnswered : Obligations.IndexReadyIsAnswered := by
  refine ⟨fun s listens => ?_, fun s => ?_⟩
  · intro s0 permitted
    have taken : exec .indexReady s = .next (noteSending (takeIndexReady s0)) := takeMessage_listens listens _
    have permits : indexPermitted s0 = true ↔ permitted := indexPermitted_iff
    have answered (clamp : s.press.index = .clamp) (may : permitted) : exec .indexReady s = .next (finish (sendIndexGo s0)) := by
      rw [taken, takeIndexReady, show s0.press.index = .clamp from clamp]
      simp only [if_pos (permits.2 may)]
      rfl
    have waits (u : State) : send .s4IndexWait u = { u with out := u.out ++ [.s4IndexWait] } := send_now (.inl rfl)
    refine ⟨fun moving => ?_, fun held => ?_, fun clamp mayNot => ?_, fun clamp may entry => ?_, fun tk r clamp may entry live => ?_⟩
    · rw [taken, takeIndexReady, show s0.press.index = .moving from moving]
    · rw [taken, takeIndexReady, show s0.press.index = .held from held]
      simp only [waits]
      rfl
    · rw [taken, takeIndexReady, show s0.press.index = .clamp from clamp]
      simp only [if_neg (mt permits.1 mayNot), waits]
      rfl
    · rw [answered clamp may, sendIndexGo_empty (by exact entry)]
      rfl
    · intro gone
      obtain ⟨keeps, gives⟩ := sendIndexGo_carries (s := s0) entry live
      refine ⟨fun apart => ?_, fun l holds => ?_⟩
      · rw [answered clamp may, keeps apart]
        rfl
      · rw [answered clamp may, gives l holds]
        rfl
  · intro goes
    have retest (may : goes) : indexRetest s = sendIndexGo s := if_pos ⟨may.1, indexPermitted_iff.2 may.2⟩
    refine ⟨fun stays => indexRetest_other fun may => stays ⟨may.1, indexPermitted_iff.1 may.2⟩,
      fun may entry => (retest may).trans (sendIndexGo_empty entry), fun tk r may entry live => ?_⟩
    rw [retest may]
    exact sendIndexGo_carries entry live

/-! ### The temperature -/

/-- R103: a change of the press state is noticed. -/
theorem setPress_changes {st : PressState} {s : State} (new : s.press.state ≠ st) :
    setPress st s = produce (.pressState st s.press.temp) { s with press := { s.press with state := st } } := if_neg new

/-- R101: an overheat report (log 13). -/
theorem overheat_cases (s : State) :
    (s.press.state ≠ .fault → overheat s = produce (.fault .pressOverheat .s4 none none) (enterFault .pressOverheat
      (produce (.pressState .fault s.press.temp) { s with press := { s.press with state := .fault } }))) ∧
    (s.press.state = .fault → s.line.state ≠ .faultHold → overheat s =
      produce (.fault .pressOverheat .s4 none none) (enterFault .pressOverheat s)) ∧
    (s.press.state = .fault → s.line.state = .faultHold → overheat s = s) := by
  refine ⟨fun fresh => ?_, fun fault free => ?_, fun fault held => ?_⟩
  · rw [overheat, setPress_changes fresh]
    exact if_neg (by simp [fresh])
  · rw [overheat, setPress, if_pos fault]
    exact if_neg (by simp [free])
  · rw [overheat, setPress, if_pos fault, enterFault, if_pos held]
    exact if_pos (by simp [fault, held])

/-- Settles O48: the rows of a TEMPERATURE report. -/
theorem temperatureMovesThePress : Obligations.TemperatureMovesThePress := by
  intro value s listens t taken moved done
  have runs : exec (.temperature value) s = done (pressByTemp t taken) := takeMessage_listens listens _
  have moves (st : PressState) (new : s.press.state ≠ st) : setPress st taken = moved st := setPress_changes new
  refine ⟨fun hot => ?_, fun cool => ?_⟩
  · have heated : exec (.temperature value) s = done (overheat taken) := by rw [runs, pressByTemp, if_pos (by exact hot)]
    obtain ⟨fresh, again, held⟩ := overheat_cases taken
    exact ⟨fun new => heated.trans (congrArg done (fresh new)), fun fault free => heated.trans (congrArg done (again fault free)),
      fun fault holds => heated.trans (congrArg done (held fault holds))⟩
  · have notHot : ¬taken.params.tRef + 30 ≤ t := Nat.not_le.2 cool
    have row {x : State} (effect : pressByTemp t taken = x) : exec (.temperature value) s = done x := runs.trans (congrArg done effect)
    refine ⟨fun state warm => row ?_, fun cold chilly => row ?_, fun ready chilly => row ?_, fun fault free => row ?_,
      fun quiet => row ?_⟩
    · have warm' : taken.params.tRef - 15 ≤ t := warm
      have notReady : s.press.state ≠ .ready := by
        rcases state with is | is <;> rw [is] <;> nofun
      rw [← moves .ready notReady, pressByTemp, if_neg notHot]
      rcases state with is | is
      · simp only [show taken.press.state = .cold from is, if_pos warm', pressReady]
      · simp only [show taken.press.state = .warming from is, if_pos warm', pressReady]
    · have chilly' : ¬taken.params.tRef - 15 ≤ t := Nat.not_le.2 chilly
      rw [← moves .warming (by rw [cold]; nofun), pressByTemp, if_neg notHot]
      simp only [show taken.press.state = .cold from cold, if_neg chilly']
    · have chilly' : t < taken.params.tRef - 18 := chilly
      rw [← moves .warming (by rw [ready]; nofun), pressByTemp, if_neg notHot]
      simp only [show taken.press.state = .ready from ready, if_pos chilly']
    · have free' : ¬taken.line.state = .faultHold := free
      rw [← moves .warming (by rw [fault]; nofun), pressByTemp, if_neg notHot]
      simp only [show taken.press.state = .fault from fault, if_neg free']
    · rw [pressByTemp, if_neg notHot]
      rcases quiet with standby | ⟨warming, chilly⟩ | ⟨ready, warm⟩ | ⟨fault, held⟩
      · simp only [show taken.press.state = .standby from standby]
      · have chilly' : ¬taken.params.tRef - 15 ≤ t := Nat.not_le.2 chilly
        simp only [show taken.press.state = .warming from warming, if_neg chilly']
      · have warm' : ¬t < taken.params.tRef - 18 := Nat.not_lt.2 warm
        simp only [show taken.press.state = .ready from ready, if_neg warm']
      · have held' : taken.line.state = .faultHold := held
        simp only [show taken.press.state = .fault from fault, if_pos held']

end Sys2Proof.Machine
end

section
/-! The end of an index (R111 to R118, R133, R134): credit, exit, move, the recompute, and the line that stops behind it. -/

namespace Sys2Proof.Machine

/-! ### The arithmetic of PD (R107, R116) -/

theorem tempFactor_cases (tRef v : Nat) : (tRef ≤ v → tempFactor tRef (some v) = 100) ∧
    (v < tRef → tRef ≤ v + 25 → tempFactor tRef (some v) = 100 + 2 * (tRef - v)) ∧
    (25 ≤ tRef → v + 25 ≤ tRef → tempFactor tRef (some v) = 150) := by
  simp only [tempFactor]
  omega

theorem bookDemand_eq (f tX d0 e : Nat) {r : Nat} (periods : 1 ≤ r) :
    bookDemand f tX r d0 e = (((d0 - e) * f + 99) / 100 + (r - 1)) / r + tX := by
  rw [bookDemand, ceilDiv, ceilDiv, Nat.add_sub_assoc periods]
  rfl

theorem placeDemand_eq (s : State) {r : Nat} (place : Option Ticket) (periods : 1 ≤ r) : placeDemand s r place =
    match place.bind (liveRecord · s) with
    | some b => (((b.dwell.getD 0 - b.eff.getD 0) * factor s + 99) / 100 + (r - 1)) / r + s.params.tX
    | none => 0 := by
  cases place with
  | none => rfl
  | some t =>
    simp only [placeDemand, Option.bind_some]
    cases liveRecord t s with
    | none => rfl
    | some b => exact bookDemand_eq _ _ _ _ periods

theorem pressDemand_eq_max (s : State) : pressDemand s = max (placeDemand s 6 s.tracks.entry)
    (max (placeDemand s 6 s.press.positions.p1) (max (placeDemand s 5 s.press.positions.p2)
      (max (placeDemand s 4 s.press.positions.p3) (max (placeDemand s 3 s.press.positions.p4)
        (max (placeDemand s 2 s.press.positions.p5) (placeDemand s 1 s.press.positions.p6)))))) := by
  simp [pressDemand, Nat.max_assoc]

/-! ### A change of one record, found by ticket -/

theorem changeEach_cons (t : Ticket) (ts : List Ticket) (f : BookRecord → BookRecord) (s : State) :
    changeEach (t :: ts) f s = changeEach ts f (changeRecord t f s) := rfl

section Each

variable {f : BookRecord → BookRecord} (ticket : ∀ r, (f r).ticket = r.ticket)

include ticket

theorem changeEach_findRecord_other {u : Ticket} {ts : List Ticket} {s : State} (other : u ∉ ts) :
    findRecord u (changeEach ts f s) = findRecord u s := by
  induction ts generalizing s with
  | nil => rfl
  | cons t ts ih =>
    rw [List.mem_cons, not_or] at other
    rw [changeEach_cons, ih other.2, findRecord_changeRecord_other f ticket other.1]

theorem changeEach_findRecord_same {u : Ticket} {ts : List Ticket} {r : BookRecord} {s : State} (once : ts.Nodup) (mem : u ∈ ts)
    (live : liveRecord u s = some r) : findRecord u (changeEach ts f s) = some (f r) := by
  induction ts generalizing s with
  | nil => cases mem
  | cons t ts ih =>
    rw [List.nodup_cons] at once
    rw [changeEach_cons]
    rcases List.mem_cons.1 mem with rfl | later
    · rw [changeEach_findRecord_other ticket once.1]
      exact findRecord_changeRecord_same f ((ticket r).trans (liveRecord_ticket live)) live
    · have apart : u ≠ t := fun same => once.1 (same ▸ later)
      exact ih once.2 later ((liveRecord_changeRecord_other f ticket apart).trans live)

end Each

/-! ### Records, tracks, head and press as parts of the state -/

/-- The state with its records, tracks, head and press replaced. -/
def relocate (rs : List BookRecord) (tracks : Tracks) (head : Head) (press : Press) (s : State) : State :=
  { s with records := rs, tracks := tracks, head := head, press := press }

/-- A state that differs from another in its records, tracks, head and press alone. -/
def Relocated (s u : State) : Prop := u = relocate u.records u.tracks u.head u.press s

theorem Relocated.trans {s u v : State} (first : Relocated s u) (second : Relocated u v) : Relocated s v := by
  rw [Relocated] at first second ⊢
  rw [first] at second
  exact second

theorem Relocated.records (rs : List BookRecord) (s : State) : Relocated s { s with records := rs } := rfl

theorem changeRecord_relocated (t : Ticket) (f : BookRecord → BookRecord) (s : State) : Relocated s (changeRecord t f s) := by
  rw [changeRecord_eq]
  exact .records _ _

theorem changeEach_relocated (ts : List Ticket) (f : BookRecord → BookRecord) (s : State) : Relocated s (changeEach ts f s) := by
  induction ts generalizing s with
  | nil => exact rfl
  | cons t ts ih => exact (changeRecord_relocated t f s).trans (ih _)

theorem exitStep_relocated (s : State) : Relocated s (exitStep s) := by
  unfold exitStep
  split
  · exact rfl
  · exact (changeRecord_relocated _ _ s).trans rfl

theorem enterCarried_relocated (c : Option Ticket) (s : State) : Relocated s (enterCarried c s) := by
  cases c with
  | none => exact rfl
  | some t => exact Relocated.trans (u := { s with tracks := { s.tracks with entry := none } }) rfl (changeRecord_relocated _ _ _)

theorem takeMarriage_relocated (t : Ticket) (l : LaneId) (s : State) : Relocated s (takeMarriage t l s) :=
  (changeRecord_relocated _ _ s).trans rfl

theorem takeWaiting_relocated (s : State) : Relocated s (takeWaiting s) := by
  unfold takeWaiting
  split
  · split
    · split
      · exact takeMarriage_relocated _ _ s
      · exact rfl
    · exact rfl
  · exact rfl

theorem moveStep_relocated (s : State) : Relocated s (moveStep s) := by
  rw [moveStep_eq]
  have moved : Relocated s (moveUp (enteringBook s) (changeEach s.press.positions.tickets moveBook s)) :=
    (changeEach_relocated _ _ s).trans rfl
  exact moved.trans ((enterCarried_relocated _ _).trans (takeWaiting_relocated _))

/-- R111 to R114: the press, its places and the books in them after an INDEX_DONE, before the recompute. -/
def indexed (m : Nat) (s : State) : State := endIndex (moveStep (exitStep (creditStep m s)))

theorem indexed_relocated (m : Nat) (s : State) : Relocated s (indexed m s) :=
  (changeEach_relocated _ _ s).trans ((exitStep_relocated _).trans ((moveStep_relocated _).trans rfl))

section Relocate

variable {rs : List BookRecord} {tracks : Tracks} {head : Head} {press : Press} {s : State}

theorem checkEarlyIndex_relocate (cycle : Nat) :
    checkEarlyIndex cycle (relocate rs tracks head press s) = relocate rs tracks head press (checkEarlyIndex cycle s) := by
  rw [checkEarlyIndex, checkEarlyIndex, show (relocate rs tracks head press s).pace = s.pace from rfl]
  cases s.pace.inForce with
  | none => rfl
  | some p =>
    cases early : indexEarly cycle p with
    | false => simp only [early, relocate, Bool.false_eq_true, if_false]
    | true => simp only [early, relocate, produce_eq, if_true]

theorem send_relocate (c : PortCommand) :
    send c (relocate rs tracks head press s) = relocate rs tracks head press (send c s) := by
  by_cases waits : (c.toDrive && s.drive.stopDue.isSome) = true
  · rw [send, send, if_pos waits, if_pos (by exact waits)]
    rfl
  · rw [send, send, if_neg waits, if_neg (by exact waits)]
    rfl

theorem produce_relocate (n : Notice) :
    produce n (relocate rs tracks head press s) = relocate rs tracks head press (produce n s) := by
  simp only [produce_eq, relocate]

theorem targetPitch_relocate (pd : press.pd = s.press.pd) : targetPitch (relocate rs tracks head press s) = targetPitch s := by
  simp only [targetPitch, largestDemand, demands, relocate, pd]

theorem decidingSource_relocate (pd : press.pd = s.press.pd) :
    decidingSource (relocate rs tracks head press s) = decidingSource s := by
  have same : demands (relocate rs tracks head press s) = demands s := by simp only [demands, relocate, pd]
  simp only [decidingSource, targetPitch, largestDemand, same]
  rfl

theorem recomputePitch_relocate (pd : press.pd = s.press.pd) :
    recomputePitch (relocate rs tracks head press s) = relocate rs tracks head press (recomputePitch s) := by
  have target := targetPitch_relocate (rs := rs) (tracks := tracks) (head := head) pd
  have source := decidingSource_relocate (rs := rs) (tracks := tracks) (head := head) pd
  by_cases moves : pitchMoves s.params s.pace.commanded (targetPitch s) = true ∧ targetPitch s ≠ s.pace.commanded
  · rw [recomputePitch_moves moves.1 moves.2, recomputePitch_moves (by rw [target]; exact moves.1) (by rw [target]; exact moves.2),
      target, source, ← produce_relocate, ← send_relocate, ← send_relocate]
    rfl
  · have stays : pitchMoves s.params s.pace.commanded (targetPitch s) = false ∨ targetPitch s = s.pace.commanded := by
      simpa [or_iff_not_imp_left] using moves
    rw [recomputePitch_stays stays, recomputePitch_stays (by rw [target]; exact stays), target, source]
    rfl

end Relocate

/-- R133: what an INDEX_DONE makes of the pace, apart from the books it moves. -/
def pacedAfter (cycle pd : Nat) (s : State) : State :=
  let checked := checkEarlyIndex cycle s
  recomputePitch { checked with press := { s.press with pd := pd } }

/-- R111, R133: the books moved and the pace recomputed, each as a part of the state of its own. -/
theorem recompute_indexed (m cycle : Nat) (s : State) :
    let w := indexed m s
    recomputeDemand (checkEarlyIndex cycle w) =
      relocate w.records w.tracks w.head { w.press with pd := pressDemand w } (pacedAfter cycle (pressDemand w) s) := by
  intro w
  have parts : w = relocate w.records w.tracks w.head w.press s := indexed_relocated m s
  have checked : checkEarlyIndex cycle w = relocate w.records w.tracks w.head w.press (checkEarlyIndex cycle s) := by
    conv_lhs => rw [parts]
    exact checkEarlyIndex_relocate cycle
  have demand : pressDemand (checkEarlyIndex cycle w) = pressDemand w :=
    pressDemand_congr (by simp) (by simp) (by simp) (by simp) (by simp)
  rw [recomputeDemand, demand, checked]
  exact recomputePitch_relocate (press := { w.press with pd := pressDemand w })
    (s := { checkEarlyIndex cycle s with press := { s.press with pd := pressDemand w } }) rfl

/-! ### The line behind a completed index (R165, R169) -/

/-- The line stopped with a cause (R160, R165, R169). -/
def stoppedLine (c : Cause) (s : State) : State :=
  produce (.lineState .stopped c) { send .driveStop s with line := ⟨.stopped, some c⟩ }

/-- R165, R169: the line that stops, or does not, for a head that pastes and a line that is empty. -/
def closedLine (pastes empty : Bool) (s : State) : State :=
  if s.line.state = .stopping ∧ pastes = false then stoppedLine .stopDone s
  else if s.line.state = .runningOut ∧ empty = true then stoppedLine .runOutDone s
  else s

def Head.pastes : Head → Bool
  | .pasting _ _ => true
  | _ => false

theorem stoppedLine_relocate (c : Cause) {rs : List BookRecord} {tracks : Tracks} {head : Head} {press : Press} {s : State} :
    stoppedLine c (relocate rs tracks head press s) = relocate rs tracks head press (stoppedLine c s) := by
  rw [stoppedLine, stoppedLine, send_relocate, ← produce_relocate]
  rfl

theorem closedLine_relocate {pastes empty : Bool} {rs : List BookRecord} {tracks : Tracks} {head : Head} {press : Press} {s : State} :
    closedLine pastes empty (relocate rs tracks head press s) = relocate rs tracks head press (closedLine pastes empty s) := by
  have line : (relocate rs tracks head press s).line = s.line := rfl
  rw [closedLine, closedLine, line]
  split
  · exact stoppedLine_relocate _
  · split
    · exact stoppedLine_relocate _
    · rfl

theorem settle_softStop {s : State} (clamp : s.press.index ≠ .moving) :
    settleLine (softStopTest s) = idleRefresh (closedLine s.head.pastes (lineEmpty s) s) := by
  by_cases stopping : s.line.state = .stopping ∧ s.head.pastes = false
  · have stops : softStopTest s = stoppedLine .stopDone s := by
      rw [softStopTest, if_pos stopping.1]
      cases head : s.head with
      | pasting t l =>
        rw [head] at stopping
        cases stopping.2
      | _ => simp only [if_neg clamp, stopDrive_eq, stopping.1]; rfl
    have stands : (stoppedLine .stopDone s).line.state = .stopped := by simp [stoppedLine]
    rw [stops, closedLine, if_pos stopping, settleLine, runOutTest, if_neg (by rw [stands]; nofun)]
  · have goesOn : softStopTest s = s := by
      rw [softStopTest]
      split
      · next stops =>
        cases head : s.head with
        | pasting t l => rfl
        | _ => exact absurd ⟨stops, by rw [head]; rfl⟩ stopping
      · rfl
    rw [goesOn, closedLine, if_neg stopping, settleLine, runOutTest]
    split
    · next out =>
      rw [setLine, stopDrive_eq, out.1]
      rfl
    · rfl

end Sys2Proof.Machine
end

section
/-! The places and the records behind an INDEX_DONE (R111 to R114), and the statement about it. -/

namespace Sys2Proof.Machine

/-! ### The steps of an INDEX_DONE -/

theorem Positions.tickets_split (p : Positions) : p.tickets = { p with p6 := none }.tickets ++ p.p6.toList := by
  have front (x : Option Ticket) : [p.p1, p.p2, p.p3, p.p4, p.p5, x].filterMap id =
      [p.p1, p.p2, p.p3, p.p4, p.p5].filterMap id ++ x.toList := by
    rw [show [p.p1, p.p2, p.p3, p.p4, p.p5, x] = [p.p1, p.p2, p.p3, p.p4, p.p5] ++ [x] from rfl, List.filterMap_append]
    cases x <;> rfl
  rw [Positions.tickets, Positions.tickets, front, front, Option.toList_none, List.append_nil]

theorem Positions.mem_lower {p : Positions} {tk : Ticket} :
    tk ∈ { p with p6 := none }.tickets ↔ some tk ∈ [p.p1, p.p2, p.p3, p.p4, p.p5] := by
  simp [Positions.tickets, eq_comm]

/-- R113: the exit step. -/
theorem exitStep_eq (s : State) : exitStep s = { s with
    records := (changeEach s.press.positions.p6.toList exitBook s).records
    tracks := { s.tracks with jacket := s.tracks.jacket ++ s.press.positions.p6.toList }
    press := { s.press with positions := { s.press.positions with p6 := none } } } := by
  unfold exitStep
  cases exit : s.press.positions.p6 with
  | none =>
    have same : { s.press.positions with p6 := none } = s.press.positions := by rw [← exit]
    simp [changeEach, same]
  | some t => simp only [changeEach, changeRecord_eq, Option.toList_some, List.foldl_cons, List.foldl_nil]

/-- R112 to R114: the press after an INDEX_DONE, before a waiting marriage is taken. -/
def carriedOn (m : Nat) (s : State) : State :=
  let exited := exitStep (creditStep m s)
  enterCarried (enteringBook s) (moveUp (enteringBook s) (changeEach exited.press.positions.tickets moveBook exited))

theorem enteringBook_eq {s : State} : enteringBook s = match s.tracks.entry with
    | some tk => if s.press.carried = some tk ∧ s.head.married tk = false then some tk else none
    | none => none := by
  rw [enteringBook]
  cases carried : s.press.carried with
  | none =>
    cases s.tracks.entry <;> simp
  | some t =>
    cases entry : s.tracks.entry with
    | none => simp
    | some e =>
      by_cases same : t = e
      · subst same
        simp
      · simp [same, Ne.symm same]

theorem indexed_eq (m : Nat) (s : State) : indexed m s = endIndex (takeWaiting (carriedOn m s)) := by
  have entering : enteringBook (exitStep (creditStep m s)) = enteringBook s := by
    simp only [enteringBook_eq, exitStep_eq, creditStep_frame]
  rw [indexed, moveStep_eq, entering]
  rfl

theorem carriedOn_parts (m : Nat) (s : State) :
    (carriedOn m s).tracks = { s.tracks with
      jacket := s.tracks.jacket ++ s.press.positions.p6.toList
      entry := if enteringBook s = none then s.tracks.entry else none } ∧
    (carriedOn m s).press = { s.press with positions := s.press.positions.up (enteringBook s) } ∧
    (carriedOn m s).head = s.head ∧ (carriedOn m s).titles = s.titles ∧ (carriedOn m s).params = s.params := by
  cases entering : enteringBook s <;> simp [carriedOn, entering, enterCarried, moveUp, exitStep_eq, Positions.up]

/-! ### The records behind it -/

section Books

variable {s : State} (records : RecordInv s) (places : PlaceInv s) {tk : Ticket} {r : BookRecord} (found : findRecord tk s = some r)

include records places found

theorem stage_of_standing {st : Stage} (notAdmitted : st ≠ .admitted) (notRetiring : st ≠ .retiring) (stands : tk ∈ standing s st) :
    r.stage = st := by
  obtain ⟨r', live, stage⟩ := places.live_of_standing records notAdmitted notRetiring stands
  rw [(liveRecord_iff.1 live).1] at found
  cases found
  exact stage

theorem live_of_standing {st : Stage} (notAdmitted : st ≠ .admitted) (notRetiring : st ≠ .retiring) (stands : tk ∈ standing s st) :
    liveRecord tk s = some r :=
  liveRecord_iff.2 ⟨found, by rw [stage_of_standing records places found notAdmitted notRetiring stands]; exact notRetiring⟩

end Books

theorem enteringBook_entry {s : State} {tk : Ticket} (enters : enteringBook s = some tk) : s.tracks.entry = some tk := by
  rw [enteringBook_eq] at enters
  cases entry : s.tracks.entry with
  | none =>
    rw [entry] at enters
    cases enters
  | some e =>
    simp only [entry] at enters
    split at enters
    · exact enters
    · cases enters

theorem enterCarried_other {c : Option Ticket} {tk : Ticket} (other : c ≠ some tk) (s : State) :
    findRecord tk (enterCarried c s) = findRecord tk s := by
  cases c with
  | none => rfl
  | some e =>
    exact (findRecord_changeRecord_other enterBook (fun _ => rfl) fun same => other (congrArg some same.symm)).trans rfl

/-- R6: the books that move up are different ones, and none of them is the book that leaves. -/
theorem PlaceInv.lower_once {s : State} (places : PlaceInv s) : { s.press.positions with p6 := none }.tickets.Nodup ∧
    ∀ tk, s.press.positions.p6 = some tk → some tk ∉ [s.press.positions.p1, s.press.positions.p2, s.press.positions.p3,
      s.press.positions.p4, s.press.positions.p5] := by
  have once : s.press.positions.tickets.Nodup := places.once .press
  rw [Positions.tickets_split, List.nodup_append] at once
  obtain ⟨lower, -, apart⟩ := once
  exact ⟨lower, fun tk exit low => apart tk (Positions.mem_lower.2 low) tk (by simp [exit]) rfl⟩

theorem exitBook_ticket (r : BookRecord) : (exitBook r).ticket = r.ticket := rfl

/-- R112, R113: the record of a book credited that leaves the press. -/
theorem exitBook_credited (m f : Nat) (r : BookRecord) : exitBook (creditBook m f r) = { r with
    stage := .jacket, position := none, eff := some (credited m f (r.eff.getD 0))
    flags := if credited m f (r.eff.getD 0) < r.dwell.getD 0 then addFlag .shortDwell r.flags else r.flags } := by
  have short : shortOfDwell (creditBook m f r) = decide (credited m f (r.eff.getD 0) < r.dwell.getD 0) := rfl
  simp only [exitBook, short, decide_eq_true_eq]
  rfl

section Moves

variable {m : Nat} {s : State} {tk : Ticket}

/-- R112: a book that does not stand in the press is not credited. -/
theorem creditStep_other (away : tk ∉ s.press.positions.tickets) : findRecord tk (creditStep m s) = findRecord tk s :=
  changeEach_findRecord_other (f := creditBook m (factor s)) (fun _ => rfl) away

theorem exitStep_other (stays : s.press.positions.p6 ≠ some tk) : findRecord tk (exitStep s) = findRecord tk s := by
  have away : tk ∉ s.press.positions.p6.toList := by simpa using stays
  rw [exitStep_eq]
  exact changeEach_findRecord_other exitBook_ticket away

theorem carriedOn_unmoved (stays : some tk ∉ [s.press.positions.p1, s.press.positions.p2, s.press.positions.p3, s.press.positions.p4,
    s.press.positions.p5]) (other : enteringBook s ≠ some tk) :
    findRecord tk (carriedOn m s) = findRecord tk (exitStep (creditStep m s)) := by
  have lower : (exitStep (creditStep m s)).press.positions = { s.press.positions with p6 := none } := by simp [exitStep_eq]
  have away : tk ∉ (exitStep (creditStep m s)).press.positions.tickets := by
    rw [lower]
    exact fun mem => stays (Positions.mem_lower.1 mem)
  rw [carriedOn, enterCarried_other other]
  exact changeEach_findRecord_other (f := moveBook) (fun _ => rfl) away

/-- R114: a book that stands nowhere on the way of the carrier keeps its record. -/
theorem carriedOn_away (away : tk ∉ s.press.positions.tickets) (other : enteringBook s ≠ some tk) :
    findRecord tk (carriedOn m s) = findRecord tk s := by
  rw [Positions.tickets_split, List.mem_append, Positions.mem_lower, not_or] at away
  have exit : (creditStep m s).press.positions.p6 ≠ some tk := by simpa using away.2
  have whole : tk ∉ s.press.positions.tickets := by
    rw [Positions.tickets_split, List.mem_append, Positions.mem_lower, not_or]
    exact away
  rw [carriedOn_unmoved away.1 other, exitStep_other exit, creditStep_other whole]

variable (records : RecordInv s) (places : PlaceInv s) {r : BookRecord} (found : findRecord tk s = some r)

include records places found

/-- R112: a book in the press is credited. -/
theorem creditStep_credits (stands : tk ∈ s.press.positions.tickets) :
    findRecord tk (creditStep m s) = some (creditBook m (factor s) r) ∧ r.stage = .press ∧ enteringBook s ≠ some tk := by
  have pressed := stage_of_standing records places found (st := .press) nofun nofun stands
  refine ⟨changeEach_findRecord_same (f := creditBook m (factor s)) (fun _ => rfl) (places.once .press) stands
    (live_of_standing records places found (st := .press) nofun nofun stands), pressed, fun enters => ?_⟩
  have entry := stage_of_standing records places found (st := .entry) nofun nofun (by simp [standing, enteringBook_entry enters])
  rw [pressed] at entry
  cases entry

/-- R113: the book at position 6 leaves. -/
theorem carriedOn_exits (exit : s.press.positions.p6 = some tk) :
    findRecord tk (carriedOn m s) = some (exitBook (creditBook m (factor s) r)) := by
  have stands : tk ∈ s.press.positions.tickets := by
    rw [Positions.tickets_split]
    simp [exit]
  have stays := places.lower_once.2 tk exit
  obtain ⟨credited, pressed, other⟩ := creditStep_credits (m := m) records places found stands
  have live : liveRecord tk (creditStep m s) = some (creditBook m (factor s) r) :=
    liveRecord_iff.2 ⟨credited, by rw [show (creditBook m (factor s) r).stage = .press from pressed]; nofun⟩
  rw [carriedOn_unmoved stays other, exitStep_eq]
  exact changeEach_findRecord_same (f := exitBook) exitBook_ticket (by simp [exit]) (by simp [exit]) live

/-- R114: a book at another position moves up. -/
theorem carriedOn_moves (stands : some tk ∈ [s.press.positions.p1, s.press.positions.p2, s.press.positions.p3,
    s.press.positions.p4, s.press.positions.p5]) :
    findRecord tk (carriedOn m s) = some (moveBook (creditBook m (factor s) r)) := by
  have low := Positions.mem_lower.2 stands
  have stays : s.press.positions.p6 ≠ some tk := fun exit => places.lower_once.2 tk exit stands
  have inPress : tk ∈ s.press.positions.tickets := by
    rw [Positions.tickets_split]
    exact List.mem_append_left _ low
  obtain ⟨credited, pressed, other⟩ := creditStep_credits (m := m) records places found inPress
  have lower : (exitStep (creditStep m s)).press.positions = { s.press.positions with p6 := none } := by simp [exitStep_eq]
  have live : liveRecord tk (exitStep (creditStep m s)) = some (creditBook m (factor s) r) :=
    liveRecord_iff.2 ⟨(exitStep_other (by simpa using stays)).trans credited,
      by rw [show (creditBook m (factor s) r).stage = .press from pressed]; nofun⟩
  rw [carriedOn, enterCarried_other other]
  exact changeEach_findRecord_same (f := moveBook) (fun _ => rfl) (by rw [lower]; exact places.lower_once.1)
    (by rw [lower]; exact low) live

theorem carriedOn_enters (enters : enteringBook s = some tk) : findRecord tk (carriedOn m s) = some (enterBook r) := by
  have entry := stage_of_standing records places found (st := .entry) nofun nofun (by simp [standing, enteringBook_entry enters])
  have away : tk ∉ s.press.positions.tickets := fun stands => by
    rw [stage_of_standing records places found (st := .press) nofun nofun stands] at entry
    cases entry
  have away' := away
  rw [Positions.tickets_split, List.mem_append, Positions.mem_lower, not_or] at away'
  obtain ⟨low, exit⟩ := away'
  have lower : (exitStep (creditStep m s)).press.positions = { s.press.positions with p6 := none } := by simp [exitStep_eq]
  let moved := changeEach (exitStep (creditStep m s)).press.positions.tickets moveBook (exitStep (creditStep m s))
  have kept : findRecord tk moved = some r := by
    have unmoved : findRecord tk moved = findRecord tk (exitStep (creditStep m s)) :=
      changeEach_findRecord_other (f := moveBook) (fun _ => rfl) (by rw [lower]; exact fun mem => low (Positions.mem_lower.1 mem))
    rw [unmoved, exitStep_other (by simpa using exit), creditStep_other away, found]
  have live : liveRecord tk moved = some r := liveRecord_iff.2 ⟨kept, by rw [entry]; nofun⟩
  rw [carriedOn, enters]
  exact findRecord_changeRecord_same enterBook (show r.ticket = tk from liveRecord_ticket live) ((liveRecord_congr rfl).trans live)

end Moves

/-! ### The waiting marriage behind it (R54) -/

section Waiting

variable {s : State} (places : PlaceInv s) (m : Nat)

include places

/-- R54: with no book let in, or none waiting, no marriage follows. -/
theorem indexed_quiet (quiet : s.tracks.waitingMarriage = none ∨ enteringBook s = none) : indexed m s = endIndex (carriedOn m s) := by
  obtain ⟨tracks, -, -⟩ := carriedOn_parts m s
  rw [indexed_eq]
  cases waits : s.tracks.waitingMarriage with
  | none => rw [takeWaiting_none (by rw [tracks]; exact waits)]
  | some tk =>
    have none := quiet.resolve_left (by rw [waits]; nofun)
    have occupied : s.tracks.entry ≠ .none := Option.isSome_iff_ne_none.1 (places.waiting tk waits).1
    rw [takeWaiting_occupied (by rw [tracks]; simpa [none] using occupied)]

/-- R54: the waiting marriage takes the place of the book let in. -/
theorem indexed_marries {tk : Ticket} (waits : s.tracks.waitingMarriage = some tk) (enters : enteringBook s ≠ none) :
    ∃ l, s.head = .pasting tk l ∧ indexed m s = endIndex (takeMarriage tk l (carriedOn m s)) := by
  obtain ⟨tracks, -, head, -⟩ := carriedOn_parts m s
  obtain ⟨l, pasting⟩ := (places.waiting tk waits).2
  refine ⟨l, pasting, ?_⟩
  have empty : (carriedOn m s).tracks.entry = none := by simp [tracks, enters]
  rw [indexed_eq, takeWaiting, if_pos empty, head, pasting]
  exact congrArg endIndex (if_pos (by rw [tracks]; exact waits))

end Waiting

theorem indexed_press (m : Nat) (s : State) : (indexed m s).press = { s.press with
    positions := s.press.positions.up (enteringBook s), index := .clamp, carried := none } := by
  obtain ⟨-, press, -⟩ := carriedOn_parts m s
  have kept : (takeWaiting (carriedOn m s)).press = (carriedOn m s).press := by simp
  rw [indexed_eq, endIndex, kept, press]

theorem indexed_frame (m : Nat) (s : State) : (indexed m s).params = s.params ∧ (indexed m s).titles = s.titles := by
  rw [indexed_relocated m s]
  exact ⟨rfl, rfl⟩

section Marries

variable {s : State} (places : PlaceInv s) (m : Nat)

include places

theorem indexed_tracks : (indexed m s).tracks.jacket = s.tracks.jacket ++ s.press.positions.p6.toList ∧
    (indexed m s).tracks.delivery = s.tracks.delivery ∧ (indexed m s).tracks.infeed = s.tracks.infeed ∧
    (indexed m s).tracks.gateHold = s.tracks.gateHold := by
  obtain ⟨tracks, -⟩ := carriedOn_parts m s
  by_cases quiet : s.tracks.waitingMarriage = none ∨ enteringBook s = none
  · rw [indexed_quiet places m quiet]
    simp [tracks]
  · rw [not_or] at quiet
    obtain ⟨tk, waits⟩ := Option.ne_none_iff_exists'.1 quiet.1
    obtain ⟨l, -, marries⟩ := indexed_marries places m waits quiet.2
    rw [marries]
    simp [takeMarriage, tracks]

variable (records : RecordInv s) {tk : Ticket} {r : BookRecord} (found : findRecord tk s = some r)

include records found

/-- R54: a book that is not at the head is not married. -/
theorem indexed_unmarried (stage : r.stage ≠ .head) : findRecord tk (indexed m s) = findRecord tk (carriedOn m s) := by
  by_cases quiet : s.tracks.waitingMarriage = none ∨ enteringBook s = none
  · rw [indexed_quiet places m quiet]
    exact findRecord_congr (by simp)
  · rw [not_or] at quiet
    obtain ⟨u, waits⟩ := Option.ne_none_iff_exists'.1 quiet.1
    obtain ⟨l, pasting, marries⟩ := indexed_marries places m waits quiet.2
    have apart : tk ≠ u := by
      rintro rfl
      exact stage (stage_of_standing records places found (st := .head) nofun nofun (by simp [standing, pasting]))
    have married : findRecord tk (takeMarriage u l (carriedOn m s)) = findRecord tk (carriedOn m s) :=
      (findRecord_congr (by simp [takeMarriage])).trans (findRecord_changeRecord_other (fixDwell (carriedOn m s)) (fun r => by
        unfold fixDwell
        split <;> rfl) apart)
    rw [marries]
    exact (findRecord_congr (by simp)).trans married

/-- R54, R104 to R106: the waiting marriage taken fixes the D0 and the setpoint of its book. -/
theorem indexed_married (waits : s.tracks.waitingMarriage = some tk) (enters : enteringBook s ≠ none) :
    findRecord tk (indexed m s) = some (fixDwell s r) := by
  obtain ⟨-, -, -, titles, params⟩ := carriedOn_parts m s
  obtain ⟨l, pasting, marries⟩ := indexed_marries places m waits enters
  have stage := stage_of_standing records places found (st := .head) nofun nofun (by simp [standing, pasting])
  have away : tk ∉ s.press.positions.tickets := fun stands => by
    rw [stage_of_standing records places found (st := .press) nofun nofun stands] at stage
    cases stage
  have other : enteringBook s ≠ some tk := fun enters => by
    rw [stage_of_standing records places found (st := .entry) nofun nofun (by simp [standing, enteringBook_entry enters])] at stage
    cases stage
  have live : liveRecord tk (carriedOn m s) = some r :=
    liveRecord_iff.2 ⟨(carriedOn_away away other).trans found, by rw [stage]; nofun⟩
  have fixed : fixDwell (carriedOn m s) r = fixDwell s r := by
    simp only [fixDwell, paramsOf, titleEntry_of_titles titles, params]
  have ticket : (fixDwell (carriedOn m s) r).ticket = tk := by
    rw [← liveRecord_ticket live]
    unfold fixDwell
    split <;> rfl
  have married := findRecord_changeRecord_same (fixDwell (carriedOn m s)) ticket live
  rw [marries, ← fixed, ← married]
  exact findRecord_congr (by simp [takeMarriage])

end Marries

/-! ### The pace and the line behind it -/

theorem targetPitch_congr {s u : State} (pd : u.press.pd = s.press.pd) (floors : u.pace.floors = s.pace.floors)
    (params : u.params = s.params) : targetPitch u = targetPitch s ∧ decidingSource u = decidingSource s := by
  have same : demands u = demands s := by simp only [demands, pd, floors]
  have target : targetPitch u = targetPitch s := by simp only [targetPitch, largestDemand, same, params]
  refine ⟨target, ?_⟩
  rw [decidingSource, decidingSource, target, largestDemand, largestDemand, same, params]

/-- R128, R130: a recompute stores the target and its deciding source. -/
theorem recomputePitch_target (s : State) : (recomputePitch s).pace.target = some (targetPitch s, decidingSource s) := by
  unfold recomputePitch
  dsimp only
  split <;> simp

@[simp] theorem stoppedLine_frame (c : Cause) (s : State) :
    (stoppedLine c s).retiring = s.retiring ∧ (stoppedLine c s).titles = s.titles ∧ (stoppedLine c s).pendingTitles = s.pendingTitles ∧
    (stoppedLine c s).readers = s.readers ∧ (stoppedLine c s).lanes = s.lanes ∧ (stoppedLine c s).marriageTimer = s.marriageTimer ∧
    (stoppedLine c s).pace = s.pace ∧ (stoppedLine c s).jackets = s.jackets ∧ (stoppedLine c s).params = s.params ∧
    (stoppedLine c s).ports = s.ports := by
  simp [stoppedLine]

@[simp] theorem closedLine_frame (pastes empty : Bool) (s : State) :
    (closedLine pastes empty s).retiring = s.retiring ∧ (closedLine pastes empty s).titles = s.titles ∧
    (closedLine pastes empty s).pendingTitles = s.pendingTitles ∧ (closedLine pastes empty s).readers = s.readers ∧
    (closedLine pastes empty s).lanes = s.lanes ∧ (closedLine pastes empty s).marriageTimer = s.marriageTimer ∧
    (closedLine pastes empty s).pace = s.pace ∧ (closedLine pastes empty s).jackets = s.jackets ∧
    (closedLine pastes empty s).params = s.params ∧ (closedLine pastes empty s).ports = s.ports := by
  unfold closedLine
  repeat' split
  all_goals simp

@[simp] theorem closedLine_requests (pastes empty : Bool) (s : State) :
    (closedLine pastes empty s).link.assembly = s.link.assembly ∧ (closedLine pastes empty s).link.requests = s.link.requests ∧
    (closedLine pastes empty s).link.answers = s.link.answers ∧ (closedLine pastes empty s).link.refusal = s.link.refusal ∧
    (closedLine pastes empty s).link.overrun = s.link.overrun ∧
    (closedLine pastes empty s).link.nextArrival = s.link.nextArrival := by
  unfold closedLine
  repeat' split
  all_goals simp [stoppedLine]

/-- R133, R134: the early index check, and the pace recomputed behind it. -/
theorem pacedAfter_eq (cycle pd : Nat) (s : State) : pacedAfter cycle pd s =
    recomputePitch { (match s.pace.inForce with
      | some f => if cycle * 100 < f * 95 then produce (.paceFault cycle f) s else s
      | none => s) with
      press := { s.press with pd := pd }, pace := { s.pace with inForce := some s.pace.commanded } } := by
  rw [pacedAfter, checkEarlyIndex]
  cases s.pace.inForce with
  | none => rfl
  | some f =>
    by_cases early : cycle * 100 < f * 95
    · simp only [indexEarly, early, decide_true, if_true, produce_eq]
    · simp only [indexEarly, early, decide_false, Bool.false_eq_true, if_false]

theorem pacedAfter_pace (cycle pd : Nat) (s : State) :
    let paced := pacedAfter cycle pd s
    paced.pace.inForce = some s.pace.commanded ∧ paced.pace.floors = s.pace.floors ∧
      paced.pace.target = some (targetPitch paced, decidingSource paced) ∧ paced.press.pd = pd := by
  intro paced
  have pace := pacedAfter_eq cycle pd s
  obtain ⟨target, source⟩ := targetPitch_congr (u := paced) (s := { checkEarlyIndex cycle s with press := { s.press with pd := pd } })
    (by simp [paced, pacedAfter]) (by simp [paced, pacedAfter]) (by simp [paced, pacedAfter])
  refine ⟨by simp only [paced, pace, recomputePitch_keeps], by simp only [paced, pace, recomputePitch_keeps], ?_,
    by simp only [paced, pace, recomputePitch_frame]⟩
  rw [target, source]
  exact recomputePitch_target _

theorem pacedAfter_frame (cycle pd : Nat) (s : State) :
    let paced := pacedAfter cycle pd s
    paced.line = s.line ∧ paced.lanes = s.lanes ∧ paced.marriageTimer = s.marriageTimer ∧ paced.jackets = s.jackets ∧
      paced.params = s.params ∧ paced.readers = s.readers ∧ paced.retiring = s.retiring ∧ paced.titles = s.titles ∧
      paced.pendingTitles = s.pendingTitles ∧ paced.ports = s.ports ∧ paced.link.assembly = s.link.assembly ∧
      paced.link.requests = s.link.requests ∧ paced.link.answers = s.link.answers ∧ paced.link.refusal = s.link.refusal ∧
      paced.link.overrun = s.link.overrun ∧ paced.link.nextArrival = s.link.nextArrival := by
  simp [pacedAfter]

/-- Settles O50: what an INDEX_DONE makes of the books, the pace and the line, and the arithmetic of PD. -/
theorem indexDoneCompletesTheIndex : Obligations.IndexDoneCompletesTheIndex := by
  refine ⟨fun m cycle s listens => ?_, fun s => ?_⟩
  · let s0 : State := { s with out := [], sentFrame := [] }
    have taken : exec (.indexDone m cycle) s = .next (noteSending (takeIndexDone m.toNat cycle.toNat s0)) := takeMessage_listens listens _
    refine ⟨fun still => ?_, fun moving records places => ?_⟩
    · rw [taken, takeIndexDone, if_neg (by exact still)]
    intro p enters credit
    have records0 : RecordInv s0 := records.congr rfl rfl
    have places0 : PlaceInv s0 := places.congr rfl rfl rfl rfl rfl rfl
    have entering : enteringBook s0 = enters := enteringBook_eq
    let w := indexed m.toNat s0
    let paced := pacedAfter cycle.toNat (pressDemand w) s0
    let y := relocate w.records w.tracks w.head { w.press with pd := pressDemand w } paced
    let c := closedLine w.head.pastes (lineEmpty y) paced
    let z := relocate w.records w.tracks w.head { w.press with pd := pressDemand w } c
    let t := noteSending (idleRefresh z)
    have press := indexed_press m.toNat s0
    have runs : exec (.indexDone m cycle) s = .next t := by
      have clamp : y.press.index ≠ .moving := by
        rw [show y.press.index = w.press.index from rfl, press]
        nofun
      rw [taken, takeIndexDone, if_pos (by exact moving)]
      refine congrArg (fun u => Host.Outcome.next (noteSending u)) ?_
      have closed : settleLine (softStopTest y) = idleRefresh z :=
        (settle_softStop clamp).trans (congrArg idleRefresh closedLine_relocate)
      rw [← closed]
      exact congrArg (fun u => settleLine (softStopTest u)) (recompute_indexed m.toNat cycle.toNat s0)
    obtain ⟨inForce, floors, target, pd⟩ := pacedAfter_pace cycle.toNat (pressDemand w) s0
    obtain ⟨line, lanes, timer, jackets, params, readers, retiring, titles, pendingTitles, ports, assembly, requests, answers, refusal,
      overrun, arrival⟩ := pacedAfter_frame cycle.toNat (pressDemand w) s0
    obtain ⟨wParams, wTitles⟩ := indexed_frame m.toNat s0
    have tRecords : t.records = w.records := by simp [t, z, relocate]
    have tTracks : t.tracks = w.tracks := by simp [t, z, relocate]
    have tHead : t.head = w.head := by simp [t, z, relocate]
    have tParams : t.params = s.params := by
      simp [t, z, relocate, c, paced, params]
      rfl
    have tPace : t.pace = paced.pace := by simp [t, z, relocate, c]
    let timerAfter : Option Nat := if idleRuns z then some (s.press.idleTimer.getD (s.params.idleTime * 60000)) else none
    have tPress : t.press = { s.press with
        positions := ⟨enters, p.p1, p.p2, p.p3, p.p4, p.p5⟩, index := .clamp, carried := none, pd := pressDemand w
        idleTimer := timerAfter } := by
      have idle : c.params.idleTime = s.params.idleTime := by simp [c, paced, params, s0]
      simp [t, z, relocate, idleRefresh, w, press, ← entering, Positions.up, timerAfter, idle, p, s0]
    have demand : pressDemand t = pressDemand w :=
      pressDemand_congr tRecords tTracks (by simp [tPress, w, press, ← entering, Positions.up, p, s0])
        (by simp [tPress, w, press, s0]) (by rw [tParams, wParams])
    have runsIdle : idleRuns t = idleRuns z :=
      idleRuns_congr (by simp [t, idleRefresh]) (by simp [t, idleRefresh]) (by simp [t]) (by simp [t]) (by simp [t])
    have emptyLine : lineEmpty t = lineEmpty y := by
      simp only [lineEmpty, tTracks, tHead, tPress, y, relocate, w, press, Positions.up, entering]
      rfl
    obtain ⟨jacket, delivery, infeed, gateHold⟩ := indexed_tracks places0 m.toNat
    obtain ⟨tTarget, tSource⟩ := targetPitch_congr (s := paced) (u := t) (by rw [tPress, pd]) (by rw [tPace])
      (by rw [tParams, params])
    have same (tk : Ticket) : findRecord tk t = findRecord tk w := findRecord_congr tRecords
    refine ⟨t, runs, ?_, ?_, ?_, ?_, ?_, ?_, ?_, ?_, ?_, ?_, ?_, ?_, ?_, ?_, ?_, ?_, ?_, ?_, ?_, ?_, ?_, ?_, ?_, ?_⟩
    · rw [tPress, demand, runsIdle]
    · rw [tPace, inForce]
    · rw [tPace, floors]
    · rw [tPace, target, tTarget, tSource]
    · rw [tTracks, jacket]
    · rw [tTracks, delivery]
    · rw [tTracks, infeed]
    · rw [tTracks, gateHold]
    · intro tk r exit found
      have stage := stage_of_standing records places found (st := .press) nofun nofun
        (by simp [standing, Positions.tickets_split p, p, exit])
      rw [same, indexed_unmarried places0 _ records0 found (by rw [stage]; nofun), carriedOn_exits records0 places0 found exit]
      exact congrArg some (exitBook_credited _ _ _)
    · intro tk r stands found
      have inPress : tk ∈ p.tickets := by
        rw [Positions.tickets_split]
        exact List.mem_append_left _ (Positions.mem_lower.2 stands)
      have stage := stage_of_standing records places found (st := .press) nofun nofun inPress
      rw [same, indexed_unmarried places0 _ records0 found (by rw [stage]; nofun), carriedOn_moves records0 places0 found stands]
      rfl
    · intro tk r enter found
      have entered := entering.trans enter
      have stage := stage_of_standing records0 places0 found (st := .entry) nofun nofun
        (by simp [standing, enteringBook_entry entered])
      rw [same, indexed_unmarried places0 _ records0 found (by rw [stage]; nofun), carriedOn_enters records0 places0 found entered]
      rfl
    · intro tk r found pressed entered headed
      rw [same, indexed_unmarried places0 _ records0 found headed, carriedOn_away, ← found]
      · rfl
      · exact fun stands => pressed (stage_of_standing records0 places0 found (st := .press) nofun nofun stands)
      · exact fun enters => entered (stage_of_standing records0 places0 found (st := .entry) nofun nofun
          (by simp [standing, enteringBook_entry enters]))
    · intro tk waits enter
      have enter' : enteringBook s0 ≠ none := by rw [entering]; exact enter
      obtain ⟨l, -, marries⟩ := indexed_marries places0 m.toNat waits enter'
      refine ⟨?_, ?_, ⟨l, ?_⟩, fun r b found params dwell force => ?_⟩
      · rw [tTracks]
        simp only [w, marries]
        rfl
      · rw [tTracks]
        simp only [w, marries]
        rfl
      · rw [tHead]
        simp only [w, marries]
        rfl
      · rw [same, indexed_married places0 _ records0 found waits enter', fixDwell_new (by exact params) dwell force]
    · intro quiet
      have quiet' : s0.tracks.waitingMarriage = none ∨ enteringBook s0 = none := by rw [entering]; exact quiet
      have rests := indexed_quiet places0 m.toNat quiet'
      obtain ⟨tracks, -, head, -⟩ := carriedOn_parts m.toNat s0
      refine ⟨?_, ?_⟩
      · rw [tHead]
        simp only [w, rests]
        exact head
      · rw [tTracks]
        simp only [w, rests, endIndex_frame, tracks, entering]
        rfl
    · intro begun checked paced' pastes stands closed
      have same : closed = c := by
        have paces : paced' = paced := by
          simp only [paced, pacedAfter_eq, paced', demand] <;> rfl
        have stop (k : Cause) : stands k = stoppedLine k paced := by
          simp only [stands, stoppedLine, paces]
        have pasting : pastes = w.head.pastes := by
          simp only [pastes, tHead]
          rfl
        have state : paced.line.state = s.line.state := by rw [show paced.line = s0.line from line]
        simp only [closed, stop, pasting, emptyLine, paces, c, closedLine, state]
      rw [same]
      refine ⟨by simp [SamePace, tPace, c], ?_, by simp [t, z, relocate], by simp [t, z, relocate], by simp [t, z, relocate]⟩
      simp [SameNotices, t, z, relocate]
    · simp [t, z, relocate, c, paced, lanes, s0]
    · simp [t, z, relocate, c, paced, timer, s0]
    · simp [t, z, relocate, c, paced, jackets, s0]
    · exact tParams
    · simp [t, z, relocate, c, paced, readers, s0]
    · simp [t, z, relocate, c, paced, retiring, s0]
    · simp [SameTitles, t, z, relocate, c, paced, titles, pendingTitles, s0]
    · simp [SameRequests, t, z, relocate, c, paced, assembly, requests, answers, refusal, overrun, arrival, s0]
    · simp [t, z, relocate, c, paced, ports, s0]
  · intro p demand
    refine ⟨fun cold => ?_, fun v warm => ?_, ?_⟩
    · rw [factor, cold]
      rfl
    · have cases := tempFactor_cases s.params.tRef v
      rw [factor, warm]
      exact cases
    · have share (r : Nat) (place : Option Ticket) (periods : 1 ≤ r) : placeDemand s r place = demand r place :=
        (placeDemand_eq s place periods).trans rfl
      rw [pressDemand_eq_max, share 6 _ (by omega), share 6 _ (by omega), share 5 _ (by omega), share 4 _ (by omega),
        share 3 _ (by omega), share 2 _ (by omega), share 1 _ (by omega)]

end Sys2Proof.Machine
end

section
/-! What the work at the head leaves of the rest of the line: the arrival of a waiting block, the lane decision and the release check
(R60, R66, R76, R79 to R82). -/

namespace Sys2Proof.Machine

/-- The commands that the work at the head sends. -/
def PortCommand.atHead : PortCommand → Bool
  | .s1Admit | .s2Purge _ | .s3TakeCase _ | .s3Eject => true
  | _ => false

/-- From `s` to `u` the head has worked: its own commands have gone out, notices have only joined the queue, the press keeps all but
its books, no INITIAL purge has been touched, and no reading has become unresolved or been cleared. -/
structure HeadWork (s u : State) : Prop where
  out : ∃ cs, u.out = s.out ++ cs ∧ ∀ c ∈ cs, c.atHead = true
  drive : u.drive = s.drive
  line : u.line = s.line
  notices : s.link.notices <+: u.link.notices
  held : u.link.held = s.link.held
  press : u.press = { s.press with positions := u.press.positions }
  initial : ∀ l n, s.lanes.get l = .purging .initial none n → u.lanes.get l = s.lanes.get l
  pastInitial : ∀ l, (s.lanes.get l).pastInitial = true → (u.lanes.get l).pastInitial = true
  gate : s.tracks.gateHold = none → u.tracks.gateHold = none
  unresolved : ∀ i, (u.readers.get i).unresolved = (s.readers.get i).unresolved

/-- R82: the lane chosen has stock. -/
theorem purgeChoice_stock {s : State} {l : LaneId} (choice : purgeChoice s = some l) : (s.lanes.get l).stockKey ≠ none := by
  rw [purgeChoice] at choice
  cases a : s.lanes.a.stockKey with
  | none =>
    cases b : s.lanes.b.stockKey with
    | none => simp [a, b] at choice
    | some kb =>
      simp only [a, b, Option.some.injEq] at choice
      subst choice
      simp [Lanes.get, b]
  | some ka =>
    cases b : s.lanes.b.stockKey with
    | none =>
      simp only [a, b, Option.some.injEq] at choice
      subst choice
      simp [Lanes.get, a]
    | some kb => cases l <;> simp [Lanes.get, a, b]

namespace HeadWork

variable {s u v : State}

theorem refl (s : State) : HeadWork s s where
  out := ⟨[], by simp, by simp⟩
  drive := rfl
  line := rfl
  notices := List.prefix_rfl
  held := rfl
  press := rfl
  initial _ _ _ := rfl
  pastInitial _ := id
  gate := id
  unresolved _ := rfl

theorem trans (h : HeadWork s u) (h' : HeadWork u v) : HeadWork s v where
  out := by
    obtain ⟨cs, out, own⟩ := h.out
    obtain ⟨cs', out', own'⟩ := h'.out
    refine ⟨cs ++ cs', by rw [out', out, List.append_assoc], fun c mem => ?_⟩
    exact (List.mem_append.1 mem).elim (own c) (own' c)
  drive := h'.drive.trans h.drive
  line := h'.line.trans h.line
  notices := h.notices.trans h'.notices
  held := h'.held.trans h.held
  press := by rw [h'.press, h.press]
  initial l n purging := (h'.initial l n ((h.initial l n purging).trans purging)).trans (h.initial l n purging)
  pastInitial l past := h'.pastInitial l (h.pastInitial l past)
  gate none := h'.gate (h.gate none)
  unresolved i := (h'.unresolved i).trans (h.unresolved i)

/-- What changes nothing that the rest of the line reads. -/
theorem quiet (out : u.out = s.out) (drive : u.drive = s.drive) (line : u.line = s.line) (link : u.link = s.link)
    (press : u.press = s.press) (lanes : u.lanes = s.lanes) (gate : u.tracks.gateHold = s.tracks.gateHold)
    (readers : ∀ i, (u.readers.get i).unresolved = (s.readers.get i).unresolved) : HeadWork s u where
  out := ⟨[], by simp [out], by simp⟩
  drive := drive
  line := line
  notices := by rw [link]
  held := by rw [link]
  press := by rw [press]
  initial _ _ _ := by rw [lanes]
  pastInitial _ := by rw [lanes]; exact id
  gate := by rw [gate]; exact id
  unresolved := readers

theorem send {c : PortCommand} (own : c.atHead = true) (s : State) : HeadWork s (send c s) := by
  have station : c.toDrive = false := by cases c <;> first | rfl | cases own
  have sent : Machine.send c s = { s with out := s.out ++ [c] } := send_now (.inl station)
  exact { refl s with
    out := ⟨[c], by rw [sent], by simpa using own⟩
    drive := by rw [sent]
    line := by rw [sent]
    notices := by rw [sent]
    held := by rw [sent]
    press := by rw [sent]
    initial := by rw [sent]; exact fun _ _ _ => rfl
    pastInitial := by rw [sent]; exact fun _ => id
    gate := by rw [sent]; exact id
    unresolved := by rw [sent]; exact fun _ => rfl }

theorem changeRecord (t : Ticket) (f : BookRecord → BookRecord) (s : State) : HeadWork s (changeRecord t f s) := by
  rw [changeRecord_eq]
  exact quiet rfl rfl rfl rfl rfl rfl rfl fun _ => rfl

theorem control (h : Head) (m : Option Nat) (n : Nat) (s : State) :
    HeadWork s { s with head := h, marriageTimer := m, openChoices := n } := quiet rfl rfl rfl rfl rfl rfl rfl fun _ => rfl

/-- A lane that is not purged INITIAL may change to one that is past it. -/
theorem setLane {l : LaneId} {x : Lane} (free : ∀ n, s.lanes.get l ≠ .purging .initial none n) (past : x.pastInitial = true) :
    HeadWork s (setLane l x s) where
  out := ⟨[], by simp [Machine.setLane], by simp⟩
  drive := rfl
  line := rfl
  notices := List.prefix_rfl
  held := rfl
  press := rfl
  initial m n purging := Lanes.get_put_other (fun same => free n (by rw [← same]; exact purging)) x s.lanes
  pastInitial m was := by
    by_cases same : m = l
    · subst same
      rw [show (Machine.setLane m x s).lanes.get m = x from Lanes.get_put_same m x s.lanes]
      exact past
    · rw [show (Machine.setLane l x s).lanes.get m = s.lanes.get m from Lanes.get_put_other same x s.lanes]
      exact was
  gate := id
  unresolved _ := rfl

theorem offerRetired (t : Ticket) (s : State) : HeadWork s (offerRetired t s) where
  out := ⟨[], by simp, by simp⟩
  drive := by simp
  line := by simp
  notices := by
    unfold Machine.offerRetired
    split
    · simp
    · exact List.prefix_rfl
  held := by
    unfold Machine.offerRetired
    split
    · simp [enqueueNotice]
    · rfl
  press := by simp
  initial _ _ _ := by simp
  pastInitial _ := by simp
  gate := by simp
  unresolved _ := by simp

theorem offerAll (ts : List Ticket) (s : State) : HeadWork s (offerAll ts s) := by
  induction ts generalizing s with
  | nil => exact refl s
  | cons t ts ih =>
    unfold Machine.offerAll
    split
    · exact (offerRetired t s).trans (ih _)
    · exact refl s

theorem enterRetiring (t : Ticket) (o : BookOutcome) (e : Option Reason) (s : State) : HeadWork s (enterRetiring t o e s) := by
  cases live : liveRecord t s with
  | none =>
    rw [enterRetiring_absent live]
    exact refl s
  | some r =>
    obtain ⟨-, -, -, tracks, readers, press⟩ := enterRetiring_live live o e
    exact
      { out := ⟨[], by simp, by simp⟩
        drive := by simp
        line := by simp
        notices := by simp
        held := by simp
        press := by simp [press]
        initial := by simp
        pastInitial := by simp
        gate := fun none => by rw [tracks]; exact dropTicket_none none
        unresolved := fun i => by rw [readers]; cases i <;> rfl }

theorem retire (t : Ticket) (o : BookOutcome) (e : Option Reason) (s : State) : HeadWork s (retire t o e s) :=
  (enterRetiring t o e s).trans (offerAll _ _)

theorem releaseLanes (s : State) : HeadWork s (releaseLanes s) := by
  have same (x : Lane) (n : Nat) (purging : x = .purging .initial none n) : releasedLane s x = x := by rw [purging]; rfl
  have past (x : Lane) (was : x.pastInitial = true) : (releasedLane s x).pastInitial = true := by
    cases x with
    | reserved k =>
      simp only [releasedLane]
      split <;> rfl
    | purging kind carried n =>
      cases carried with
      | none => exact was
      | some k =>
        simp only [releasedLane]
        split
        · exact was
        · cases kind with
          | initial => cases was
          | exchange => rfl
    | _ => exact was
  exact { refl s with
    initial := fun l n purging => by cases l <;> exact same _ n purging
    pastInitial := fun l was => by cases l <;> exact past _ was }

theorem startPurge {l : LaneId} {k : TitleKey} (free : ∀ n, s.lanes.get l ≠ .purging .initial none n) :
    HeadWork s (startPurge l .exchange (some k) s) :=
  (send rfl s).trans (setLane (by simpa using free) rfl)

theorem takeCase {t : Ticket} {l : LaneId} {k : TitleKey} {n : Nat} (holding : s.lanes.get l = .holding k n) :
    HeadWork s (takeCase t l k n s) := by
  let v : State := { Machine.changeRecord t (BookRecord.taking l) (Machine.send (.s3TakeCase l) s) with
    marriageTimer := none, head := .pasting t l }
  have sent : HeadWork s v :=
    (send rfl s).trans ((changeRecord t (BookRecord.taking l) _).trans (control (.pasting t l) none _ _))
  have there : v.lanes.get l = .holding k n := by simpa [v] using holding
  have past : (laneAfterTake k n (infeedHas k v)).pastInitial = true := by
    unfold laneAfterTake
    split
    · rfl
    · split <;> rfl
  exact sent.trans ((setLane (by rw [there]; nofun) past).trans (releaseLanes _))

theorem tryTakeCase (s : State) : HeadWork s (tryTakeCase s) := by
  unfold Machine.tryTakeCase
  split
  · split
    · next holding =>
      split
      · exact takeCase holding
      · exact refl s
    · exact refl s
  · exact refl s

theorem laneDecision (t : Ticket) (k : TitleKey) (s : State) : HeadWork s (laneDecision t k s) := by
  have waits (l : Option LaneId) (n : Nat) : HeadWork s { s with head := .waitCase t l, openChoices := n } :=
    control (.waitCase t l) s.marriageTimer n s
  unfold Machine.laneDecision
  split
  · next l _ => exact (waits (some l) s.openChoices).trans (tryTakeCase _)
  · split
    · next l _ => exact waits (some l) s.openChoices
    · split
      · next l empty =>
        have found : s.lanes.get l = .empty := eq_of_beq (Lanes.first_some empty)
        exact (waits (some l) s.openChoices).trans (setLane (by simp [found]) rfl)
      · split
        · next l freed =>
          obtain ⟨n, found⟩ := freedLane_freed freed
          exact (waits (some l) (s.openChoices + 1)).trans (setLane (by simp [found]) (by rw [found]; rfl))
        · split
          · next l choice =>
            have stock : (s.lanes.get l).stockKey ≠ none := purgeChoice_stock choice
            exact (waits (some l) s.openChoices).trans (startPurge fun n purging => stock (by
              rw [show s.lanes.get l = .purging .initial none n from purging]
              rfl))
          · exact waits none s.openChoices

theorem decideAgain (s : State) : HeadWork s (decideAgain s) := by
  unfold Machine.decideAgain
  split
  · split
    · exact laneDecision _ _ s
    · exact refl s
  · exact refl s

theorem releaseCheck (s : State) : HeadWork s (releaseCheck s) := by
  unfold Machine.releaseCheck
  dsimp only
  split
  · exact (releaseLanes s).trans (decideAgain _)
  · exact releaseLanes s

theorem gateTest (s : State) : HeadWork s (gateTest s) := by
  unfold Machine.gateTest
  split
  · next t held =>
    split
    · have staged : HeadWork s (setStage .infeed t (Machine.send .s1Admit s)) := (send rfl s).trans (changeRecord _ _ _)
      exact staged.trans { refl _ with gate := fun _ => rfl }
    · exact refl s
  · exact refl s

theorem leaveInfeed (t : Ticket) (s : State) : HeadWork s (leaveInfeed t s) := by
  have left : HeadWork s { s with tracks := { s.tracks with infeed := s.tracks.infeed.filter fun e => !(e.ticket == t) } } :=
    { refl s with gate := id }
  exact left.trans ((changeRecord _ _ _).trans (gateTest _))

/-- R79: what follows when the block has left the infeed track. -/
theorem arrived (t : Ticket) (s : State) : HeadWork (Machine.leaveInfeed t s) (arrive t s) := by
  unfold Machine.arrive
  dsimp only
  split
  · exact (send rfl _).trans ((retire _ _ _ _).trans (releaseCheck _))
  · split
    · exact refl _
    · next r _ =>
      have started : HeadWork (Machine.leaveInfeed t s) (startWait (Machine.leaveInfeed t s)) := control _ _ _ _
      split
      · exact started.trans ((laneDecision _ _ _).trans (releaseCheck _))
      · have waits : HeadWork (Machine.leaveInfeed t s) { startWait (Machine.leaveInfeed t s) with head := .waitTitle t } :=
          control (.waitTitle t) _ _ _
        exact waits.trans (releaseCheck _)

theorem arrive (t : Ticket) (s : State) : HeadWork s (arrive t s) := (leaveInfeed t s).trans (arrived t s)

theorem actWaitingS3 (s : State) : HeadWork s (actWaitingS3 s) := by
  unfold Machine.actWaitingS3
  split
  · split
    · refine HeadWork.trans ?_ (arrive _ _)
      exact quiet rfl rfl rfl rfl rfl rfl rfl fun i => by cases i <;> rfl
    · exact refl s
  · exact refl s

theorem headGivesUp (t : Ticket) (s : State) : HeadWork s (headGivesUp t s) := by
  unfold Machine.headGivesUp
  split
  · split
    · exact (control .idle s.marriageTimer s.openChoices s).trans (actWaitingS3 _)
    · exact refl s
  · exact refl s

end HeadWork

/-! ### The places that the work at the head leaves alone -/

/-- A ticket that stands neither at the entry place nor in the press, the jacket track or the delivery track. -/
structure Elsewhere (t : Ticket) (s : State) : Prop where
  entry : s.tracks.entry ≠ some t
  press : t ∉ s.press.positions.tickets
  jacket : t ∉ s.tracks.jacket
  delivery : t ∉ s.tracks.delivery

/-- Entry place, press positions, jacket track and delivery track are as they were. -/
structure SameStations (s u : State) : Prop where
  entry : u.tracks.entry = s.tracks.entry
  press : u.press.positions = s.press.positions
  jacket : u.tracks.jacket = s.tracks.jacket
  delivery : u.tracks.delivery = s.tracks.delivery

theorem SameStations.trans {s u v : State} (h : SameStations s u) (h' : SameStations u v) : SameStations s v :=
  ⟨h'.entry.trans h.entry, h'.press.trans h.press, h'.jacket.trans h.jacket, h'.delivery.trans h.delivery⟩

theorem SameStations.of_frame {s u : State} (tracks : u.tracks = s.tracks) (press : u.press = s.press) : SameStations s u := by
  constructor <;> simp only [tracks, press]

theorem Elsewhere.congr {t : Ticket} {s u : State} (h : Elsewhere t s) (same : SameStations s u) : Elsewhere t u := by
  exact ⟨same.entry ▸ h.entry, same.press ▸ h.press, same.jacket ▸ h.jacket, same.delivery ▸ h.delivery⟩

theorem gateTest_stations (s : State) : SameStations s (gateTest s) := by
  unfold gateTest
  split
  · split
    · constructor <;> simp [admitHeld]
    · exact .of_frame rfl rfl
  · exact .of_frame rfl rfl

theorem leaveInfeed_stations (t : Ticket) (s : State) : SameStations s (leaveInfeed t s) := by
  refine SameStations.trans (u := setStage .head t
    { s with tracks := { s.tracks with infeed := s.tracks.infeed.filter fun e => !(e.ticket == t) } }) ?_ (gateTest_stations _)
  constructor <;> simp

theorem filter_away {t : Ticket} {l : List Ticket} (away : t ∉ l) : l.filter (fun x => !(x == t)) = l :=
  List.filter_eq_self.2 fun x mem => by simpa using fun same : x = t => away (same ▸ mem)

theorem retire_stations {t : Ticket} {s : State} (away : Elsewhere t s) (o : BookOutcome) (e : Option Reason) :
    SameStations s (retire t o e s) := by
  cases live : liveRecord t s with
  | none =>
    rw [retire_absent live]
    exact .of_frame (by simp) (by simp)
  | some r =>
    obtain ⟨tracks, -, press⟩ := retire_places live o e
    refine ⟨?_, ?_, ?_, ?_⟩
    · rw [tracks]
      exact dropTicket_of_ne away.entry
    · rw [press]
      exact Positions.drop_of_not_mem away.press
    · rw [tracks]
      exact filter_away away.jacket
    · rw [tracks]
      exact filter_away away.delivery

theorem arrive_stations {t : Ticket} {s : State} (away : Elsewhere t s) : SameStations s (arrive t s) := by
  have left := leaveInfeed_stations t s
  unfold arrive
  dsimp only
  split
  · have sent : SameStations s (send .s3Eject (leaveInfeed t s)) := left.trans (.of_frame (by simp) (by simp))
    exact (sent.trans (retire_stations (away.congr sent) .diverted (some .wrongBlock))).trans (.of_frame (by simp) (by simp))
  · split
    · exact left
    · split
      · exact left.trans (.of_frame (by simp) (by simp))
      · exact left.trans (.of_frame (by simp [startWait]) (by simp [startWait]))

theorem actWaitingS3_stations {s : State} (away : ∀ t, s.readers.s3.waiting = some t → Elsewhere t s) :
    SameStations s (actWaitingS3 s) := by
  unfold actWaitingS3
  split
  · split
    · next t waits =>
      let v : State := { s with readers := { s.readers with s3 := { s.readers.s3 with waiting := none } } }
      have taken : SameStations s v := ⟨rfl, rfl, rfl, rfl⟩
      exact taken.trans (arrive_stations ((away t waits).congr taken))
    · exact .of_frame rfl rfl
  · exact .of_frame rfl rfl

/-- R66: the block that waits at S3 stands in the infeed track. -/
theorem PlaceInv.waiting_elsewhere {s : State} (places : PlaceInv s) (records : RecordInv s) {t : Ticket}
    (waits : s.readers.s3.waiting = some t) : Elsewhere t s ∧ s.tracks.gateHold ≠ some t := by
  obtain ⟨x, first, rfl⟩ := Option.map_eq_some_iff.1 (places.readS3 t waits).2
  obtain ⟨r, live, infeed⟩ := places.live_of_standing records (st := .infeed) nofun nofun
    (t := x.ticket) (List.mem_map_of_mem (List.mem_of_head? first))
  have away {st : Stage} (notAdmitted : st ≠ .admitted) (notRetiring : st ≠ .retiring) (other : st ≠ .infeed) :
      x.ticket ∉ standing s st := fun stands => by
    have stage := Machine.stage_of_standing records places (liveRecord_iff.1 live).1 notAdmitted notRetiring stands
    exact other (stage.symm.trans infeed)
  refine ⟨⟨?_, away (st := .press) nofun nofun nofun, away (st := .jacket) nofun nofun nofun,
    away (st := .delivery) nofun nofun nofun⟩, ?_⟩
  · simpa [standing] using away (st := .entry) nofun nofun nofun
  · simpa [standing] using away (st := .gated) nofun nofun nofun

/-! ### INDEX_GO and the head behind it (R95, R110) -/

/-- R110: INDEX_GO sent, before the head gives up the book that it carries. -/
def indexGone (s : State) : State := { s with
  out := s.out ++ [.s4IndexGo (s.tracks.entry.bind fun t => (liveRecord t s).bind (·.force))]
  press := { s.press with index := .moving, carried := s.tracks.entry } }

theorem sendIndexGo_eq (s : State) : sendIndexGo s = match s.tracks.entry with
    | none => indexGone s
    | some t => headGivesUp t (indexGone s) := by
  rw [sendIndexGo]
  cases entry : s.tracks.entry with
  | none =>
    simp only [indexGone, entry]
    exact send_now (.inl rfl)
  | some t =>
    simp only [indexGone, entry]
    exact congrArg (headGivesUp t) (send_now (.inl rfl))

theorem sendIndexGo_work (s : State) : HeadWork (indexGone s) (sendIndexGo s) := by
  rw [sendIndexGo_eq]
  split
  · exact .refl _
  · exact .headGivesUp _ _

/-- R95: with no reading that waits at S3, INDEX_GO changes nothing else but the head. -/
theorem sendIndexGo_alone {s : State} (quiet : s.readers.s3.waiting = none) : ∃ h, sendIndexGo s = { indexGone s with head := h } := by
  rw [sendIndexGo_eq]
  split
  · exact ⟨s.head, rfl⟩
  · unfold headGivesUp
    split
    · split
      · exact ⟨.idle, actWaitingS3_none quiet⟩
      · exact ⟨s.head, rfl⟩
    · exact ⟨s.head, rfl⟩

theorem headGivesUp_stations {t : Ticket} {s : State} (away : ∀ u, s.readers.s3.waiting = some u → Elsewhere u s) :
    SameStations s (headGivesUp t s) := by
  unfold headGivesUp
  split
  · split
    · have idle : SameStations s { s with head := .idle } := ⟨rfl, rfl, rfl, rfl⟩
      exact idle.trans (actWaitingS3_stations fun u waits => (away u waits).congr idle)
    · exact .of_frame rfl rfl
  · exact .of_frame rfl rfl

theorem sendIndexGo_stations {s : State} (away : ∀ t, s.readers.s3.waiting = some t → Elsewhere t s) :
    SameStations s (sendIndexGo s) := by
  have gone : SameStations s (indexGone s) := ⟨rfl, rfl, rfl, rfl⟩
  rw [sendIndexGo_eq]
  split
  · exact gone
  · exact gone.trans (headGivesUp_stations fun u waits => (away u waits).congr gone)

section Shut

variable {s : State} (shut : s.line.state ≠ .running)

include shut

/-- R59, R60: a line that is not RUNNING admits no block. -/
theorem gateTest_shut : gateTest s = s := gateTest_closed (by simp [gateOpen, shut])

theorem leaveInfeed_gateHold (t : Ticket) : (leaveInfeed t s).tracks.gateHold = s.tracks.gateHold := by
  rw [leaveInfeed, gateTest_shut (by simpa using shut)]
  simp

theorem arrive_gateHold {t : Ticket} (other : s.tracks.gateHold ≠ some t) : (arrive t s).tracks.gateHold = s.tracks.gateHold := by
  have left := leaveInfeed_gateHold shut t
  unfold arrive
  dsimp only
  split
  · have retired : (retire t .diverted (some .wrongBlock) (send .s3Eject (leaveInfeed t s))).tracks.gateHold = s.tracks.gateHold := by
      cases live : liveRecord t (send .s3Eject (leaveInfeed t s)) with
      | none =>
        rw [retire_absent live]
        simp [left]
      | some r =>
        obtain ⟨tracks, -, -⟩ := retire_places live .diverted (some .wrongBlock)
        rw [tracks]
        have kept : (send .s3Eject (leaveInfeed t s)).tracks.gateHold = s.tracks.gateHold := by simp [left]
        exact (dropTicket_of_ne (by rw [kept]; exact other)).trans kept
    simp [retired]
  · split
    · exact left
    · split <;> simp [startWait, left]

theorem actWaitingS3_gateHold (other : ∀ t, s.readers.s3.waiting = some t → s.tracks.gateHold ≠ some t) :
    (actWaitingS3 s).tracks.gateHold = s.tracks.gateHold := by
  unfold actWaitingS3
  split
  · split
    · next t waits =>
      exact arrive_gateHold (s := { s with readers := { s.readers with s3 := { s.readers.s3 with waiting := none } } }) shut (other t waits)
    · rfl
  · rfl

theorem sendIndexGo_gateHold (other : ∀ t, s.readers.s3.waiting = some t → s.tracks.gateHold ≠ some t) :
    (sendIndexGo s).tracks.gateHold = s.tracks.gateHold := by
  rw [sendIndexGo_eq]
  split
  · rfl
  · unfold headGivesUp
    split
    · split
      · exact actWaitingS3_gateHold (s := { indexGone s with head := .idle }) shut other
      · rfl
    · rfl

end Shut

/-- R108, R109: a held index that is permitted goes, and no other. -/
theorem indexRetest_cases (s : State) : indexRetest s = s ∨ indexRetest s = sendIndexGo s := by
  unfold indexRetest
  split
  · exact .inr rfl
  · exact .inl rfl

end Sys2Proof.Machine
end

section
/-! The stop commands (R164 to R169). -/

namespace Sys2Proof.Machine

/-! ### A Line Command that is accepted (R161) -/

theorem exec_line {code : Nat} {ok : LineState → Bool} {f : State → State} {n : Word} {rest : List QueuedRequest} {s : State}
    (queued : s.link.requests = ⟨.lineCommand code, n⟩ :: rest) (handled : handleOf (.lineCommand code) = handleLine ok f)
    (allowed : ok s.line.state = true) :
    let u := f (served rest s)
    let t := filled ⟨.lineCommand code, n⟩ (lineWords u.line.state) u
    exec (commandOf (.lineCommand code)) s = .next t ∧
      Answered ⟨.lineCommand code, n⟩ rest .ok (lineWords u.line.state) s t := by
  intro u t
  have accepted : handleOf (.lineCommand code) (served rest s) = accept u (lineWords u.line.state) := by
    rw [handled]
    exact if_pos allowed
  exact ⟨exec_accepted queued accepted, filled_answered (q := ⟨.lineCommand code, n⟩) accepted⟩

/-! ### What a command sent adds to the ports -/

theorem send_congr (c : PortCommand) {s u : State} (out : u.out = s.out) (drive : u.drive = s.drive) :
    (send c u).out = (send c s).out ∧ (send c u).drive = (send c s).drive := by
  by_cases waits : (c.toDrive && s.drive.stopDue.isSome) = true
  · rw [send, send, if_pos waits, if_pos (by rw [drive]; exact waits)]
    exact ⟨out, by rw [drive]⟩
  · rw [send, send, if_neg waits, if_neg (by rw [drive]; exact waits)]
    exact ⟨by rw [out], drive⟩

theorem foldl_send_congr (cs : List PortCommand) {s u : State} (out : u.out = s.out) (drive : u.drive = s.drive) :
    (cs.foldl (fun x c => send c x) u).out = (cs.foldl (fun x c => send c x) s).out ∧
    (cs.foldl (fun x c => send c x) u).drive = (cs.foldl (fun x c => send c x) s).drive := by
  induction cs generalizing s u with
  | nil => exact ⟨out, drive⟩
  | cons c cs ih =>
    obtain ⟨out', drive'⟩ := send_congr c out drive
    exact ih out' drive'

theorem foldl_send_drive (cs : List PortCommand) {s u : State} (drive : u.drive = s.drive) :
    (cs.foldl (fun x c => send c x) u).drive = (cs.foldl (fun x c => send c x) s).drive := by
  have opened (c : PortCommand) (x : State) : (send c { x with out := [] }).drive = (send c x).drive := by
    by_cases waits : (c.toDrive && x.drive.stopDue.isSome) = true
    · rw [send, send, if_pos waits, if_pos (by exact waits)]
    · rw [send, send, if_neg waits, if_neg (by exact waits)]
  induction cs generalizing s u with
  | nil => exact drive
  | cons c cs ih =>
    refine ih ?_
    have same := (send_congr c (s := { s with out := [] }) (u := { u with out := [] }) rfl drive).2
    rw [← opened c u, ← opened c s]
    exact same

theorem sent_nil {s t : State} (out : t.out = []) (drive : t.drive = s.drive) : Sent [] s t := ⟨out, drive⟩

/-- The commands sent from a state that had sent none. -/
theorem sent_of_sends {cs : List PortCommand} {s t u : State} (out : u.out = []) (drive : u.drive = s.drive)
    (tOut : t.out = (cs.foldl (fun x c => send c x) u).out) (tDrive : t.drive = (cs.foldl (fun x c => send c x) u).drive) :
    Sent cs s t :=
  ⟨tOut.trans (foldl_send_congr cs (s := openStep s) out drive).1, tDrive.trans (foldl_send_drive cs drive)⟩

theorem setLine_sameNotices {s u : State} (same : SameNotices s u) (retiring : u.retiring = s.retiring) (st : LineState) (c : Cause) :
    SameNotices (produce (.lineState st c) s) (setLine st c u) :=
  produce_sameNotices (u := { u with line := ⟨st, some c⟩ }) same retiring _

/-- R183, R184: where a notice goes. -/
theorem produce_places (n : Notice) (s : State) :
    let room : Prop := s.link.notices.length < 32 ∧ s.retiring = [] ∧ s.link.held.any = false
    (room → (produce n s).link.notices = s.link.notices ++ [⟨s.link.nextNotice, n⟩]) ∧
    (¬room → (produce n s).link.held = s.link.held.put ⟨s.link.nextNotice, n⟩) := by
  intro room
  have free : room ↔ s.link.notices.length < 32 ∧ (!s.retiring.isEmpty || s.link.held.any) = false := by
    simp [room]
  refine ⟨fun has => ?_, fun full => ?_⟩
  · rw [produce_eq, producedLink, if_pos (free.1 has)]
  · rw [produce_eq, producedLink, if_neg (mt free.2 full)]

theorem produce_notices_prefix (n : Notice) (s : State) : s.link.notices <+: (produce n s).link.notices := by
  rw [produce_eq, producedLink]
  split
  · exact List.prefix_append _ _
  · exact List.prefix_rfl

/-! ### STOP_SOFT (R164, R165) -/

/-- Whether a soft stop is complete (R165). -/
def softDone (s : State) : Bool := !s.head.pastes && s.press.index != .moving

theorem softStop_done {s : State} (isDone : softDone s = true) :
    softStop s = setLine .stopped .stopDone (send .driveStop (setLine .stopping .stopSoft s)) := by
  have head : (setLine .stopping .stopSoft s).head = s.head := by simp
  have press : (setLine .stopping .stopSoft s).press = s.press := by simp
  have stopping : (setLine .stopping .stopSoft s).line.state = .stopping := by simp
  obtain ⟨pastes, still⟩ : s.head.pastes = false ∧ s.press.index ≠ .moving := by simpa [softDone] using isDone
  rw [softStop, softStopTest, if_pos stopping, head, press, stopDrive_eq, stopping]
  cases isHead : s.head with
  | pasting t l =>
    rw [isHead] at pastes
    cases pastes
  | _ => exact if_neg still

theorem softStop_goes {s : State} (notDone : softDone s = false) : softStop s = setLine .stopping .stopSoft s := by
  have head : (setLine .stopping .stopSoft s).head = s.head := by simp
  have press : (setLine .stopping .stopSoft s).press = s.press := by simp
  have stopping : (setLine .stopping .stopSoft s).line.state = .stopping := by simp
  rw [softStop, softStopTest, if_pos stopping, head, press]
  cases isHead : s.head with
  | pasting t l => rfl
  | _ =>
    have moving : s.press.index = .moving := by simpa [softDone, isHead, Head.pastes] using notDone
    exact if_pos moving

/-- R96: no pasting that is out and untold is halted. -/
theorem haltPaste_quiet {s : State} (quiet : ∀ t l, s.head = .pasting t l →
    s.tracks.waitingMarriage = some t ∨ ∀ r, liveRecord t s = some r → .interrupted ∈ r.flags) : haltPaste s = s := by
  cases head : s.head with
  | pasting t l => exact haltPaste_told head (quiet t l head)
  | _ => rw [haltPaste, head]

/-- R81, R108: what TAKE_CASE and INDEX_GO leave of a line that feeds. -/
theorem runOut_feeds {r s : State} (out : r.out = []) (drive : r.drive = s.drive) :
    let y := indexRetest (tryTakeCase r)
    .driveStop ∉ y.out ∧ y.drive = s.drive ∧ y.line = r.line ∧ r.link.notices <+: y.link.notices ∧ y.link.held = r.link.held := by
  intro y
  have took := HeadWork.tryTakeCase r
  obtain ⟨cs, tOut, own⟩ := took.out
  rw [out, List.nil_append] at tOut
  have stays : .driveStop ∉ cs := fun mem => nomatch own _ mem
  rcases indexRetest_cases (tryTakeCase r) with stands | goes
  · simp only [y, stands]
    exact ⟨tOut ▸ stays, took.drive.trans drive, took.line, took.notices, took.held⟩
  · have work := sendIndexGo_work (tryTakeCase r)
    obtain ⟨cs', gOut, own'⟩ := work.out
    have stays' : .driveStop ∉ cs' := fun mem => nomatch own' _ mem
    simp only [y, goes]
    refine ⟨?_, (work.drive.trans took.drive).trans drive, work.line.trans took.line, took.notices.trans work.notices,
      work.held.trans took.held⟩
    rw [gOut]
    simp [indexGone, tOut, stays, stays']

/-- Settles O36: the stop commands change the line, and the drive is sent STOP when the line stands. -/
theorem stopCommandsChangeTheLine : Obligations.StopCommandsChangeTheLine := by
  refine fun n rest s => ⟨fun queued runs => ?_, fun queued runs => ?_, fun queued runs => ?_⟩
  · intro done
    have allowed : s.line.state.feeds = true := LineState.feeds_iff.2 runs
    obtain ⟨ran, answer⟩ := exec_line queued (f := softStop) rfl allowed
    have served' : softDone (served rest s) = done := by
      simp only [softDone, done, served_frame, Head.pastes]
      cases s.head <;> rfl
    let u := softStop (served rest s)
    let t := filled ⟨.lineCommand 2, n⟩ (lineWords u.line.state) u
    let v := setLine .stopping .stopSoft (served rest s)
    have same : SameNotices s (served rest s) := by simp [SameNotices]
    have stopping : SameNotices (produce (.lineState .stopping .stopSoft) s) v := setLine_sameNotices same rfl _ _
    cases isDone : done with
    | true =>
      have effect : u = setLine .stopped .stopDone (send .driveStop v) := softStop_done (served'.trans isDone)
      have line : u.line = ⟨.stopped, some .stopDone⟩ := by simp [effect]
      have words : lineWords u.line.state = [2] := by rw [line]; rfl
      have stopped : SameNotices (produce (.lineState .stopped .stopDone) (produce (.lineState .stopping .stopSoft) s)) u := by
        rw [effect]
        exact setLine_sameNotices (by simpa [SameNotices] using stopping) (by simp [v]) _ _
      refine ⟨t, ran, words ▸ answer, ?_, ?_, ?_, ?_⟩
      · simp [t, line]
      · simpa [t, SameNotices] using stopped
      · exact sent_of_sends (u := v) (by simp [v]) (by simp [v]) (by simp [t, effect]) (by simp [t, effect])
      · simp [SameBooks, SameTitles, SameTracks, SameLanes, SamePress, SamePace, t, u]
    | false =>
      have effect : u = v := softStop_goes (served'.trans isDone)
      have line : u.line = ⟨.stopping, some .stopSoft⟩ := by simp [effect, v]
      have words : lineWords u.line.state = [4] := by rw [line]; rfl
      refine ⟨t, ran, words ▸ answer, ?_, ?_, ?_, ?_⟩
      · simp [t, line]
      · simpa [t, effect, SameNotices] using stopping
      · exact sent_of_sends (u := v) (by simp [v]) (by simp [v]) (by simp [t, effect]) (by simp [t, effect])
      · simp [SameBooks, SameTitles, SameTracks, SameLanes, SamePress, SamePace, t, u]
  · have allowed : s.line.state.driveRuns = true := by rcases runs with is | is | is <;> rw [is] <;> rfl
    obtain ⟨ran, answer⟩ := exec_line queued (f := stopNowLine) rfl allowed
    let v := send .driveStop (served rest s)
    let u := stopNowLine (served rest s)
    let t := filled ⟨.lineCommand 3, n⟩ (lineWords u.line.state) u
    have effect : u = setLine .stopped .stopNow (haltPaste v) := by
      simp only [u, stopNowLine, stopDrive_eq, served_frame, allowed, if_true, v]
    have line : u.line = ⟨.stopped, some .stopNow⟩ := by simp [effect]
    have words : lineWords u.line.state = [2] := by rw [line]; rfl
    have head : v.head = s.head := by simp [v]
    have told (quiet : haltPaste v = v) : Sent [.driveStop] s t ∧ t.records = s.records :=
      ⟨sent_of_sends (u := served rest s) rfl rfl (by simp [t, effect, quiet, v]) (by simp [t, effect, quiet, v]),
        by simp [t, effect, quiet, v]⟩
    refine ⟨t, ran, words ▸ answer, by simp [t, line], ?_, fun tk l r pasting out live new => ?_, fun waits => told ?_,
      fun known => told ?_, by simp [t, u], ?_⟩
    · have same : SameNotices s (haltPaste v) := by simp [SameNotices, v]
      have stopped := setLine_sameNotices same (by simp [v]) .stopped .stopNow
      simpa [t, effect, SameNotices] using stopped
    · have halts := haltPaste_halts (s := v) (head.trans pasting) ((liveRecord_congr (by simp [v])).trans live) (by simpa [v] using out) new
      exact ⟨sent_of_sends (u := served rest s) rfl rfl (by simp [t, effect, halts, v]) (by simp [t, effect, halts, v]),
        by simp [t, effect, halts, v]⟩
    · exact haltPaste_quiet fun tk l pasting => .inl (by simpa [v] using waits tk l (head.symm.trans pasting))
    · refine haltPaste_quiet fun tk l pasting => ?_
      refine (known tk l (head.symm.trans pasting)).imp (fun waits => by simpa [v] using waits) fun marked r live => ?_
      exact marked r (((liveRecord_congr (by simp [v])) : liveRecord tk v = liveRecord tk s).symm.trans live)
    · simp [SameTitles, SameTracks, SameLanes, SamePress, SamePace, t, u]
  · have allowed : isRunning s.line.state = true := by rw [runs]; rfl
    obtain ⟨ran, answer⟩ := exec_line queued (f := runOutLine) rfl allowed
    let r := setLine .runningOut .runOut (served rest s)
    let w := tryTakeCase r
    let y := indexRetest w
    let u := runOutLine (served rest s)
    let t := filled ⟨.lineCommand 4, n⟩ (lineWords u.line.state) u
    have settled : u = idleRefresh (runOutTest y) := rfl
    have tLine : t.line = u.line := by simp [t]
    have rLine : r.line = ⟨.runningOut, some .runOut⟩ := by simp [r]
    obtain ⟨out, drive, line, notices, held⟩ : .driveStop ∉ y.out ∧ y.drive = s.drive ∧ y.line = r.line ∧
        r.link.notices <+: y.link.notices ∧ y.link.held = r.link.held := runOut_feeds (by simp [r]) (by simp [r])
    have tPlaces : t.tracks = y.tracks ∧ t.head = y.head ∧ t.press.positions = y.press.positions := by
      simp [t, settled, idleRefresh]
    have empty : lineEmpty t = lineEmpty y := by
      obtain ⟨tracks, head, positions⟩ := tPlaces
      simp only [lineEmpty, tracks, head, positions]
    have goesOn (busy : lineEmpty t = false) : u = idleRefresh y := by
      rw [settled, runOutTest_occupied (empty ▸ busy)]
    have stops (done : lineEmpty t = true) : u = idleRefresh (setLine .stopped .runOutDone (send .driveStop y)) := by
      have out : y.line.state = .runningOut := by rw [line, rLine]
      rw [settled, runOutTest, if_pos ⟨out, empty ▸ done⟩, stopDrive_eq, out]
      rfl
    have noticed : SameNotices (produce (.lineState .runningOut .runOut) s) r :=
      setLine_sameNotices (s := s) (u := served rest s) (by simp [SameNotices]) rfl _ _
    refine ⟨t, ran, by rw [tLine]; exact answer, ?_, fun busy => ?_, ?_, fun busy quiet => ?_, fun done => ?_, fun done => ?_,
      fun records places => ?_, fun quiet => ?_, by simp [t, u], by simp [t, u], by simp [t, u], by simp [t, u]⟩
    · intro x
      rw [tLine]
      rfl
    · have busy' := goesOn busy
      refine ⟨by simp [t, busy', line, rLine], by simpa [t, busy'] using out, by simpa [t, busy'] using drive⟩
    · intro e room
      obtain ⟨queues, holds⟩ := produce_places (.lineState .runningOut .runOut) s
      obtain ⟨rNotices, rHeld, -, -⟩ := noticed
      refine ⟨fun has => ?_, fun full busy => ?_⟩
      · rw [← queues has, ← rNotices]
        refine notices.trans ?_
        cases isEmpty : lineEmpty t with
        | false => simp [t, goesOn isEmpty]
        | true =>
          have kept := produce_notices_prefix (.lineState .stopped .runOutDone) { send .driveStop y with line := ⟨.stopped, some .runOutDone⟩ }
          simpa [t, stops isEmpty, setLine] using kept
      · have same := goesOn busy
        have tHeld : t.link.held = s.link.held.put e := by
          rw [← holds full, ← rHeld, ← held]
          simp [t, same]
        rw [tHeld]
        rfl
    · have same := goesOn busy
      have alone : y.link = r.link := by
        rcases indexRetest_cases w with stands | goes
        · simp only [y, stands]
          simp [w]
        · obtain ⟨h, alone⟩ := sendIndexGo_alone (s := w) (by simpa [w, r] using quiet)
          simp only [y, goes, alone]
          simp [indexGone, w]
      simpa [t, same, SameNotices, alone] using noticed
    · have stopped := stops done
      refine ⟨by simp [t, stopped], fun ready => ?_⟩
      have now : (send .driveStop y).out = y.out ++ [.driveStop] := by rw [send_now (.inr (drive ▸ ready))]
      simp [t, stopped, now]
    · obtain ⟨idle, noEntry⟩ : s.head = .idle ∧ s.tracks.entry = none := by
        have parts := done
        simp only [lineEmpty, Bool.and_eq_true, beq_iff_eq, Option.isNone_iff_eq_none] at parts
        obtain ⟨⟨⟨⟨⟨-, idle⟩, noEntry⟩, -⟩, -⟩, -⟩ := parts
        exact ⟨idle, noEntry⟩
      have same : w = r := tryTakeCase_other (by simp [r, idle])
      have stands : y.tracks = s.tracks ∧ y.head = s.head ∧ y.press.positions = s.press.positions ∧ y.link = r.link ∧
          y.retiring = s.retiring := by
        simp only [y, same]
        rcases indexRetest_cases r with stands | goes
        · rw [stands]
          simp [r]
        · rw [goes, sendIndexGo_eq, show r.tracks.entry = none by simp [r, noEntry]]
          simp [indexGone, r]
      obtain ⟨tracks, head, positions, link, retiring⟩ := stands
      have isDone : lineEmpty t = true := by
        rw [empty]
        simpa only [lineEmpty, tracks, head, positions] using done
      have stopped := stops isDone
      have after := setLine_sameNotices (s := produce (.lineState .runningOut .runOut) s) (u := send .driveStop y)
        (by simpa [SameNotices, link] using noticed) (by simp [retiring]) .stopped .runOutDone
      exact ⟨by simpa [t, stopped, SameNotices] using after, by simp [t, stopped]⟩
    · have waits : w.readers = s.readers ∧ w.tracks = s.tracks ∧ w.press = s.press ∧ w.line = r.line := by simp [w, r]
      obtain ⟨wReaders, wTracks, wPress, wLine⟩ := waits
      have away (tk : Ticket) (waits : w.readers.s3.waiting = some tk) : Elsewhere tk w ∧ w.tracks.gateHold ≠ some tk := by
        obtain ⟨elsewhere, gate⟩ := places.waiting_elsewhere records (wReaders ▸ waits)
        exact ⟨elsewhere.congr (.of_frame wTracks wPress), wTracks ▸ gate⟩
      have shut : w.line.state ≠ .running := by rw [wLine, rLine]; nofun
      obtain ⟨tTracks, -, tPositions⟩ := tPlaces
      rw [tTracks, tPositions]
      rcases indexRetest_cases w with stands | goes
      · simp only [y, stands, wTracks, wPress]
        exact ⟨trivial, trivial, trivial, trivial⟩
      · have stations := sendIndexGo_stations fun tk waits => (away tk waits).1
        have gate := sendIndexGo_gateHold shut fun tk waits => (away tk waits).2
        simp only [y, goes, gate, stations.delivery, stations.jacket, stations.press, wTracks, wPress]
        exact ⟨trivial, trivial, trivial, trivial⟩
    · have alone : y.titles = s.titles ∧ y.pendingTitles = s.pendingTitles ∧ y.readers = s.readers ∧ y.retiring = s.retiring := by
        rcases indexRetest_cases w with stands | goes
        · simp only [y, stands]
          simp [w, r]
        · obtain ⟨h, alone⟩ := sendIndexGo_alone (s := w) (by simpa [w, r] using quiet)
          simp only [y, goes, alone]
          simp [indexGone, w, r]
      obtain ⟨titles, pendingTitles, readers, retiring⟩ := alone
      simp [SameTitles, t, settled, titles, pendingTitles, readers, retiring]

end Sys2Proof.Machine
end

section
/-! CLEAR_LINE (R23, R173): every live record retires, the places are emptied, and the pitch is recomputed. -/

namespace Sys2Proof.Machine

/-! ### Several records that enter RETIRING one after the other (R23) -/

/-- R23: the records of the tickets enter RETIRING with the outcome CLEARED, one after the other. -/
abbrev clearEach (ts : List Ticket) (s : State) : State := ts.foldl (fun s t => enterRetiring t .cleared none s) s

theorem clearEach_work (ts : List Ticket) (s : State) : HeadWork s (clearEach ts s) := by
  induction ts generalizing s with
  | nil => exact .refl s
  | cons t ts ih => exact (HeadWork.enterRetiring t .cleared none s).trans (ih _)

theorem liveRecord_enterRetiring (t : Ticket) (o : BookOutcome) (e : Option Reason) (s : State) :
    liveRecord t (enterRetiring t o e s) = none ∧ ∀ u, u ≠ t → findRecord u (enterRetiring t o e s) = findRecord u s := by
  cases live : liveRecord t s with
  | none =>
    rw [enterRetiring_absent live]
    exact ⟨live, fun _ _ => rfl⟩
  | some r =>
    obtain ⟨found, others⟩ := enterRetiring_findRecord live o e
    exact ⟨by rw [liveRecord, found]; rfl, others⟩

/-- A record that is not live stays as it was. -/
theorem clearEach_absent {ts : List Ticket} {tk : Ticket} {s : State} (absent : liveRecord tk s = none) :
    findRecord tk (clearEach ts s) = findRecord tk s := by
  induction ts generalizing s with
  | nil => rfl
  | cons t ts ih =>
    have step : findRecord tk (enterRetiring t .cleared none s) = findRecord tk s := by
      by_cases same : tk = t
      · subst same
        rw [enterRetiring_absent absent]
      · exact (liveRecord_enterRetiring t .cleared none s).2 tk same
    exact (ih (by rw [liveRecord, step, ← liveRecord, absent])).trans step

theorem clearEach_live {ts : List Ticket} {tk : Ticket} {r : BookRecord} {s : State} (live : liveRecord tk s = some r) (mem : tk ∈ ts) :
    findRecord tk (clearEach ts s) = some (r.entering .cleared none) := by
  induction ts generalizing s with
  | nil => cases mem
  | cons t ts ih =>
    by_cases same : tk = t
    · subst same
      obtain ⟨found, -⟩ := enterRetiring_findRecord live .cleared none
      exact (clearEach_absent (liveRecord_enterRetiring tk .cleared none s).1).trans found
    · have step := (liveRecord_enterRetiring t .cleared none s).2 tk same
      exact ih (by rw [liveRecord, step, ← liveRecord, live]) ((List.mem_cons.1 mem).resolve_left same)

/-- R23: no record of the tickets is live any more. -/
theorem clearEach_none {ts : List Ticket} {tk : Ticket} {s : State} (covered : tk ∈ ts ∨ findRecord tk s = none) :
    liveRecord tk (clearEach ts s) = none := by
  cases live : liveRecord tk s with
  | none => rw [liveRecord, clearEach_absent live, ← liveRecord, live]
  | some r =>
    have mem : tk ∈ ts := covered.resolve_right fun gone => by
      rw [liveRecord, gone] at live
      cases live
    rw [liveRecord, clearEach_live live mem]
    rfl

theorem offerAll_none {tk : Ticket} {ts : List Ticket} {s : State} (absent : liveRecord tk s = none) :
    liveRecord tk (offerAll ts s) = none := by
  induction ts generalizing s with
  | nil => exact absent
  | cons t ts ih =>
    unfold offerAll
    split
    · refine ih ?_
      obtain ⟨records, -⟩ := offerRetired_records t s
      by_cases same : tk = t
      · subst same
        have gone : findRecord tk (offerRetired tk s) = none := by
          rw [findRecord, records, List.find?_eq_none]
          intro x mem
          simpa using (List.mem_filter.1 mem).2
        rw [liveRecord, gone]
        rfl
      · have kept : findRecord tk (offerRetired t s) = findRecord tk s := by
          rw [findRecord, findRecord, records, List.find?_filter]
          refine List.find?_congr fun x _ => ?_
          by_cases isTk : x.ticket = tk
          · simp [isTk, same]
          · simp [isTk]
        rw [liveRecord, kept, ← liveRecord, absent]
    · exact absent

/-- R8, R23: the retirement order behind the records that have entered RETIRING. -/
theorem clearEach_retiring {rs : List BookRecord} {s : State} (once : (rs.map (·.ticket)).Nodup)
    (found : ∀ r ∈ rs, findRecord r.ticket s = some r) : (clearEach (rs.map (·.ticket)) s).retiring =
      s.retiring ++ (rs.filter fun r => !(r.stage == .retiring)).map (·.ticket) := by
  induction rs generalizing s with
  | nil => simp
  | cons r rs ih =>
    rw [List.map_cons, List.nodup_cons] at once
    have later : ∀ x ∈ rs, findRecord x.ticket (enterRetiring r.ticket .cleared none s) = some x := fun x mem => by
      rw [(liveRecord_enterRetiring r.ticket .cleared none s).2 x.ticket fun same => once.1 (same ▸ List.mem_map_of_mem mem)]
      exact found x (List.mem_cons_of_mem _ mem)
    have rest := ih once.2 later
    have here := found r List.mem_cons_self
    by_cases retired : r.stage = .retiring
    · have absent : liveRecord r.ticket s = none := by simp [liveRecord, here, retired]
      rw [enterRetiring_absent absent] at rest
      simpa [clearEach, enterRetiring_absent absent, retired] using rest
    · have live : liveRecord r.ticket s = some r := liveRecord_iff.2 ⟨here, retired⟩
      obtain ⟨-, order, -⟩ := enterRetiring_live live .cleared none
      simp only [List.map_cons, clearEach, List.foldl_cons]
      rw [rest, order]
      simp [retired]

theorem clearEach_tickets (ts : List Ticket) (s : State) : (clearEach ts s).records.map (·.ticket) = s.records.map (·.ticket) := by
  induction ts generalizing s with
  | nil => rfl
  | cons t ts ih =>
    refine (ih (enterRetiring t .cleared none s)).trans ?_
    cases live : liveRecord t s with
    | none => rw [enterRetiring_absent live]
    | some r =>
      have put : (enterRetiring t .cleared none s).records = (putRecord (r.entering .cleared none) s).records :=
        (enterRetiring_live live .cleared none).1
      rw [put, putRecord_tickets]

/-- A table is known by its tickets and the record found under each. -/
theorem records_ext {l m : List BookRecord} (tickets : l.map (·.ticket) = m.map (·.ticket)) (once : (m.map (·.ticket)).Nodup)
    (found : ∀ x ∈ m, l.find? (fun r => r.ticket == x.ticket) = some x) : l = m := by
  induction m generalizing l with
  | nil => simpa using tickets
  | cons x m ih =>
    cases l with
    | nil => simp at tickets
    | cons y l =>
      rw [List.map_cons, List.map_cons, List.cons.injEq] at tickets
      rw [List.map_cons, List.nodup_cons] at once
      have first := found x List.mem_cons_self
      rw [List.find?_cons_of_pos (by simp [tickets.1])] at first
      refine List.cons_eq_cons.2 ⟨Option.some.inj first, ih tickets.2 once.2 fun z mem => ?_⟩
      have later := found z (List.mem_cons_of_mem _ mem)
      have apart : ¬y.ticket = z.ticket := fun same => once.1 (tickets.1 ▸ same ▸ List.mem_map_of_mem mem)
      rwa [List.find?_cons_of_neg (by simpa using apart)] at later

/-- R23: a table of live records after all of them have entered RETIRING. -/
theorem clearEach_records {s : State} (once : (s.records.map (·.ticket)).Nodup) (live : ∀ r ∈ s.records, r.stage ≠ .retiring) :
    (clearEach (s.records.map (·.ticket)) s).records = s.records.map (BookRecord.entering .cleared none) := by
  have tickets : (s.records.map (BookRecord.entering .cleared none)).map (·.ticket) = s.records.map (·.ticket) := by
    rw [List.map_map]
    rfl
  refine records_ext ((clearEach_tickets _ s).trans tickets.symm) (tickets ▸ once) fun x mem => ?_
  obtain ⟨r, there, rfl⟩ := List.mem_map.1 mem
  have mem : r.ticket ∈ s.records.map (·.ticket) := List.mem_map_of_mem there
  exact clearEach_live ((liveRecord_iff_mem once).2 ⟨there, rfl, live r there⟩) mem

/-! ### The records offered one after the other (R11, R12) -/

/-- R11: the notices of records offered one after the other, the first with the number `base` plus `j`. -/
def retiredNotices (base : Word) (j : Nat) (rs : List BookRecord) : List NoticeEntry :=
  (rs.zipIdx j).map fun p => ⟨base + BitVec.ofNat 16 p.2, retiredNotice p.1⟩

theorem retiredNotices_map (base : Word) (j : Nat) (f : BookRecord → BookRecord) (rs : List BookRecord) :
    retiredNotices base j (rs.map f) = rs.zipIdx.map fun p => ⟨base + BitVec.ofNat 16 (j + p.2), retiredNotice (f p.1)⟩ := by
  rw [retiredNotices, List.zipIdx_map, List.zipIdx_eq_map_add, List.map_map, List.map_map]
  rfl

theorem offerAll_frees {rs : List BookRecord} {s : State} (records : s.records = rs) (retiring : s.retiring = rs.map (·.ticket))
    (once : (rs.map (·.ticket)).Nodup) {base : Word} {j : Nat} (number : s.link.nextNotice = base + BitVec.ofNat 16 j) :
    let room := 32 - s.link.notices.length
    let x := offerAll (rs.map (·.ticket)) s
    x.link.notices = s.link.notices ++ retiredNotices base j (rs.take room) ∧
    x.retiring = (rs.drop room).map (·.ticket) ∧ x.records = rs.drop room := by
  induction rs generalizing s j with
  | nil => simp [offerAll, records, retiring, retiredNotices]
  | cons r rs ih =>
    intro room x
    by_cases full : 32 ≤ s.link.notices.length
    · have none : room = 0 := by omega
      simp [x, offerAll_full full, none, records, retiring, retiredNotices]
    · obtain ⟨less, more⟩ : ∃ less, room = less + 1 := ⟨room - 1, by omega⟩
      rw [List.map_cons, List.nodup_cons] at once
      have found : findRecord r.ticket s = some r := by simp [findRecord, records]
      obtain ⟨freed, order⟩ := offerRetired_records r.ticket s
      have stays : rs.filter (fun x => !(x.ticket == r.ticket)) = rs := List.filter_eq_self.2 fun x mem => by
        simpa using fun same : x.ticket = r.ticket => once.1 (same ▸ List.mem_map_of_mem mem)
      have link : (offerRetired r.ticket s).link.notices = s.link.notices ++ [⟨s.link.nextNotice, retiredNotice r⟩] ∧
          (offerRetired r.ticket s).link.nextNotice = s.link.nextNotice + 1 := by
        rw [offerRetired_found found]
        simp [enqueueNotice]
      obtain ⟨notices, next⟩ := link
      obtain ⟨queued, left, kept⟩ := ih (s := offerRetired r.ticket s) (j := j + 1)
        (by rw [freed, records, List.filter_cons_of_neg (by simp), stays])
        (by rw [order, retiring, List.map_cons, List.filter_cons_of_neg (by simp), filter_away once.1]) once.2
        (by
          rw [next, number, BitVec.ofNat_add, BitVec.add_assoc]
          rfl)
      have roomLess : 32 - (offerRetired r.ticket s).link.notices.length = less := by
        rw [notices, List.length_append, List.length_singleton]
        omega
      have step : x = offerAll (rs.map (·.ticket)) (offerRetired r.ticket s) := offerAll_room (by omega) _ _
      rw [step, more, List.take_succ_cons, List.drop_succ_cons, queued, left, kept, roomLess, notices, number]
      simp [retiredNotices]

/-! ### CLEAR_LINE (R173) -/

theorem retireAll_eq (s : State) : retireAll s = offerAll (clearEach (s.records.map (·.ticket)) s).retiring
    (clearEach (s.records.map (·.ticket)) s) := rfl

theorem retireAll_work (s : State) : HeadWork s (retireAll s) := (clearEach_work _ s).trans (.offerAll _ _)

theorem mem_send {c d : PortCommand} {s : State} (mem : c ∈ (send d s).out) : c ∈ s.out ∨ c = d := by
  unfold send at mem
  split at mem
  · exact .inl mem
  · simpa using mem

/-- R131: the commands of a recompute. -/
theorem recomputePitch_sends (s : State) :
    let x := recomputePitch s
    (x.pace.commanded ≠ s.pace.commanded → x.out = (send (.s4Pace x.pace.commanded) (send (.drivePace x.pace.commanded) s)).out ∧
      x.drive = (send (.s4Pace x.pace.commanded) (send (.drivePace x.pace.commanded) s)).drive) ∧
    (x.pace.commanded = s.pace.commanded → x.out = s.out ∧ x.drive = s.drive) := by
  intro x
  by_cases moves : pitchMoves s.params s.pace.commanded (targetPitch s) = true ∧ targetPitch s ≠ s.pace.commanded
  · obtain ⟨moves, differs⟩ := moves
    let v : State := { s with pace := { s.pace with
      target := some (targetPitch s, decidingSource s), commanded := targetPitch s, source := some (decidingSource s) } }
    have moved : x = produce (.paceChanged (targetPitch s) (decidingSource s)) (send (.s4Pace (targetPitch s))
      (send (.drivePace (targetPitch s)) v)) := recomputePitch_moves moves differs
    have commanded : x.pace.commanded = targetPitch s := by simp [moved, v]
    refine ⟨fun _ => ?_, fun same => absurd (commanded.symm.trans same) differs⟩
    obtain ⟨out, drive⟩ := send_congr (.drivePace (targetPitch s)) (s := s) (u := v) rfl rfl
    rw [commanded, moved]
    simpa using send_congr (.s4Pace (targetPitch s)) out drive
  · have stays : pitchMoves s.params s.pace.commanded (targetPitch s) = false ∨ targetPitch s = s.pace.commanded := by
      simpa [or_iff_not_imp_left] using moves
    have stayed : x = { s with pace := { s.pace with target := some (targetPitch s, decidingSource s) } } := recomputePitch_stays stays
    exact ⟨fun moved => absurd (by rw [stayed]) moved, fun _ => by rw [stayed]; exact ⟨rfl, rfl⟩⟩

theorem recomputePitch_notices (s : State) : s.link.notices <+: (recomputePitch s).link.notices := by
  unfold recomputePitch
  dsimp only
  split
  · refine List.IsPrefix.trans ?_ (produce_notices_prefix _ _)
    simp
  · exact List.prefix_rfl

/-- Settles O38: CLEAR_LINE retires every live record and empties every place; only the PACE of a new pitch goes out. -/
theorem clearLineEmptiesTheLine : Obligations.ClearLineEmptiesTheLine := by
  intro n rest s q queued stands
  have allowed : standsFree s.line.state = true := by rcases stands with is | is <;> rw [is] <;> rfl
  obtain ⟨ran, answer⟩ := exec_line queued (f := clearWhole) rfl allowed
  let r := clearedLine (served rest s)
  let e := emptyPlaces (retireAll r)
  let v : State := { e with press := { e.press with pd := pressDemand e } }
  let u := clearWhole (served rest s)
  let t := filled q (lineWords u.line.state) u
  have effect : u = idleRefresh (recomputePitch v) := rfl
  have rFrame : r.records = s.records ∧ r.retiring = s.retiring ∧ r.press = s.press ∧ r.readers = s.readers ∧ r.out = [] ∧
      r.drive = s.drive ∧ r.titles = s.titles ∧ r.jackets = s.jackets ∧ r.pace = s.pace ∧ r.params = s.params ∧ r.ports = s.ports := by
    simp only [r, clearedLine]
    split <;> simp
  obtain ⟨rRecords, rRetiring, rPress, rReaders, rOut, rDrive, rTitles, rJackets, rPace, rParams, rPorts⟩ := rFrame
  have rLine : r.line = if s.line.state = .stopped then s.line else ⟨.stopped, some .clearLine⟩ := by
    simp only [r, clearedLine, served_frame]
    split <;> simp
  have work := retireAll_work r
  have uLine : u.line = r.line := by simp [effect, v, e, emptyPlaces]
  have words : lineWords u.line.state = [2] := by
    rw [uLine, rLine]
    split
    · next is => rw [is]; rfl
    · rfl
  have tRecords : t.records = (retireAll r).records ∧ t.retiring = (retireAll r).retiring ∧ t.titles = (retireAll r).titles := by
    simp [t, effect, v, e, emptyPlaces]
  obtain ⟨tRecords, tRetiring, tTitles⟩ := tRecords
  have queue : (retireAll r).link.notices <+: t.link.notices := by
    have kept := recomputePitch_notices v
    simpa [t, effect, v, e, emptyPlaces] using kept
  refine ⟨t, ran, words ▸ answer, ?_, fun tk => ?_, fun once full => ?_, fun records order held room => ?_, ?_⟩
  · simp only [t, filled_frame, uLine, rLine]
  · rw [liveRecord_congr tRecords, retireAll_eq]
    refine offerAll_none (clearEach_none ?_)
    by_cases mem : tk ∈ r.records.map (·.ticket)
    · exact .inl mem
    · refine .inr (List.find?_eq_none.2 fun x there => ?_)
      simpa using fun same : x.ticket = tk => mem (same ▸ List.mem_map_of_mem there)
  · have rFull : 32 ≤ r.link.notices.length := by
      simp only [r, clearedLine]
      split
      · simpa using full
      · exact full.trans (produce_notices_prefix _ { served rest s with line := ⟨.stopped, some .clearLine⟩ }).length_le
    have cleared : retireAll r = clearEach (s.records.map (·.ticket)) r := by
      rw [retireAll_eq, rRecords]
      exact offerAll_full (rFull.trans (clearEach_work _ r).notices.length_le) _
    have found (x : BookRecord) (mem : x ∈ s.records) : findRecord x.ticket r = some x :=
      (findRecord_iff (rRecords ▸ once)).2 ⟨rRecords ▸ mem, rfl⟩
    refine ⟨?_, ?_, fun tk x live => ?_⟩
    · rw [tRetiring, cleared, clearEach_retiring once found, rRetiring]
    · rw [tTitles, cleared, foldl_keeps (·.titles) _ (fun _ _ => by simp) _ _, rTitles]
    · have live' : liveRecord tk r = some x := (liveRecord_congr rRecords).trans live
      have mem : tk ∈ s.records.map (·.ticket) :=
        List.mem_map.2 ⟨x, findRecord_mem (liveRecord_iff.1 live).1, liveRecord_ticket live⟩
      rw [findRecord_congr tRecords, cleared, clearEach_live live' mem]
      rfl
  · intro noticed room' freed
    have waits : noticeWaits s = false := by
      rw [← Bool.not_eq_true, noticeWaits_iff, order, held]
      simp
    have rNotices : r.link.notices = s.link.notices ++ noticed ∧
        r.link.nextNotice = s.link.nextNotice + BitVec.ofNat 16 noticed.length := by
      by_cases stopped : s.line.state = .stopped
      · simp [r, clearedLine, stopped, noticed]
      · obtain ⟨queues, -⟩ := produce_places (.lineState .stopped .clearLine) { served rest s with line := ⟨.stopped, some .clearLine⟩ }
        have queued := queues (by simp [room, order, held])
        have changed : r = produce (.lineState .stopped .clearLine) { served rest s with line := ⟨.stopped, some .clearLine⟩ } :=
          if_neg (by simpa using stopped)
        refine ⟨by rw [changed, queued]; simp [noticed, stopped], ?_⟩
        rw [changed, produce_eq, producedLink]
        simp only [noticed, if_neg stopped]
        split <;> simp
    obtain ⟨rNotices, rNumber⟩ := rNotices
    let c := clearEach (s.records.map (·.ticket)) r
    have live : ∀ x ∈ s.records, x.stage ≠ .retiring := fun x mem retiring => by
      have there := (records.retires x.ticket).2 ⟨x, mem, rfl, retiring⟩
      rw [order] at there
      cases there
    have found (x : BookRecord) (mem : x ∈ s.records) : findRecord x.ticket r = some x :=
      (findRecord_iff (rRecords ▸ records.tickets)).2 ⟨rRecords ▸ mem, rfl⟩
    have cLink : c.link = r.link := foldl_keeps (·.link) _ (fun _ _ => by simp) _ _
    have cRecords : c.records = s.records.map (BookRecord.entering .cleared none) := by
      have all := clearEach_records (s := r) (rRecords ▸ records.tickets) (rRecords ▸ live)
      rwa [rRecords] at all
    have tickets : (s.records.map (BookRecord.entering .cleared none)).map (·.ticket) = s.records.map (·.ticket) := by
      rw [List.map_map]
      rfl
    have cRetiring : c.retiring = (s.records.map (BookRecord.entering .cleared none)).map (·.ticket) := by
      rw [tickets]
      refine (clearEach_retiring records.tickets found).trans ?_
      rw [rRetiring, order, List.nil_append, List.filter_eq_self.2 fun x mem => by simpa using live x mem]
    obtain ⟨queued, left, kept⟩ := offerAll_frees cRecords cRetiring (tickets ▸ records.tickets)
      (base := s.link.nextNotice) (j := noticed.length) (by rw [cLink, rNumber])
    have offered : retireAll r = offerAll ((s.records.map (BookRecord.entering .cleared none)).map (·.ticket)) c := by
      rw [← cRetiring, retireAll_eq, rRecords]
    have hasRoom : 32 - c.link.notices.length = room' := by rw [cLink, rNotices, List.length_append]
    rw [hasRoom, ← List.map_take] at queued
    rw [hasRoom, ← List.map_drop] at left kept
    refine ⟨?_, ?_, ?_⟩
    · refine List.IsPrefix.trans ?_ queue
      rw [offered, queued, cLink, rNotices, retiredNotices_map]
      exact List.prefix_rfl
    · rw [tRetiring, offered, left, List.map_map]
      rfl
    · rw [tRecords, offered, kept]
      rfl
  · have noDemand : pressDemand e = 0 := by
      simp [pressDemand, placeDemand, e, emptyPlaces, Tracks.resetValue, Positions.empty]
    have tPress : t.press = { s.press with
        positions := .empty, pd := 0
        idleTimer := if idleRuns (recomputePitch v) then some (s.press.idleTimer.getD (s.params.idleTime * 60000)) else none } := by
      have kept : { (retireAll r).press with positions := .empty } = { s.press with positions := .empty } := by
        rw [work.press, rPress]
      have own : e.press = { s.press with positions := .empty } := kept
      have idle : (recomputePitch v).params.idleTime = s.params.idleTime := by simp [v, e, emptyPlaces, rParams]
      have press : (recomputePitch v).press = { e.press with pd := 0 } := by simp [v, noDemand]
      simp only [t, filled_frame, effect, idleRefresh, idle, press, own]
    have tPace : t.pace = (recomputePitch v).pace := by simp [t, effect]
    have tParams : t.params = s.params := by simp [t, effect, v, e, emptyPlaces, rParams]
    have vPace : v.pace = s.pace := by simp [v, e, emptyPlaces, rPace]
    have vOut : v.out = [] ∧ v.drive = s.drive := by simp [v, e, emptyPlaces, rOut, rDrive]
    obtain ⟨vOut, vDrive⟩ := vOut
    have runs : idleRuns t = idleRuns (recomputePitch v) :=
      idleRuns_congr (by simp [t, effect, idleRefresh]) (by simp [t, effect, idleRefresh]) (by simp [t, effect]) (by simp [t, effect])
        (by simp [t, effect])
    obtain ⟨target, source⟩ := targetPitch_congr (s := v) (u := t) (by rw [tPress, show v.press.pd = 0 from noDemand])
      (by rw [tPace, (recomputePitch_keeps v).1])
      (by rw [tParams]; simp [v, e, emptyPlaces, rParams])
    obtain ⟨moves, stays⟩ := recomputePitch_sends v
    have tOut : t.out = (recomputePitch v).out ∧ t.drive = (recomputePitch v).drive := by simp [t, effect]
    obtain ⟨tOut, tDrive⟩ := tOut
    refine ⟨?_, ?_, fun i => ?_, ?_, ?_, ?_, ?_, ?_, ?_, ?_, ?_, ?_, ?_, tParams, ?_⟩
    · have pendingTitles : t.pendingTitles = e.pendingTitles := by simp [t, effect, v]
      rw [pendingTitles]
      rfl
    · have tracks : t.tracks = e.tracks := by simp [t, effect, v]
      rw [tracks]
      rfl
    · have readers : t.readers = e.readers := by simp [t, effect, v]
      rw [readers]
      have kept := work.unresolved i
      rw [rReaders] at kept
      cases i <;> exact congrArg (Reader.mk none none) kept
    · simp [t, effect, v, e, emptyPlaces]
    · simp [t, effect, v, e, emptyPlaces]
    · simp [t, effect, v, e, emptyPlaces]
    · simp [t, effect, v, e, emptyPlaces, rJackets]
    · rw [tPress, runs]
    · rw [tPace, (recomputePitch_keeps v).1, vPace]
    · rw [tPace, (recomputePitch_keeps v).2, vPace]
    · rw [tPace, recomputePitch_target, target, source]
    · intro c mem
      rw [tOut] at mem
      rw [tPace]
      by_cases changed : (recomputePitch v).pace.commanded = v.pace.commanded
      · rw [(stays changed).1, vOut] at mem
        cases mem
      · rw [(moves changed).1] at mem
        rcases mem_send mem with mem | pace
        · rcases mem_send mem with mem | pace
          · rw [vOut] at mem
            cases mem
          · exact .inl pace
        · exact .inr pace
    · rw [tPace, ← vPace]
      by_cases changed : (recomputePitch v).pace.commanded = v.pace.commanded
      · obtain ⟨out, drive⟩ := stays changed
        rw [if_neg (by simpa using changed)]
        exact sent_nil (by rw [tOut, out, vOut]) (by rw [tDrive, drive, vDrive])
      · obtain ⟨out, drive⟩ := moves changed
        rw [if_pos changed]
        exact sent_of_sends vOut vDrive (by rw [tOut, out]; rfl) (by rw [tDrive, drive]; rfl)
    · simp [t, effect, v, e, emptyPlaces, rPorts]

end Sys2Proof.Machine
end

section
/-! A book that has been forced to retire (R21, R22): it never comes back, and the places stay empty of it. -/

namespace Sys2Proof.Machine

/-! ### A retired book stays retired -/

/-- From `s` to `u` a ticket without a live record has stayed so; with no room for its notice its record has stayed too, and a ticket
without a record has taken none. -/
structure Gone (tk : Ticket) (s u : State) : Prop where
  live : liveRecord tk s = none → liveRecord tk u = none
  found : liveRecord tk s = none → 32 ≤ s.link.notices.length ∨ findRecord tk s = none → findRecord tk u = findRecord tk s
  notices : s.link.notices <+: u.link.notices

theorem offerAll_absent {tk : Ticket} {ts : List Ticket} {s : State} (absent : findRecord tk s = none) :
    findRecord tk (offerAll ts s) = none := by
  induction ts generalizing s with
  | nil => exact absent
  | cons t ts ih =>
    unfold offerAll
    split
    · refine ih ?_
      rw [findRecord, (offerRetired_records t s).1, List.find?_eq_none]
      exact fun x mem => List.find?_eq_none.1 absent x (List.mem_filter.1 mem).1
    · exact absent

namespace Gone

variable {tk : Ticket} {s u v : State}

theorem refl (tk : Ticket) (s : State) : Gone tk s s := ⟨id, fun _ _ => rfl, List.prefix_rfl⟩

theorem trans (h : Gone tk s u) (h' : Gone tk u v) : Gone tk s v where
  live := h'.live ∘ h.live
  found absent stays := by
    have same := h.found absent stays
    refine (h'.found (h.live absent) ?_).trans same
    exact stays.imp (fun full => full.trans h.notices.length_le) fun none => same.trans none
  notices := h.notices.trans h'.notices

/-- What leaves the records alone. -/
theorem of_records (records : u.records = s.records) (notices : s.link.notices <+: u.link.notices) : Gone tk s u where
  live := by rw [liveRecord, liveRecord, findRecord, findRecord, records]; exact id
  found _ _ := by rw [findRecord, findRecord, records]
  notices := notices

/-- What finds the ticket as it did. -/
theorem of_found (found : liveRecord tk s = none → findRecord tk u = findRecord tk s) (notices : s.link.notices <+: u.link.notices) :
    Gone tk s u where
  live absent := by rw [liveRecord, found absent, ← liveRecord, absent]
  found absent _ := found absent
  notices := notices

theorem putRecord {r r' : BookRecord} (live : liveRecord r.ticket s = some r') : Gone tk s (putRecord r s) :=
  of_found (fun absent => findRecord_putRecord_other fun same => by rw [same, live] at absent; cases absent) (by simp)

theorem changeRecord {t : Ticket} {f : BookRecord → BookRecord} (keeps : ∀ r, liveRecord t s = some r → (f r).ticket = r.ticket) :
    Gone tk s (changeRecord t f s) := by
  cases live : liveRecord t s with
  | none =>
    rw [changeRecord_absent live]
    exact refl tk s
  | some r =>
    rw [changeRecord_live live]
    refine putRecord (r' := r) ?_
    rw [keeps r live, liveRecord_ticket live]
    exact live

theorem retire (t : Ticket) (o : BookOutcome) (e : Option Reason) : Gone tk s (retire t o e s) := by
  have entered : Gone tk s (enterRetiring t o e s) := by
    by_cases same : tk = t
    · subst same
      refine of_found (fun absent => by rw [enterRetiring_absent absent]) (by simp)
    · exact of_found (fun _ => (liveRecord_enterRetiring t o e s).2 tk same) (by simp)
  have offered (ts : List Ticket) (x : State) : Gone tk x (offerAll ts x) := by
    refine ⟨offerAll_none, fun _ stays => ?_, (HeadWork.offerAll _ _).notices⟩
    rcases stays with full | absent
    · rw [offerAll_full full]
    · rw [offerAll_absent absent, absent]
  exact entered.trans (offered _ _)

theorem act {b : Bool} (act : Act b s u) : Gone tk s u := by
  cases act with
  | send c s => exact of_records (by simp) (by simp)
  | notice n s => exact of_records (by simp) (produce_notices_prefix n _)
  | edit t f s mild => exact changeRecord fun r live => (mild r live).ticket
  | retire t o e s => exact retire t o e
  | resolve k r s live =>
    exact (putRecord (r := { r with resolved := true }) live).trans (of_records (by simp) (by simp))
  | place | read | lanes | control | pace | demand => exact of_records rfl List.prefix_rfl

theorem acts {b : Bool} (acts : Acts b s u) : Gone tk s u := by
  induction acts with
  | refl => exact refl tk s
  | tail _ last ih => exact ih.trans (act last)

end Gone

/-! ### The places stay empty of it -/

/-- A ticket that stands at no place and in no reading that waits. -/
structure Nowhere (tk : Ticket) (s : State) : Prop where
  places : ∀ st, tk ∉ standing s st
  s3 : s.readers.s3.waiting ≠ some tk
  s5 : s.readers.s5.waiting ≠ some tk

/-- Where the places are read from. -/
theorem standing_congr {s u : State} (tracks : u.tracks = s.tracks) (positions : u.press.positions = s.press.positions)
    (head : standing u .head = standing s .head) (st : Stage) : standing u st = standing s st := by
  cases st with
  | head => exact head
  | _ => simp only [standing, tracks, positions]

theorem tryTakeCase_standing (s : State) (st : Stage) : standing (tryTakeCase s) st = standing s st := by
  refine standing_congr (by simp) (by simp) ?_ st
  unfold tryTakeCase
  split
  · next head =>
    split
    · split
      · simp [takeCase, standing, head]
      · rfl
    · rfl
  · rfl

/-- R80: the lane decision moves no book. -/
theorem laneDecision_standing (t : Ticket) (k : TitleKey) (s : State) : standing (laneDecision t k s) .head = [t] := by
  unfold laneDecision
  split
  · rw [tryTakeCase_standing]
    rfl
  · repeat' split
    all_goals rfl

theorem decideAgain_standing (s : State) (st : Stage) : standing (decideAgain s) st = standing s st := by
  refine standing_congr (by simp) (by simp) ?_ st
  unfold decideAgain
  split
  · next head =>
    split
    · rw [laneDecision_standing]
      simp [standing, head]
    · rfl
  · rfl

theorem releaseCheck_standing (s : State) (st : Stage) : standing (releaseCheck s) st = standing s st := by
  have released : standing (releaseLanes s) st = standing s st := standing_congr (by simp) (by simp) (by simp [standing]) st
  unfold releaseCheck
  dsimp only
  split
  · rw [decideAgain_standing, released]
  · exact released

/-! ### A line that does not feed -/

theorem indexRetest_still {s : State} (still : s.line.state.feeds = false) : indexRetest s = s :=
  indexRetest_other (by simp [indexPermitted, still])

/-- R142: with no index to go, an arrival at S5 touches the jacketing state and the sequence, and moves the book at most. -/
theorem jacketArrival_still {s : State} (still : s.line.state.feeds = false) (t : Ticket) :
    let u := jacketArrival t s
    u.press = s.press ∧ u.readers = s.readers ∧ u.head = s.head ∧ u.jackets.mode = s.jackets.mode ∧
      u.jackets.mismatch = s.jackets.mismatch ∧ u.titles = s.titles ∧ u.pendingTitles = s.pendingTitles ∧
      u.retiring = s.retiring ∧ (u.tracks = s.tracks ∨ u.tracks = { s.tracks with
        jacket := s.tracks.jacket.filter (fun x => !(x == t)), delivery := s.tracks.delivery ++ [t] }) := by
  have passed : passBook t s = _ := (passBook_eq t s).trans (indexRetest_still (by simpa using still))
  unfold jacketArrival
  split
  · simp
  · split
    · rw [passed]
      simp
    · split
      · rw [passed]
        simp
      · split
        · simp [beginVerify]
        · split
          · simp [beginVerify]
          · rw [passed]
            simp

namespace Nowhere

variable {tk : Ticket} {s u : State}

theorem congr (h : Nowhere tk s) (stands : ∀ st, standing u st = standing s st) (readers : u.readers = s.readers) : Nowhere tk u :=
  ⟨fun st => by rw [stands]; exact h.places st, by rw [readers]; exact h.s3, by rw [readers]; exact h.s5⟩

/-- What changes no place. -/
theorem frame (h : Nowhere tk s) (tracks : u.tracks = s.tracks) (positions : u.press.positions = s.press.positions)
    (head : u.head = s.head) (readers : u.readers = s.readers) : Nowhere tk u :=
  h.congr (standing_congr tracks positions (by simp only [standing, head])) readers

theorem setReaders (h : Nowhere tk s) (rs : Readers) (s3 : rs.s3.waiting ≠ some tk) (s5 : rs.s5.waiting ≠ some tk) :
    Nowhere tk { s with readers := rs } where
  places st := by
    have same : standing { s with readers := rs } st = standing s st := standing_congr rfl rfl rfl st
    rw [same]
    exact h.places st
  s3 := s3
  s5 := s5

theorem releaseCheck (h : Nowhere tk s) : Nowhere tk (releaseCheck s) := h.congr (releaseCheck_standing s) (by simp)

/-- The head has no record. -/
theorem headIdle (h : Nowhere tk s) (m : Option Nat) : Nowhere tk { s with head := .idle, marriageTimer := m } :=
  ⟨fun st => by cases st with
    | head => exact List.not_mem_nil
    | gated => exact h.places .gated
    | infeed => exact h.places .infeed
    | entry => exact h.places .entry
    | press => exact h.places .press
    | jacket => exact h.places .jacket
    | delivery => exact h.places .delivery
    | admitted => exact List.not_mem_nil
    | retiring => exact List.not_mem_nil, h.s3, h.s5⟩

theorem retire (h : Nowhere tk s) (t : Ticket) (o : BookOutcome) (e : Option Reason) : Nowhere tk (retire t o e s) := by
  have dropped {x : Option Ticket} (other : x ≠ some tk) : dropTicket t x ≠ some tk := by
    unfold dropTicket
    split
    · nofun
    · exact other
  cases live : liveRecord t s with
  | none =>
    rw [retire_absent live]
    exact h.frame (by simp) (by simp) (by simp) (by simp)
  | some r =>
    have readers := (retire_places live o e).2.1
    refine ⟨fun st => ?_, ?_, ?_⟩
    · by_cases head : st = .head
      · subst head
        have same : standing (Machine.retire t o e s) .head = standing s .head := by simp [standing]
        rw [same]
        exact h.places .head
      · rw [standing_retire live o e head]
        exact fun mem => h.places st (List.mem_filter.1 mem).1
    · rw [readers]
      exact dropped h.s3
    · rw [readers]
      exact dropped h.s5

/-- The record at the head is another. -/
theorem headTakes (h : Nowhere tk s) {t : Ticket} (other : t ≠ tk) (tracks : u.tracks = s.tracks)
    (positions : u.press.positions = s.press.positions) (head : standing u .head = [t]) (readers : u.readers = s.readers) :
    Nowhere tk u := by
  refine ⟨fun st => ?_, by rw [readers]; exact h.s3, by rw [readers]; exact h.s5⟩
  by_cases isHead : st = .head
  · rw [isHead, head]
    simpa using Ne.symm other
  · have same : standing u st = standing s st := by
      cases st with
      | head => exact absurd rfl isHead
      | _ => simp only [standing, tracks, positions]
    rw [same]
    exact h.places st

section Shut

variable (shut : s.line.state ≠ .running)

include shut

theorem leaveInfeed (h : Nowhere tk s) (t : Ticket) : Nowhere tk (leaveInfeed t s) := by
  let left : State := { s with tracks := { s.tracks with infeed := s.tracks.infeed.filter fun e => !(e.ticket == t) } }
  have there : Nowhere tk left := by
    refine ⟨fun st => ?_, h.s3, h.s5⟩
    by_cases infeed : st = .infeed
    · subst infeed
      intro mem
      obtain ⟨e, kept, same⟩ := List.mem_map.1 mem
      exact h.places .infeed (List.mem_map.2 ⟨e, (List.mem_filter.1 kept).1, same⟩)
    · have same : standing left st = standing s st := by
        cases st with
        | infeed => exact absurd rfl infeed
        | _ => rfl
      rw [same]
      exact h.places st
  have closed : Machine.leaveInfeed t s = setStage .head t left := by
    rw [Machine.leaveInfeed, gateTest_shut (by simpa using shut)]
  rw [closed]
  exact there.frame (by simp) (by simp) (by simp) (by simp)

theorem arrive (h : Nowhere tk s) {t : Ticket} (other : t ≠ tk) : Nowhere tk (arrive t s) := by
  have left := h.leaveInfeed shut t
  unfold Machine.arrive
  dsimp only
  split
  · have sent : Nowhere tk (send .s3Eject (Machine.leaveInfeed t s)) := left.frame (by simp) (by simp) (by simp) (by simp)
    exact (sent.retire t _ _).releaseCheck
  · split
    · exact left
    · next r _ =>
      split
      · refine (left.headTakes other ?_ ?_ (laneDecision_standing t _ _) ?_).releaseCheck <;> simp [startWait]
      · exact (left.headTakes other (u := { startWait (Machine.leaveInfeed t s) with head := .waitTitle t })
          rfl rfl rfl rfl).releaseCheck

theorem actWaitingS3 (h : Nowhere tk s) : Nowhere tk (actWaitingS3 s) := by
  unfold Machine.actWaitingS3
  split
  · split
    · next t waits =>
      let v : State := { s with readers := { s.readers with s3 := { s.readers.s3 with waiting := none } } }
      have taken : Nowhere tk v := h.setReaders _ nofun h.s5
      exact Nowhere.arrive (s := v) shut taken fun same => h.s3 (waits.trans (congrArg some same))
    · exact h
  · exact h

theorem headGivesUp (h : Nowhere tk s) (t : Ticket) : Nowhere tk (headGivesUp t s) := by
  unfold Machine.headGivesUp
  split
  · split
    · exact Nowhere.actWaitingS3 (s := { s with head := .idle }) shut (h.headIdle s.marriageTimer)
    · exact h
  · exact h

end Shut

/-- R54: the waiting marriage is that of the record at the head. -/
theorem takeWaiting (h : Nowhere tk s) : Nowhere tk (takeWaiting s) := by
  unfold Machine.takeWaiting
  split
  · split
    · next t l head =>
      split
      · have other : t ≠ tk := fun same => h.places .head (by simp [standing, head, same])
        refine ⟨fun st => ?_, by simpa using h.s3, by simpa using h.s5⟩
        by_cases entry : st = .entry
        · subst entry
          simpa [takeMarriage, standing] using Ne.symm other
        · by_cases isHead : st = .head
          · subst isHead
            simp [takeMarriage, standing]
          · have same : standing (takeMarriage t l s) st = standing s st := by
              cases st with
              | entry => exact absurd rfl entry
              | head => exact absurd rfl isHead
              | _ => simp [takeMarriage, standing]
            rw [same]
            exact h.places st
      · exact h
    · exact h
  · exact h

/-- R142, R144: a book other than `tk` arrives at S5 and may go on into the delivery track. -/
theorem jacketArrival (h : Nowhere tk s) (still : s.line.state.feeds = false) {t : Ticket} (other : t ≠ tk) :
    Nowhere tk (jacketArrival t s) := by
  obtain ⟨press, readers, head, -, -, -, -, -, tracks⟩ := jacketArrival_still still t
  rcases tracks with same | moved
  · exact h.frame same (by rw [press]) head readers
  · refine ⟨fun st => ?_, by rw [readers]; exact h.s3, by rw [readers]; exact h.s5⟩
    have stands (st : Stage) : standing (Machine.jacketArrival t s) st = standing { s with tracks := { s.tracks with
        jacket := s.tracks.jacket.filter (fun x => !(x == t)), delivery := s.tracks.delivery ++ [t] } } st :=
      standing_congr moved (by rw [press]) (by simp only [standing, head]) st
    rw [stands]
    cases st with
    | jacket => exact fun mem => h.places .jacket (List.mem_filter.1 mem).1
    | delivery =>
      intro mem
      rcases List.mem_append.1 mem with there | there
      · exact h.places .delivery there
      · exact other (List.mem_singleton.1 there).symm
    | head => exact h.places .head
    | gated => exact h.places .gated
    | infeed => exact h.places .infeed
    | entry => exact h.places .entry
    | press => exact h.places .press
    | admitted => exact h.places .admitted
    | retiring => exact h.places .retiring

theorem actWaitingS5 (h : Nowhere tk s) (still : s.line.state.feeds = false) : Nowhere tk (actWaitingS5 s) := by
  unfold Machine.actWaitingS5
  split
  · split
    · next t waits =>
      let v : State := { s with readers := { s.readers with s5 := { s.readers.s5 with waiting := none } } }
      have taken : Nowhere tk v := h.setReaders _ h.s3 nofun
      exact taken.jacketArrival still fun same => h.s5 (waits.trans (congrArg some same))
    · exact h
  · exact h

end Nowhere

end Sys2Proof.Machine
end

section
/-! Force Retire (R21, R22). -/

namespace Sys2Proof.Machine

/-- R21: in the line states of Force Retire the line neither feeds nor runs out. -/
theorem LineState.maintenance_stands {st : LineState} (stands : st.maintenance = true) :
    st.feeds = false ∧ st ≠ .running ∧ st ≠ .runningOut := by
  cases st <;> simp_all [LineState.maintenance, LineState.feeds]

theorem HeadWork.press_settings {s u : State} (h : HeadWork s u) : u.press.state = s.press.state ∧ u.press.temp = s.press.temp ∧
    u.press.index = s.press.index ∧ u.press.carried = s.press.carried ∧ u.press.pd = s.press.pd := by
  rw [h.press]
  exact ⟨rfl, rfl, rfl, rfl, rfl⟩

theorem actWaitingS5_still {s : State} (still : s.line.state.feeds = false) :
    let u := actWaitingS5 s
    u.press = s.press ∧ u.jackets.mode = s.jackets.mode ∧ u.jackets.mismatch = s.jackets.mismatch ∧ u.titles = s.titles ∧
      u.pendingTitles = s.pendingTitles ∧ u.retiring = s.retiring := by
  unfold actWaitingS5
  split
  · split
    · next t waits =>
      obtain ⟨press, -, -, mode, mismatch, titles, pendingTitles, retiring, -⟩ := jacketArrival_still
        (s := { s with readers := { s.readers with s5 := { s.readers.s5 with waiting := none } } }) still t
      exact ⟨press, mode, mismatch, titles, pendingTitles, retiring⟩
    · simp
  · simp

/-- R22: what the owner of the emptied place leaves of pace, press and jacketer while the line stands. -/
theorem forcedConsequence_settings {s : State} (stands : s.line.state.maintenance = true) (t : Ticket) (st : Stage) :
    let u := forcedConsequence t st s
    u.pace.floors = s.pace.floors ∧ u.pace.inForce = s.pace.inForce ∧ u.press.state = s.press.state ∧
      u.press.temp = s.press.temp ∧ u.press.index = s.press.index ∧ u.press.carried = s.press.carried ∧
      u.jackets.mode = s.jackets.mode ∧ u.jackets.mismatch = s.jackets.mismatch := by
  have still := (LineState.maintenance_stands stands).1
  cases st with
  | infeed => simp [forcedConsequence]
  | head =>
    have press := ((HeadWork.releaseCheck (clearHead s)).trans (.actWaitingS3 _)).press_settings
    simp [forcedConsequence, forcedAtHead, press]
  | entry =>
    have press := (HeadWork.headGivesUp t (recomputeDemand (takeWaiting s))).press_settings
    simp only [forcedConsequence, forcedAtEntry, press]
    simp [recomputeDemand]
  | press =>
    simp only [forcedConsequence]
    rw [indexRetest_still (by simpa using still)]
    simp [recomputeDemand]
  | jacket =>
    simp only [forcedConsequence]
    rw [indexRetest_still (by simpa using still)]
    unfold forcedAtJacketer
    split
    · simp
    · split <;> simp
  | delivery =>
    obtain ⟨press, mode, mismatch, -⟩ := actWaitingS5_still still
    simp [forcedConsequence, press, mode, mismatch]
  | _ => simp [forcedConsequence]

/-- R22: with no reading that waits at S3 nothing retires and no title changes behind a forced book. -/
theorem forcedConsequence_quiet {s : State} (stands : s.line.state.maintenance = true) (quiet : s.readers.s3.waiting = none)
    (t : Ticket) (st : Stage) : SameTitles s (forcedConsequence t st s) ∧ (forcedConsequence t st s).retiring = s.retiring := by
  have still := (LineState.maintenance_stands stands).1
  have given (u : State) (waits : u.readers.s3.waiting = none) :
      SameTitles u (headGivesUp t u) ∧ (headGivesUp t u).retiring = u.retiring := by
    unfold headGivesUp
    split
    · split
      · rw [actWaitingS3_none (s := { u with head := .idle }) waits]
        exact ⟨⟨rfl, rfl⟩, rfl⟩
      · exact ⟨⟨rfl, rfl⟩, rfl⟩
    · exact ⟨⟨rfl, rfl⟩, rfl⟩
  cases st with
  | infeed => simp [forcedConsequence, SameTitles]
  | head =>
    simp only [forcedConsequence, forcedAtHead]
    rw [actWaitingS3_none (by simpa using quiet)]
    simp [SameTitles]
  | entry =>
    have kept := given (recomputeDemand (takeWaiting s)) (by simpa using quiet)
    simpa [forcedConsequence, forcedAtEntry, SameTitles] using kept
  | press =>
    simp only [forcedConsequence]
    rw [indexRetest_still (by simpa using still)]
    simp [SameTitles]
  | jacket =>
    simp only [forcedConsequence]
    rw [indexRetest_still (by simpa using still)]
    simp [SameTitles]
  | delivery =>
    obtain ⟨-, -, -, titles, pendingTitles, retiring⟩ := actWaitingS5_still still
    exact ⟨⟨titles, pendingTitles⟩, retiring⟩
  | _ => exact ⟨⟨rfl, rfl⟩, rfl⟩

/-- R9, R22: the place of the forced book is empty, whatever comes behind it. -/
theorem forcedConsequence_nowhere {tk : Ticket} {s : State} (stands : s.line.state.maintenance = true)
    (places : ∀ st, st ≠ .head → tk ∉ standing s st) (s3 : s.readers.s3.waiting ≠ some tk) (s5 : s.readers.s5.waiting ≠ some tk)
    {st : Stage} (head : st ≠ .head → tk ∉ standing s .head) : Nowhere tk (forcedConsequence tk st s) := by
  obtain ⟨still, shut, -⟩ := LineState.maintenance_stands stands
  by_cases atHead : st = .head
  · subst atHead
    have cleared : Nowhere tk (clearHead s) := by
      refine ⟨fun st => ?_, s3, s5⟩
      by_cases isHead : st = .head
      · subst isHead
        exact List.not_mem_nil
      · have same : standing (clearHead s) st = standing s st := by
          cases st with
          | head => exact absurd rfl isHead
          | _ => rfl
        rw [same]
        exact places st isHead
    exact Nowhere.actWaitingS3 (by simpa using shut) cleared.releaseCheck
  · have here : Nowhere tk s := by
      refine ⟨fun st => ?_, s3, s5⟩
      by_cases isHead : st = .head
      · subst isHead
        exact head atHead
      · exact places st isHead
    cases st with
    | head => exact absurd rfl atHead
    | infeed =>
      simp only [forcedConsequence, gateTest_shut shut]
      exact here.releaseCheck
    | entry =>
      refine Nowhere.headGivesUp (by simpa using shut) ?_ tk
      exact here.takeWaiting.frame (by simp) (by simp [recomputeDemand]) (by simp) (by simp)
    | press =>
      simp only [forcedConsequence]
      rw [indexRetest_still (by simpa using still)]
      exact here.frame (by simp) (by simp [recomputeDemand]) (by simp) (by simp)
    | jacket =>
      simp only [forcedConsequence]
      rw [indexRetest_still (by simpa using still)]
      exact here.frame (by simp) (by simp) (by simp) (by simp)
    | delivery => exact here.actWaitingS5 still
    | _ => exact here

end Sys2Proof.Machine
end

section
/-! What an accepted Force Retire leaves, stage by stage (R21, R22). -/
namespace Sys2Proof.Machine

theorem headGivesUp_eq (t : Ticket) (s : State) :
    headGivesUp t s = if s.head.married t then actWaitingS3 { s with head := .idle } else s := by
  unfold headGivesUp
  split
  · next head => simp [head, Head.married]
  · next other =>
    have unmarried : s.head.married t = false := by
      cases head : s.head with
      | holdMarried u l => exact absurd head (other u l)
      | _ => rfl
    simp [unmarried]

theorem forcedAtJacketer_eq (t : Ticket) (s : State) : forcedAtJacketer t s = { s with
    jackets :=
      if s.jackets.state = Jacketing.verify t then { s.jackets with state := .free }
      else if s.jackets.state = Jacketing.applying t then
        { s.jackets with state := .free, sequence := s.jackets.sequence.tail }
      else s.jackets } := by
  unfold forcedAtJacketer
  split
  · rfl
  · split <;> rfl

theorem filled_findRecord (tk : Ticket) (q : QueuedRequest) (body : List Word) (u : State) :
    findRecord tk (filled q body u) = findRecord tk u := by simp [findRecord]

theorem filled_liveRecord (tk : Ticket) (q : QueuedRequest) (body : List Word) (u : State) :
    liveRecord tk (filled q body u) = liveRecord tk u := by rw [liveRecord, filled_findRecord, liveRecord]

/-- R21: the state that an accepted Force Retire leaves. -/
def forcedState (tk : Ticket) (st : Stage) (s : State) : State := settleLine (forcedConsequence tk st (retire tk .forced none s))

theorem retired_waiting {tk : Ticket} {r : BookRecord} {s : State} (live : liveRecord tk s = some r)
    (quiet : s.readers.s3.waiting = none) : (retire tk .forced none s).readers.s3.waiting = none := by
  rw [(retire_places live .forced none).2.1]
  exact dropTicket_none quiet

/-! ### What an accepted Force Retire leaves -/

section Forced

variable {tk : Ticket} {r : BookRecord} {s : State} (stands : s.line.state.maintenance = true)

include stands

theorem forcedState_eq {st : Stage} : forcedState tk st s = idleRefresh (forcedConsequence tk st (retire tk .forced none s)) := by
  rw [forcedState, settleLine, runOutTest_other (by simpa using (LineState.maintenance_stands stands).2.2)]

theorem forcedState_settings (live : liveRecord tk s = some r) : let u := forcedState tk r.stage s
    u.line = s.line ∧ u.params = s.params ∧ u.ports = s.ports ∧ u.pace.floors = s.pace.floors ∧
      u.pace.inForce = s.pace.inForce ∧ u.press.state = s.press.state ∧ u.press.temp = s.press.temp ∧
      u.press.index = s.press.index ∧ u.press.carried = s.press.carried ∧ u.jackets.mode = s.jackets.mode ∧
      u.jackets.mismatch = s.jackets.mismatch := by
  intro u
  have same : u = _ := forcedState_eq stands
  obtain ⟨floors, inForce, state, temp, index, carried, mode, mismatch⟩ :=
    forcedConsequence_settings (s := retire tk .forced none s) (by simpa using stands) tk r.stage
  obtain ⟨-, -, press⟩ := retire_places live .forced none
  rw [press] at state temp index carried
  rw [same]
  exact ⟨by simp, by simp, by simp, floors.trans (by simp), inForce.trans (by simp), state, temp, index, carried,
    mode.trans (by simp), mismatch.trans (by simp)⟩

theorem forcedState_quiet (quiet : s.readers.s3.waiting = none) (live : liveRecord tk s = some r) :
    let u := forcedState tk r.stage s
    SameTitles (retire tk .forced none s) u ∧ u.retiring = (retire tk .forced none s).retiring := by
  have kept := forcedConsequence_quiet (s := retire tk .forced none s) (by simpa using stands) (retired_waiting live quiet) tk r.stage
  simpa [forcedState, SameTitles] using kept

/-- R22: at ADMITTED and GATED nothing follows. -/
theorem forcedState_early {st : Stage} (early : st = .admitted ∨ st = .gated) :
    forcedState tk st s = idleRefresh (retire tk .forced none s) := by
  rw [forcedState_eq stands]
  rcases early with rfl | rfl <;> rfl

theorem forcedState_head (live : liveRecord tk s = some r) (quiet : s.readers.s3.waiting = none) :
    (forcedState tk .head s).head = .idle ∧ (forcedState tk .head s).marriageTimer = none := by
  have waits := retired_waiting live quiet
  have idle : (releaseCheck (clearHead (retire tk .forced none s))).head = .idle ∧
      (releaseCheck (clearHead (retire tk .forced none s))).marriageTimer = none := by
    unfold releaseCheck
    dsimp only
    split
    · rw [decideAgain_other (by simp)]
      simp
    · simp
  rw [forcedState_eq stands]
  simp only [forcedConsequence, forcedAtHead]
  rw [actWaitingS3_none (s := releaseCheck (clearHead (retire tk .forced none s))) (by simpa using waits)]
  simpa using idle

theorem forcedState_entry (live : liveRecord tk s = some r) (quiet : s.readers.s3.waiting = none) : ∃ h,
    forcedState tk .entry s = idleRefresh { recomputeDemand (takeWaiting (retire tk .forced none s)) with head := h } ∧
      ∀ l, (takeWaiting (retire tk .forced none s)).head = .holdMarried tk l → h = .idle := by
  have waits := retired_waiting live quiet
  rw [forcedState_eq stands]
  simp only [forcedConsequence, forcedAtEntry]
  rw [headGivesUp_eq]
  split
  · rw [actWaitingS3_none (by simpa using waits)]
    exact ⟨.idle, rfl, fun _ _ => rfl⟩
  · next unmarried =>
    refine ⟨_, rfl, fun l head => absurd ?_ unmarried⟩
    rw [show (recomputeDemand (takeWaiting (retire tk .forced none s))).head = .holdMarried tk l by simpa using head]
    exact beq_self_eq_true tk

theorem forcedState_press : forcedState tk .press s = idleRefresh (recomputeDemand (retire tk .forced none s)) := by
  rw [forcedState_eq stands]
  simp only [forcedConsequence]
  rw [indexRetest_still (by simpa using (LineState.maintenance_stands stands).1)]

theorem forcedState_jacket : forcedState tk .jacket s = idleRefresh (forcedAtJacketer tk (retire tk .forced none s)) := by
  rw [forcedState_eq stands]
  simp only [forcedConsequence]
  rw [indexRetest_still (by simpa using (LineState.maintenance_stands stands).1)]

theorem forcedState_nowhere (live : liveRecord tk s = some r) (records : RecordInv s) (places : PlaceInv s) :
    Nowhere tk (forcedState tk r.stage s) := by
  have readers := (retire_places live .forced none).2.1
  have dropped (x : Option Ticket) : dropTicket tk x ≠ some tk := fun same => (dropTicket_eq_some.1 same).2 rfl
  have emptied : Nowhere tk (forcedConsequence tk r.stage (retire tk .forced none s)) := by
    refine forcedConsequence_nowhere (by simpa using stands) (fun st notHead => ?_) ?_ ?_ fun notHead => ?_
    · rw [standing_retire live .forced none notHead]
      simp
    · rw [readers]
      exact dropped _
    · rw [readers]
      exact dropped _
    · have same : standing (retire tk .forced none s) .head = standing s .head := by simp [standing]
      rw [same]
      exact places.not_standing records live notHead nofun nofun
  rw [forcedState_eq stands]
  exact emptied.frame (by simp) (by simp [idleRefresh]) (by simp) (by simp)

end Forced

theorem forcedState_gone (tk : Ticket) (st : Stage) (s : State) : Gone tk (retire tk .forced none s) (forcedState tk st s) :=
  .acts ((forcedConsequence_acts (b := false) nofun).trans (settleLine_acts _))

theorem liveRecord_retired (tk : Ticket) (o : BookOutcome) (e : Option Reason) (s : State) : liveRecord tk (retire tk o e s) = none :=
  offerAll_none (liveRecord_enterRetiring tk o e s).1

/-- Settles O21: the refusals, what is done in the place of the forced book, and what holds behind it. -/
theorem forceRetireRetiresTheRecord : Obligations.ForceRetireRetiresTheRecord := by
  intro tk n rest s q queued range
  have handled : handleOf q.request (served rest s) = handleForceRetire tk (served rest s) := rfl
  have inRange : ¬ticketInRange tk = false := by simp [range]
  refine ⟨fun runs => exec_refused queued ?_, fun stands => ?_⟩
  · have refused : (served rest s).line.state.maintenance = false := by
      rcases runs with state | state | state <;> simp [LineState.maintenance, state]
    rw [handled, handleForceRetire, if_neg inRange, if_pos refused]
    rfl
  have maintained : (served rest s).line.state.maintenance = true := by
    rcases stands with state | state | state <;> simp [LineState.maintenance, state]
  have notRefused : ¬(served rest s).line.state.maintenance = false := by rw [maintained]; nofun
  refine ⟨fun missing => exec_refused queued ?_, fun r live => ?_, fun r live => ?_⟩
  · have missing' : liveRecord tk (served rest s) = none := missing
    rw [handled, handleForceRetire, if_neg inRange, if_neg notRefused, missing']
    rfl
  all_goals
    have live' : liveRecord tk (served rest s) = some r := live
    have accepted : handleOf q.request (served rest s) = accept (forcedState tk r.stage (served rest s)) [] := by
      rw [handled, handleForceRetire, if_neg inRange, if_neg notRefused, live']
      rfl
  · intro y married acted x
    have same : forcedConsequence tk r.stage y = acted := by
      simp only [acted]
      cases r.stage with
      | entry => exact headGivesUp_eq tk _
      | jacket => exact congrArg indexRetest (forcedAtJacketer_eq tk y)
      | _ => rfl
    rw [show x = settleLine (forcedConsequence tk r.stage y) from congrArg settleLine same.symm]
    exact exec_accepted queued accepted
  · obtain ⟨retiredFull, retiredRoom, -⟩ := retirementOfARecord tk .forced none r (served rest s) live'
    obtain ⟨line, params, ports, floors, inForce, state, temp, index, carried, mode, mismatch⟩ :=
      forcedState_settings maintained live'
    have gone := forcedState_gone tk r.stage (served rest s)
    have notLive := liveRecord_retired tk .forced none (served rest s)
    refine ⟨_, exec_accepted queued accepted, filled_answered accepted, ?_, fun full => ?_, fun room order => ?_,
      fun records places st => ?_, by simpa using line, by simpa using params, by simpa using ports, by simpa using floors,
      by simpa using inForce, by simpa using state, by simpa using temp, by simpa using index, by simpa using carried,
      by simpa using mode, by simpa using mismatch, fun alone => ?_, fun early => ?_, fun stage alone => ?_,
      fun stage unmarried alone entry => ?_, fun demanded => ?_, fun stage => ?_⟩
    · rw [filled_liveRecord]
      exact gone.live notLive
    · obtain ⟨-, -, link, found, -⟩ := retiredFull full
      rw [filled_findRecord, gone.found notLive (.inl (by rw [link]; exact full)), found]
      rfl
    · obtain ⟨-, left, link, -⟩ := retiredRoom room order
      have absent : findRecord tk (retire tk .forced none (served rest s)) = none := by
        rw [findRecord, left, List.find?_eq_none]
        intro x mem
        simpa using (List.mem_filter.1 mem).2
      refine ⟨by rw [filled_findRecord, gone.found notLive (.inr absent), absent], ?_⟩
      have noticed := gone.notices
      rw [link] at noticed
      simpa using noticed.subset (List.mem_append_right _ (List.mem_singleton_self _))
    · have same := standing_congr (s := forcedState tk r.stage (served rest s))
        (u := filled q [] (forcedState tk r.stage (served rest s))) (by simp) (by simp) (by simp [standing]) st
      rw [same]
      exact (forcedState_nowhere maintained live' (records.congr rfl rfl) (places.congr rfl rfl rfl rfl rfl rfl)).places st
    · rw [retire_served tk _ _ rest s]
      simpa [SameTitles] using forcedState_quiet maintained alone live'
    · rw [retire_served tk _ _ rest s, forcedState_early maintained early]
      simp [SameBooks, SameTitles, SameTracks, SameNotices, SameLanes, Sent]
    · rw [stage]
      simpa using forcedState_head maintained live' alone
    · obtain ⟨h, same, gives⟩ := forcedState_entry maintained live' alone
      obtain ⟨tracks, -, -⟩ := retire_places live' .forced none
      have none' : takeWaiting (retire tk .forced none (served rest s)) = retire tk .forced none (served rest s) :=
        takeWaiting_none (by rw [tracks]; exact dropTicket_none unmarried)
      rw [none'] at same gives
      rw [stage, same]
      refine ⟨?_, fun l head => ?_⟩
      · simp [tracks, forgetTicket, vacate, entry, dropTicket]
      · simpa using gives l (by simpa using head)
    · have recomputed (x : State) (h : Head) : DemandInv (filled q [] (idleRefresh { recomputeDemand x with head := h })) :=
        (DemandInv.recomputed x).congr (by simp) (by simp) (by simp [idleRefresh]) (by simp [idleRefresh]) (by simp)
          (by simp [idleRefresh])
      rcases demanded with stage | ⟨stage, alone⟩
      · rw [stage, forcedState_press maintained]
        exact recomputed _ _
      · obtain ⟨h, same, -⟩ := forcedState_entry maintained live' alone
        rw [stage, same]
        exact recomputed _ h
    · rw [stage, forcedState_jacket maintained, forcedAtJacketer_eq]
      exact ⟨fun verify => by simp [verify], fun applying => by simp [applying]⟩

end Sys2Proof.Machine
end

section
/-! RELEASE (R69, R171): the unresolved reads evaluated again. -/

namespace Sys2Proof.Machine

/-! ### What a read evaluated again comes to (R64, R69) -/

theorem evaluateAgain_none {i : ReaderId} {s : State} (resolved : (s.readers.get i).unresolved = none) : evaluateAgain i s = s := by
  rw [evaluateAgain, resolved]

section Evaluated

variable {i : ReaderId} {rd : Reading Ticket} {s : State} (kept : (s.readers.get i).unresolved = some rd)

include kept

theorem evaluateAgain_takes : evaluateAgain i s =
    takeReading i rd (setReader i ⟨(s.readers.get i).last, (s.readers.get i).waiting, none⟩ s) := by
  rw [evaluateAgain, kept]

theorem evaluateAgain_ignored (ignored : ReadIgnored (s.readers.get i) (expectedBook i s) rd) : evaluateAgain i s =
    setReader i ⟨(s.readers.get i).last, (s.readers.get i).waiting, none⟩ s := by
  have expects : expectedBook i (setReader i ⟨(s.readers.get i).last, (s.readers.get i).waiting, none⟩ s) = expectedBook i s := by
    cases i <;> rfl
  rw [evaluateAgain_takes kept, takeReading, expects, judge_ignored]
  rw [setReader_readers, Readers.get_put_same]
  exact ignored

theorem evaluateAgain_fault (heard : ¬ReadIgnored (s.readers.get i) (expectedBook i s) rd)
    (notNamed : ¬∃ tk, rd = .named tk ∧ expectedBook i s = some tk) (unread : rd = .unreadable → expectedBook i s = none) :
    evaluateAgain i s = produce (.fault .sequence i.station (expectedBook i s) (some rd)) (enterFault .sequence s) := by
  let v := setReader i ⟨(s.readers.get i).last, (s.readers.get i).waiting, none⟩ s
  have expects : expectedBook i v = expectedBook i s := by cases i <;> rfl
  have reader : v.readers.get i = ⟨(s.readers.get i).last, (s.readers.get i).waiting, none⟩ := Readers.get_put_same ..
  have judged : judge (v.readers.get i) (expectedBook i v) rd = .sequenceFault := by
    rw [reader, expects]
    exact judge_fault heard rfl notNamed unread
  have back : setReader i { v.readers.get i with unresolved := some rd } v = s := by
    have same : ({ v.readers.get i with unresolved := some rd } : Reader) = s.readers.get i := by
      rw [reader, ← kept]
    rw [same]
    simp [v, setReader]
  rw [evaluateAgain_takes kept]
  change takeReading i rd v = _
  rw [takeReading, judged]
  simp only [sequenceFault]
  rw [back, expects]

theorem evaluateAgain_accepts {tk : Ticket} (heard : ¬ReadIgnored (s.readers.get i) (expectedBook i s) rd)
    (expected : expectedBook i s = some tk) (read : rd = .unreadable ∨ rd = .named tk) :
    evaluateAgain i s = acceptedEffect i tk (if rd = .unreadable then
      setFlag .unverified tk { s with readers := s.readers.put i ⟨some tk, (s.readers.get i).waiting, none⟩ }
      else { s with readers := s.readers.put i ⟨some tk, (s.readers.get i).waiting, none⟩ }) := by
  let v := setReader i ⟨(s.readers.get i).last, (s.readers.get i).waiting, none⟩ s
  have expects : expectedBook i v = expectedBook i s := by cases i <;> rfl
  have reader : v.readers.get i = ⟨(s.readers.get i).last, (s.readers.get i).waiting, none⟩ := Readers.get_put_same ..
  have marked : setReader i { v.readers.get i with last := some tk } v =
      { s with readers := s.readers.put i ⟨some tk, (s.readers.get i).waiting, none⟩ } := by
    rw [reader]
    simp [v, setReader]
  rw [evaluateAgain_takes kept]
  have taken := takeReading_accepts (i := i) (rd := rd) (tk := tk) (s := v) (by rw [reader, expects]; exact heard)
    (by rw [reader]) (expects.trans expected) read
  rw [marked] at taken
  exact taken

end Evaluated

/-- Every read that is evaluated again is ignored, a sequence fault, or accepted. -/
theorem reading_cases {i : ReaderId} {rd : Reading Ticket} {s : State} (heard : ¬ReadIgnored (s.readers.get i) (expectedBook i s) rd) :
    (¬∃ tk, rd = .named tk ∧ expectedBook i s = some tk) ∧ (rd = .unreadable → expectedBook i s = none) ∨
    ∃ tk, expectedBook i s = some tk ∧ (rd = .unreadable ∨ rd = .named tk) := by
  cases expected : expectedBook i s with
  | none => exact .inl ⟨by simp, fun _ => rfl⟩
  | some tk =>
    cases rd with
    | unreadable => exact .inr ⟨tk, rfl, .inl rfl⟩
    | named u =>
      by_cases same : u = tk
      · exact .inr ⟨tk, rfl, .inr (congrArg _ same)⟩
      · exact .inl ⟨fun ⟨x, isX, isTk⟩ => same (by cases isX; cases isTk; rfl), nofun⟩

/-! ### What it leaves alone while the line stands -/

/-- R171: the line as RELEASE leaves it, STOPPED or held again by a sequence fault. -/
def Released (s : State) : Prop := s.line = ⟨.stopped, some .release⟩ ∨ s.line = ⟨.faultHold, some .sequence⟩

theorem Released.stands {s : State} (released : Released s) : s.line.state.feeds = false ∧ s.line.state ≠ .running ∧
    s.line.state.driveRuns = false ∧ s.line.state ≠ .runningOut := by
  rcases released with line | line <;> rw [line] <;> decide

/-- From `s` to `u` the unresolved read of `i` has been evaluated again. -/
structure Evaluated (i : ReaderId) (s u : State) : Prop where
  resolved : (u.readers.get i).unresolved = none ∧ u.line = s.line ∨
    (u.readers.get i).unresolved = (s.readers.get i).unresolved ∧ (s.readers.get i).unresolved ≠ none ∧
      u.line = ⟨.faultHold, some .sequence⟩
  others : ∀ j, j ≠ i → (u.readers.get j).unresolved = (s.readers.get j).unresolved
  press : u.press = { s.press with positions := u.press.positions }
  noStop : .driveStop ∈ u.out → .driveStop ∈ s.out
  drive : u.drive = s.drive
  positions : (i = .s3 → ∀ t, expectedBook .s3 s = some t → Elsewhere t s) → u.press.positions = s.press.positions

theorem enterFault_released {s : State} (released : Released s) : let u := enterFault .sequence s
    u.line = ⟨.faultHold, some .sequence⟩ ∧ (.driveStop ∈ u.out → .driveStop ∈ s.out) ∧ u.drive = s.drive := by
  have still := released.stands.2.2.1
  rcases released with line | line
  · have enters : enterFault .sequence s = setLine .faultHold .sequence (haltPaste s) := by
      rw [enterFault_enters (by rw [line]; nofun), stopDrive_eq, if_neg (by rw [still]; nofun)]
    intro u
    have same : u = _ := enters
    have halted : (.driveStop ∈ (haltPaste s).out → .driveStop ∈ s.out) ∧ (haltPaste s).drive = s.drive := by
      unfold haltPaste
      split
      · split
        · exact ⟨id, rfl⟩
        · split
          · split
            · exact ⟨id, rfl⟩
            · simp [send_now, PortCommand.toDrive]
          · exact ⟨id, rfl⟩
      · exact ⟨id, rfl⟩
    rw [same]
    simpa using halted
  · rw [enterFault_held (by rw [line])]
    exact ⟨line, id, rfl⟩

/-- R142: what goes out for an arrival at S5 while the line stands. -/
theorem jacketArrival_sends {s : State} (still : s.line.state.feeds = false) (t : Ticket) :
    (.driveStop ∈ (jacketArrival t s).out → .driveStop ∈ s.out) ∧ (jacketArrival t s).drive = s.drive := by
  have passed : passBook t s = _ := (passBook_eq t s).trans (indexRetest_still (by simpa using still))
  unfold jacketArrival
  split
  · simp
  · split
    · rw [passed]
      simp
    · split
      · rw [passed]
        simp
      · split
        · simp [beginVerify_eq]
        · split
          · simp [beginVerify_eq, send_now, PortCommand.toDrive]
          · rw [passed]
            simp

theorem HeadWork.noStop {s u : State} (h : HeadWork s u) : .driveStop ∈ u.out → .driveStop ∈ s.out := by
  obtain ⟨cs, out, own⟩ := h.out
  rw [out]
  intro mem
  exact (List.mem_append.1 mem).elim id fun there => absurd (own _ there) nofun

/-- R65: an accepted reading leaves the line and every unresolved read alone. -/
theorem acceptedEffect_keeps {i : ReaderId} {tk : Ticket} {s : State} (still : s.line.state.feeds = false) :
    let u := acceptedEffect i tk s
    u.line = s.line ∧ (∀ j, (u.readers.get j).unresolved = (s.readers.get j).unresolved) ∧
      u.press = { s.press with positions := u.press.positions } ∧ (.driveStop ∈ u.out → .driveStop ∈ s.out) ∧
      u.drive = s.drive ∧ ((i = .s3 → Elsewhere tk s) → u.press.positions = s.press.positions) := by
  have waits (x : ReaderId) : ∀ j, ((keepWaiting x tk s).readers.get j).unresolved = (s.readers.get j).unresolved := fun j => by
    simp only [keepWaiting, setReader]
    by_cases same : j = x
    · rw [same, Readers.get_put_same]
    · rw [Readers.get_put_other same]
  cases i with
  | s3 =>
    by_cases idle : s.head = .idle
    · have work := HeadWork.arrive tk s
      simp only [acceptedEffect, if_pos idle]
      exact ⟨work.line, work.unresolved, work.press, work.noStop, work.drive, fun away => (arrive_stations (away trivial)).press⟩
    · simp only [acceptedEffect, if_neg idle]
      exact ⟨rfl, waits .s3, rfl, id, rfl, fun _ => rfl⟩
  | s4 => exact ⟨rfl, fun _ => rfl, rfl, id, rfl, fun _ => rfl⟩
  | s5 =>
    by_cases room : s.tracks.delivery.length < Config.deliveryPlaces
    · obtain ⟨press, readers, -⟩ := jacketArrival_still still tk
      obtain ⟨noStop, drive⟩ := jacketArrival_sends still tk
      simp only [acceptedEffect, if_pos room]
      exact ⟨by simp, fun j => by rw [readers], by rw [press], noStop, drive, fun _ => by rw [press]⟩
    · simp only [acceptedEffect, if_neg room]
      exact ⟨rfl, waits .s5, rfl, id, rfl, fun _ => rfl⟩
  | s6 =>
    simp only [acceptedEffect]
    split
    · next r _ =>
      have station : (deliveryCommand r).toDrive = false ∧ deliveryCommand r ≠ .driveStop := by
        simp only [deliveryCommand]
        split <;> exact ⟨rfl, nofun⟩
      rw [send_now (.inl station.1)]
      refine ⟨rfl, fun _ => rfl, rfl, fun mem => ?_, rfl, fun _ => rfl⟩
      exact (List.mem_append.1 mem).elim id fun there => absurd (List.mem_singleton.1 there).symm station.2
    · exact ⟨rfl, fun _ => rfl, rfl, id, rfl, fun _ => rfl⟩

theorem evaluateAgain_evaluated {s : State} (released : Released s) (i : ReaderId) : Evaluated i s (evaluateAgain i s) := by
  have still := released.stands.1
  cases kept : (s.readers.get i).unresolved with
  | none =>
    rw [evaluateAgain_none kept]
    exact ⟨.inl ⟨kept, rfl⟩, fun _ _ => rfl, rfl, id, rfl, fun _ => rfl⟩
  | some rd =>
    have cleared (x : Reader) : ∀ j, j ≠ i → ((s.readers.put i x).get j).unresolved = (s.readers.get j).unresolved := fun j other => by
      rw [Readers.get_put_other other]
    by_cases heard : ReadIgnored (s.readers.get i) (expectedBook i s) rd
    · rw [evaluateAgain_ignored kept heard]
      exact ⟨.inl ⟨by simp, rfl⟩, cleared _, rfl, id, rfl, fun _ => rfl⟩
    · rcases reading_cases heard with ⟨notNamed, unread⟩ | ⟨tk, expected, read⟩
      · rw [evaluateAgain_fault kept heard notNamed unread]
        obtain ⟨line, noStop, drive⟩ := enterFault_released released
        exact ⟨.inr ⟨by simp, by rw [kept]; nofun, by simpa using line⟩, fun j _ => by simp, by simp, by simpa using noStop,
          by simpa using drive, fun _ => by simp⟩
      · let v : State := { s with readers := s.readers.put i ⟨some tk, (s.readers.get i).waiting, none⟩ }
        let w : State := if rd = .unreadable then setFlag .unverified tk v else v
        have frame : w.line = s.line ∧ w.readers = v.readers ∧ w.press = s.press ∧ w.out = s.out ∧ w.drive = s.drive ∧
            w.tracks = s.tracks := by
          simp only [w]
          split <;> simp [v]
        obtain ⟨line, readers, press, out, drive, tracks⟩ := frame
        rw [evaluateAgain_accepts kept heard expected read]
        obtain ⟨line', readers', press', noStop, drive', positions⟩ :=
          acceptedEffect_keeps (i := i) (tk := tk) (s := w) (by rw [line]; exact still)
        refine ⟨.inl ⟨?_, line'.trans line⟩, fun j other => ?_, ?_, fun mem => out ▸ noStop mem, drive'.trans drive, fun away => ?_⟩
        · rw [readers' i, readers]
          simp [v]
        · rw [readers' j, readers]
          exact cleared _ j other
        · exact press'.trans (by rw [press])
        · refine (positions fun isS3 => ?_).trans (by rw [press])
          subst isS3
          exact (away rfl tk expected).congr (.of_frame tracks press)

end Sys2Proof.Machine
end

section
/-! RELEASE leaves FAULT_HOLD (R69, R102, R171). -/

namespace Sys2Proof.Machine

/-- From `p` to `u` the unresolved reads of the stations `done` have been evaluated again. -/
structure EvaluatedAll (done : List ReaderId) (p u : State) : Prop where
  line : u.line = p.line ∧ (∀ i ∈ done, (u.readers.get i).unresolved = none) ∨
    u.line = ⟨.faultHold, some .sequence⟩ ∧ ∃ i ∈ done, (u.readers.get i).unresolved ≠ none
  own : ∀ i ∈ done, (u.readers.get i).unresolved ≠ none → u.line = ⟨.faultHold, some .sequence⟩ ∧
    (u.readers.get i).unresolved = (p.readers.get i).unresolved
  others : ∀ i, i ∉ done → (u.readers.get i).unresolved = (p.readers.get i).unresolved
  press : u.press = { p.press with positions := u.press.positions }
  noStop : .driveStop ∈ u.out → .driveStop ∈ p.out
  drive : u.drive = p.drive

theorem EvaluatedAll.start (p : State) : EvaluatedAll [] p p :=
  ⟨.inl ⟨rfl, nofun⟩, nofun, fun _ _ => rfl, rfl, id, rfl⟩

theorem EvaluatedAll.released {done : List ReaderId} {p u : State} (h : EvaluatedAll done p u) (released : Released p) : Released u := by
  rcases h.line with ⟨line, -⟩ | ⟨line, -⟩
  · rw [Released, line]
    exact released
  · exact .inr line

theorem EvaluatedAll.next {done : List ReaderId} {p u v : State} {i : ReaderId} (h : EvaluatedAll done p u) (fresh : i ∉ done)
    (h' : Evaluated i u v) : EvaluatedAll (i :: done) p v := by
  have apart {j : ReaderId} (mem : j ∈ done) : j ≠ i := fun same => fresh (same ▸ mem)
  have held (line : u.line = ⟨.faultHold, some .sequence⟩) : v.line = ⟨.faultHold, some .sequence⟩ :=
    h'.resolved.elim (fun same => same.2.trans line) fun fault => fault.2.2
  refine ⟨?_, fun j mem kept => ?_, fun j away => ?_, by rw [h'.press, h.press], h.noStop ∘ h'.noStop, h'.drive.trans h.drive⟩
  · rcases h.line with ⟨line, resolved⟩ | ⟨line, j, mem, kept⟩
    · rcases h'.resolved with ⟨none, line'⟩ | ⟨same, kept, line'⟩
      · refine .inl ⟨line'.trans line, fun j mem => ?_⟩
        rcases List.mem_cons.1 mem with rfl | mem
        · exact none
        · rw [h'.others j (apart mem)]
          exact resolved j mem
      · exact .inr ⟨line', i, List.mem_cons_self, by rw [same]; exact kept⟩
    · exact .inr ⟨held line, j, List.mem_cons_of_mem _ mem, by rw [h'.others j (apart mem)]; exact kept⟩
  · rcases List.mem_cons.1 mem with rfl | mem
    · rcases h'.resolved with ⟨none, -⟩ | ⟨same, -, line⟩
      · exact absurd none kept
      · exact ⟨line, same.trans (h.others _ fresh)⟩
    · rw [h'.others j (apart mem)] at kept ⊢
      obtain ⟨line, same⟩ := h.own j mem kept
      exact ⟨held line, same⟩
  · exact (h'.others j fun same => away (same ▸ List.mem_cons_self)).trans
      (h.others j fun mem => away (List.mem_cons_of_mem _ mem))

/-- R69: the unresolved reads, in the order S3, S4, S5, S6. -/
def evaluateReads (s : State) : State := evaluateAgain .s6 (evaluateAgain .s5 (evaluateAgain .s4 (evaluateAgain .s3 s)))

theorem evaluateReads_evaluated {s : State} (released : Released s) :
    EvaluatedAll [.s6, .s5, .s4, .s3] s (evaluateReads s) ∧
      ((∀ t, expectedBook .s3 s = some t → Elsewhere t s) → (evaluateReads s).press.positions = s.press.positions) := by
  have e3 := evaluateAgain_evaluated released .s3
  have h3 := (EvaluatedAll.start s).next List.not_mem_nil e3
  have e4 := evaluateAgain_evaluated (h3.released released) .s4
  have h4 := h3.next (by decide) e4
  have e5 := evaluateAgain_evaluated (h4.released released) .s5
  have h5 := h4.next (by decide) e5
  have e6 := evaluateAgain_evaluated (h5.released released) .s6
  refine ⟨h5.next (by decide) e6, fun away => ?_⟩
  exact (((e6.positions nofun).trans (e5.positions nofun)).trans (e4.positions nofun)).trans (e3.positions fun _ => away)

theorem evaluateReads_none {s : State} (resolved : ∀ i, (s.readers.get i).unresolved = none) : evaluateReads s = s := by
  rw [evaluateReads, evaluateAgain_none (resolved .s3), evaluateAgain_none (resolved .s4), evaluateAgain_none (resolved .s5),
    evaluateAgain_none (resolved .s6)]

/-- R66: the head of the infeed track stands nowhere further on. -/
theorem PlaceInv.expected_elsewhere {s : State} (places : PlaceInv s) (records : RecordInv s) {t : Ticket}
    (expected : expectedBook .s3 s = some t) : Elsewhere t s := by
  have stands : t ∈ standing s .infeed := mem_infeed_of_expected expected
  obtain ⟨r, live, infeed⟩ := places.live_of_standing records (st := .infeed) nofun nofun stands
  have away {st : Stage} (notAdmitted : st ≠ .admitted) (notRetiring : st ≠ .retiring) (other : st ≠ .infeed) :
      t ∉ standing s st := places.not_standing records live (by rw [infeed]; exact other.symm) notAdmitted notRetiring
  exact ⟨by simpa [standing] using away (st := .entry) nofun nofun nofun, away (st := .press) nofun nofun nofun,
    away (st := .jacket) nofun nofun nofun, away (st := .delivery) nofun nofun nofun⟩

theorem overheated_iff (s : State) : overheated s = false ↔ ∀ x, s.press.temp = some x → x < s.params.tRef + 30 := by
  unfold overheated
  split
  · next x temp => simp [temp]
  · next none => simp [none]

theorem pressLeavesFault_stays {s : State} (stays : ¬(s.press.state = .fault ∧ overheated s = false)) : pressLeavesFault s = s :=
  if_neg stays

theorem pressLeavesFault_cools {s : State} (still : s.line.state.feeds = false) (fault : s.press.state = .fault)
    (cools : overheated s = false) : pressLeavesFault s =
      produce (.pressState .warming s.press.temp) { s with press := { s.press with state := .warming } } := by
  rw [pressLeavesFault, if_pos ⟨fault, cools⟩, setPress_changes (by rw [fault]; nofun), indexRetest_still (by simpa using still)]

theorem SameNotices.trans {s u v : State} (h : SameNotices s u) (h' : SameNotices u v) : SameNotices s v := by
  obtain ⟨notices, held, number, attn⟩ := h
  obtain ⟨notices', held', number', attn'⟩ := h'
  exact ⟨notices'.trans notices, held'.trans held, number'.trans number, attn'.trans attn⟩

/-- R102, R171: the state on which the unresolved reads are evaluated again. -/
def releasedLine (s : State) : State := pressLeavesFault (setLine .stopped .release s)

theorem releasedLine_cases (s : State) :
    (s.press.state = .fault ∧ overheated s = false → releasedLine s = produce (.pressState .warming s.press.temp)
      { setLine .stopped .release s with press := { s.press with state := .warming } }) ∧
    (¬(s.press.state = .fault ∧ overheated s = false) → releasedLine s = setLine .stopped .release s) := by
  have heat : overheated (setLine .stopped .release s) = overheated s := by simp [overheated]
  refine ⟨fun ⟨fault, cools⟩ => ?_, fun stays => ?_⟩
  · have cooled := pressLeavesFault_cools (s := setLine .stopped .release s) (by simp [LineState.feeds]) (by simpa using fault)
      (heat.trans cools)
    simpa [releasedLine] using cooled
  · exact pressLeavesFault_stays (by simpa [heat] using stays)

theorem releasedLine_frame (s : State) : let p := releasedLine s
    p.line = ⟨.stopped, some .release⟩ ∧ p.readers = s.readers ∧ p.tracks = s.tracks ∧ p.out = s.out ∧ p.drive = s.drive ∧
      p.press.positions = s.press.positions ∧ p.press.index = s.press.index ∧ p.press.temp = s.press.temp ∧
      p.records = s.records ∧ p.retiring = s.retiring ∧ p.titles = s.titles ∧ p.pendingTitles = s.pendingTitles ∧
      p.lanes = s.lanes ∧ p.head = s.head ∧ p.marriageTimer = s.marriageTimer ∧ p.openChoices = s.openChoices ∧
      p.jackets = s.jackets ∧ p.pace = s.pace ∧ p.params = s.params ∧ p.ports = s.ports := by
  intro p
  obtain ⟨cools, stays⟩ := releasedLine_cases s
  by_cases cooled : s.press.state = .fault ∧ overheated s = false
  · have same : p = _ := cools cooled
    rw [same]
    simp
  · have same : p = _ := stays cooled
    rw [same]
    simp

/-- Settles O37: the order of RELEASE, what it leaves alone, and the cases of a read evaluated again. -/
theorem releaseLeavesFaultHold : Obligations.ReleaseLeavesFaultHold := by
  refine ⟨?_, fun i s => evaluateAgain_none, ?_⟩
  · intro n rest s q queued held
    have allowed : isFaultHold s.line.state = true := by rw [held]; rfl
    obtain ⟨ran, answer⟩ := exec_line queued (f := releaseLine) rfl allowed
    let u := releaseLine (served rest s)
    let p := releasedLine (served rest s)
    obtain ⟨pLine, pReaders, pTracks, pOut, pDrive, pPositions, pIndex, pTemp, pRecords, pRetiring, pTitles, pPending, pLanes, pHead,
      pTimer, pChoices, pJackets, pPace, pParams, pPorts⟩ := releasedLine_frame (served rest s)
    obtain ⟨pCools, pStays⟩ := releasedLine_cases (served rest s)
    have heat : overheated (served rest s) = false ↔ ∀ x, s.press.temp = some x → x < s.params.tRef + 30 := overheated_iff _
    have released : Released p := .inl pLine
    obtain ⟨reads, positions⟩ := evaluateReads_evaluated released
    have settled : u = idleRefresh (evaluateReads p) := by
      have closed : settleLine (evaluateReads p) = idleRefresh (evaluateReads p) := by
        rw [settleLine, runOutTest_other (reads.released released).stands.2.2.2]
      exact closed
    have every (i : ReaderId) : i ∈ [ReaderId.s6, .s5, .s4, .s3] := by cases i <;> decide
    have uReaders : u.readers = (evaluateReads p).readers := by simp [settled]
    have uLine : u.line = (evaluateReads p).line := by simp [settled]
    have uPress : u.press.state = p.press.state ∧ u.press.index = s.press.index ∧ u.press.temp = s.press.temp := by
      simp only [settled, idleRefresh]
      rw [reads.press]
      exact ⟨rfl, pIndex, pTemp⟩
    let t := filled ⟨.lineCommand 5, n⟩ (lineWords u.line.state) u
    have shown : lineWords u.line.state = [numWord t.line.state.code] := by simp [t, lineWords]
    have tReaders : t.readers = (evaluateReads p).readers := by simp [t, uReaders]
    have tLine : t.line = (evaluateReads p).line := by simp [t, uLine]
    have tPress : t.press = u.press := by simp [t]
    refine ⟨t, ran, shown ▸ answer, ⟨fun ⟨fault, cools⟩ => ?_, fun stays => ?_⟩, fun resolved => ?_, fun i kept => ?_,
      fun fault cools => ?_, fun stays => ?_, fun mem => ?_, ?_, fun resolved => ?_, fun records places => ?_, ?_, ?_, ?_, ?_, ?_⟩
    · have same : p = _ := pCools ⟨fault, heat.2 cools⟩
      change filled _ (lineWords (settleLine (evaluateReads p)).line.state) (settleLine (evaluateReads p)) = _
      rw [same]
      rfl
    · have same : p = _ := pStays fun ⟨fault, cools⟩ => stays ⟨fault, heat.1 cools⟩
      change filled _ (lineWords (settleLine (evaluateReads p)).line.state) (settleLine (evaluateReads p)) = _
      rw [same]
      rfl
    · rcases reads.line with ⟨line, -⟩ | ⟨-, i, -, kept⟩
      · rw [tLine, line, pLine]
      · exact absurd (tReaders ▸ resolved i) kept
    · rw [tReaders] at kept ⊢
      obtain ⟨line, same⟩ := reads.own i (every i) kept
      exact ⟨tLine.trans line, same.trans (by rw [pReaders]; rfl)⟩
    · rw [tPress, uPress.1, show p = _ from pCools ⟨fault, heat.2 cools⟩]
      simp
    · rw [tPress, uPress.1, show p = _ from pStays ?_]
      · simp
      · rintro ⟨fault, cools⟩
        rcases stays with other | ⟨x, temp, hot⟩
        · exact other fault
        · exact absurd (heat.1 cools x temp) (Nat.not_lt.2 hot)
    · have there := reads.noStop (by simpa [t, settled] using mem)
      rw [pOut] at there
      exact absurd there List.not_mem_nil
    · have drive := reads.drive.trans pDrive
      simpa [t, settled] using drive
    · have none : evaluateReads p = p := evaluateReads_none fun i => by rw [pReaders]; exact resolved i
      rw [none] at settled
      have stopped : SameNotices (produce (.lineState .stopped .release) s) (setLine .stopped .release (served rest s)) :=
        setLine_sameNotices (s := s) (u := served rest s) ⟨rfl, rfl, rfl, rfl⟩ rfl _ _
      have kept : SameBooks p t ∧ SameTitles p t ∧ SameTracks p t ∧ SameLanes p t ∧ t.jackets = p.jackets ∧ t.out = p.out := by
        simp [t, settled, SameBooks, SameTitles, SameTracks, SameLanes]
      obtain ⟨⟨records, retiring⟩, ⟨titles, pending⟩, ⟨tracks, readers⟩, ⟨lanes, head, timer, choices⟩, jackets, out⟩ := kept
      refine ⟨⟨records.trans pRecords, retiring.trans pRetiring⟩, ⟨titles.trans pTitles, pending.trans pPending⟩,
        ⟨tracks.trans pTracks, readers.trans pReaders⟩,
        ⟨lanes.trans pLanes, head.trans pHead, timer.trans pTimer, choices.trans pChoices⟩, jackets.trans pJackets,
        out.trans pOut, ?_⟩
      have noticed : SameNotices p t := by simp [t, settled, SameNotices]
      by_cases cooled : s.press.state = .fault ∧ overheated (served rest s) = false
      · have same : p = _ := pCools cooled
        have warming : t.press.state = .warming := by rw [tPress, uPress.1, same]; simp
        rw [if_pos ⟨cooled.1, warming⟩]
        have said := produce_sameNotices (u := { setLine .stopped .release (served rest s) with
          press := { s.press with state := .warming } }) stopped (by simp) (.pressState .warming s.press.temp)
        rw [same] at noticed
        exact said.trans noticed
      · have same : p = _ := pStays cooled
        have stands : ¬(s.press.state = .fault ∧ t.press.state = .warming) := fun ⟨fault, warming⟩ => by
          have kept : t.press.state = s.press.state := by rw [tPress, uPress.1, same]; simp
          rw [kept, fault] at warming
          cases warming
        rw [if_neg stands]
        rw [same] at noticed
        exact stopped.trans noticed
    · have away : ∀ tk, expectedBook .s3 p = some tk → Elsewhere tk p := fun tk expected => by
        have expected' : expectedBook .s3 s = some tk := by rw [← expected, expectedBook, expectedBook, pTracks]; rfl
        exact (places.expected_elsewhere records expected').congr ⟨by rw [pTracks]; rfl, pPositions, by rw [pTracks]; rfl,
          by rw [pTracks]; rfl⟩
      have same := (positions away).trans pPositions
      simpa [t, settled, idleRefresh] using same
    · rw [tPress, uPress.2.1]
    · rw [tPress, uPress.2.2]
    · simp [SamePace, t, u]
    · simp [t, u]
    · simp [t, u]
  · intro i rd s kept x e ignored named
    have expects : expectedBook i s = e := by cases i <;> rfl
    refine ⟨fun seen => ?_, fun heard notNamed unread => ?_, fun tk heard expected read => ?_⟩
    · exact evaluateAgain_ignored kept (by rw [expects]; exact seen)
    · rw [← expects]
      exact evaluateAgain_fault kept (by rw [expects]; exact heard) (by rw [expects]; exact notNamed) (by rw [expects]; exact unread)
    · intro s1 s2 waits
      have accepted : evaluateAgain i s = acceptedEffect i tk s2 :=
        evaluateAgain_accepts kept (by rw [expects]; exact heard) (expects.trans expected) read
      have frame : s2.head = s.head ∧ s2.tracks = s.tracks ∧ s2.readers = s1.readers := by
        simp only [s2]
        split <;> simp [s1]
      obtain ⟨head, tracks, readers⟩ := frame
      have keeps : keepWaiting i tk s2 = waits := by
        simp only [keepWaiting, setReader, readers, s1, waits]
        simp
      rw [accepted]
      refine ⟨fun s3 idle => ?_, fun s3 busy => ?_, fun s4 => ?_, fun s5 room => ?_, fun s5 full => ?_, fun r s6 live => ?_⟩
      · subst s3
        exact if_pos (head.trans idle)
      · rw [← keeps]
        subst s3
        exact if_neg (by rw [head]; exact busy)
      · subst s4
        rfl
      · subst s5
        exact if_pos (by rw [tracks]; exact room)
      · rw [← keeps]
        subst s5
        exact if_neg (by rw [tracks]; exact Nat.not_lt.2 full)
      · rw [s6]
        simp only [acceptedEffect, live]
        refine congrArg (fun c => send c s2) ?_
        simp [deliveryCommand]

end Sys2Proof.Machine
end

section
/-! RUN (R162): the line starts. -/

namespace Sys2Proof.Machine

/-! ### The steps of RUN -/

/-- R162: the line RUNNING, with PACE and RUN on their way. -/
def runStarted (s : State) : State := send .driveRun (resendPace (setLine .running .run s))

/-- R162: the lanes purged and the case taken. -/
def runFed (s : State) : State := tryTakeCase (initialPurges (runStarted s))

theorem runLine_eq (s : State) : runLine s = settleLine (gateTest (indexRetest (wakePress (runFed s)))) := rfl

/-- R109: the state on which the head works on behind a held index. -/
def indexAnswered (s : State) : State := if s.press.index = .held ∧ indexPermitted s = true then indexGone s else s

theorem indexRetest_work (s : State) : HeadWork (indexAnswered s) (indexRetest s) := by
  unfold indexAnswered indexRetest
  split
  · exact sendIndexGo_work s
  · exact .refl s

theorem HeadWork.initialPurge (l : LaneId) (s : State) : HeadWork s (initialPurge l s) := by
  unfold Machine.initialPurge
  split
  · next unknown =>
    have purged : HeadWork (Machine.send (.s2Purge l) s) (Machine.startPurge l .initial none s) :=
      { HeadWork.refl (Machine.send (.s2Purge l) s) with
        initial := fun m n purging => by
          refine Lanes.get_put_other (fun same => ?_) _ _
          subst same
          rw [show (Machine.send (.s2Purge m) s).lanes = s.lanes by simp, unknown] at purging
          cases purging
        pastInitial := fun m past => by
          by_cases same : m = l
          · subst same
            rw [show (Machine.send (.s2Purge m) s).lanes = s.lanes by simp, unknown] at past
            cases past
          · rw [show (Machine.startPurge l .initial none s).lanes.get m = (Machine.send (.s2Purge l) s).lanes.get m from Lanes.get_put_other same _ _]
            exact past }
    exact (HeadWork.send rfl s).trans purged
  · exact .refl s

theorem HeadWork.initialPurges (s : State) : HeadWork s (initialPurges s) := by
  unfold Machine.initialPurges
  dsimp only
  split
  · exact ((HeadWork.initialPurge .a s).trans (.initialPurge .b _)).trans (.decideAgain _)
  · exact (HeadWork.initialPurge .a s).trans (.initialPurge .b _)

theorem runFed_work (s : State) : HeadWork (runStarted s) (runFed s) := (HeadWork.initialPurges _).trans (.tryTakeCase _)

theorem closing_work (s : State) : HeadWork (indexAnswered s) (gateTest (indexRetest s)) := (indexRetest_work s).trans (.gateTest _)

theorem runStarted_frame (s : State) : let x := runStarted s
    x.line = ⟨.running, some .run⟩ ∧ x.records = s.records ∧ x.retiring = s.retiring ∧ x.titles = s.titles ∧
      x.pendingTitles = s.pendingTitles ∧ x.tracks = s.tracks ∧ x.readers = s.readers ∧ x.lanes = s.lanes ∧ x.head = s.head ∧
      x.press = s.press ∧ x.link = (setLine .running .run s).link := by
  simp [runStarted]

theorem runStarted_out {s : State} (free : s.drive.stopDue = none) :
    (runStarted s).out = s.out ++ [.drivePace s.pace.commanded, .s4Pace s.pace.commanded, .driveRun] := by
  simp [runStarted, resendPace, send, free]

theorem mem_runStarted {c : PortCommand} {s : State} (mem : c ∈ (runStarted s).out) :
    c ∈ s.out ∨ c = .drivePace s.pace.commanded ∨ c = .s4Pace s.pace.commanded ∨ c = .driveRun := by
  rcases mem_send mem with mem | run
  · rcases mem_send mem with mem | pace
    · rcases mem_send mem with mem | pace
      · exact .inl (by simpa using mem)
      · exact .inr (.inl (by simpa using pace))
    · exact .inr (.inr (.inl (by simpa using pace)))
  · exact .inr (.inr (.inr run))

/-! ### The press that is woken (R119) -/

theorem wakePress_wakes (s : State) : let x := wakePress s
    (∃ cs, x.out = s.out ++ cs ∧ ∀ c ∈ cs, c = .s4Wake) ∧ x.press.positions = s.press.positions ∧
      x.press.index = s.press.index ∧ x.press.carried = s.press.carried ∧ x.press.pd = s.press.pd ∧ x.press.temp = s.press.temp ∧
      (s.press.state = .standby → x.press.state = .warming ∧ .s4Wake ∈ x.out) ∧ (s.press.state ≠ .standby → x = s) ∧
      s.link.notices <+: x.link.notices ∧ x.link.held.lineState = s.link.held.lineState := by
  intro x
  by_cases standby : s.press.state = .standby
  · have same : x = _ := wakePress_standby standby
    let v : State := { s with out := s.out ++ [.s4Wake], press := { s.press with state := .warming } }
    have held : (produce (.pressState .warming s.press.temp) v).link.held.lineState = s.link.held.lineState := by
      rw [produce_eq, producedLink]
      split <;> rfl
    rw [same]
    refine ⟨⟨[.s4Wake], by simp, by simp⟩, by simp, by simp, by simp, by simp, by simp, fun _ => by simp, fun other => absurd standby other,
      produce_notices_prefix _ v, held⟩
  · have same : x = s := by
      rw [show x = wakePress s from rfl, wakePress, if_neg standby]
    rw [same]
    exact ⟨⟨[], by simp, by simp⟩, rfl, rfl, rfl, rfl, rfl, fun is => absurd is standby, fun _ => rfl, List.prefix_rfl, rfl⟩

end Sys2Proof.Machine
end

section
/-! What RUN keeps on its way: the gate that opens behind it, the setpoints of the books, and the places (R59, R110). -/

namespace Sys2Proof.Machine

/-! ### The gate (R59, R60) -/

/-- R59: a block is held at the gate, and the gate is open for it. -/
structure GateReady (tk : Ticket) (s : State) : Prop where
  hold : s.tracks.gateHold = some tk
  running : s.line.state = .running
  ready : s.press.state = .ready
  a : s.lanes.a.pastInitial = true
  b : s.lanes.b.pastInitial = true
  room : s.tracks.infeed.length < 3

/-- R60: the gate is free and S1 has been told. -/
def Admitted (s : State) : Prop := s.tracks.gateHold = none ∧ .s1Admit ∈ s.out

theorem HeadWork.admitted {s u : State} (h : HeadWork s u) (admitted : Admitted s) : Admitted u := by
  obtain ⟨cs, out, -⟩ := h.out
  exact ⟨h.gate admitted.1, by rw [out]; exact List.mem_append_left _ admitted.2⟩

theorem GateReady.gateTest {tk : Ticket} {s : State} (h : GateReady tk s) : Admitted (gateTest s) := by
  have isOpen : gateOpen s = true := (gateOpen_iff s).2 ⟨h.running, h.ready, h.a, h.b, h.room⟩
  have taken : Machine.gateTest s = admitHeld tk s := by
    rw [Machine.gateTest, h.hold]
    exact if_pos isOpen
  rw [taken]
  exact ⟨rfl, by simp [admitHeld, send_now, PortCommand.toDrive]⟩

theorem GateReady.congr {tk : Ticket} {s u : State} (h : GateReady tk s) (tracks : u.tracks = s.tracks) (line : u.line = s.line)
    (press : u.press.state = s.press.state) (lanes : u.lanes = s.lanes) : GateReady tk u :=
  ⟨by rw [tracks]; exact h.hold, by rw [line]; exact h.running, by rw [press]; exact h.ready, by rw [lanes]; exact h.a,
    by rw [lanes]; exact h.b, by rw [tracks]; exact h.room⟩

theorem GateReady.arrive {tk : Ticket} {s : State} (h : GateReady tk s) (t : Ticket) : Admitted (arrive t s) := by
  let left : State := setStage .head t
    { s with tracks := { s.tracks with infeed := s.tracks.infeed.filter fun e => !(e.ticket == t) } }
  have ready : GateReady tk left :=
    ⟨by simpa [left] using h.hold, by simpa [left] using h.running, by simpa [left] using h.ready, by simpa [left] using h.a,
      by simpa [left] using h.b, by simpa [left] using (List.length_filter_le _ _).trans_lt h.room⟩
  have leaves : Admitted (leaveInfeed t s) := ready.gateTest
  exact (HeadWork.arrived t s).admitted leaves

theorem GateReady.actWaitingS3 {tk : Ticket} {s : State} (h : GateReady tk s) :
    GateReady tk (actWaitingS3 s) ∨ Admitted (actWaitingS3 s) := by
  unfold Machine.actWaitingS3
  split
  · split
    · next t _ =>
      let v : State := { s with readers := { s.readers with s3 := { s.readers.s3 with waiting := none } } }
      have ready : GateReady tk v := h.congr rfl rfl rfl rfl
      exact .inr (ready.arrive t)
    · exact .inl h
  · exact .inl h

theorem GateReady.headGivesUp {tk : Ticket} {s : State} (h : GateReady tk s) (t : Ticket) :
    GateReady tk (headGivesUp t s) ∨ Admitted (headGivesUp t s) := by
  unfold Machine.headGivesUp
  split
  · split
    · have ready : GateReady tk { s with head := .idle } := h.congr rfl rfl rfl rfl
      exact ready.actWaitingS3
    · exact .inl h
  · exact .inl h

/-- R60, R162: behind a held index the gate is tested, before an arrival goes on or at the end. -/
theorem GateReady.closing {tk : Ticket} {s : State} (h : GateReady tk s) : Admitted (Machine.gateTest (indexRetest s)) := by
  have retested : GateReady tk (indexRetest s) ∨ Admitted (indexRetest s) := by
    rcases indexRetest_cases s with same | goes
    · rw [same]
      exact .inl h
    · have gone : GateReady tk (indexGone s) := h.congr rfl rfl rfl rfl
      rw [goes, sendIndexGo_eq]
      split
      · exact .inl gone
      · exact gone.headGivesUp _
  rcases retested with ready | admitted
  · exact ready.gateTest
  · exact (HeadWork.gateTest _).admitted admitted

/-! ### The setpoints (R105) -/

/-- Every book holds its force setpoint. -/
def SameForce (s u : State) : Prop := ∀ t, (liveRecord t u).bind (·.force) = (liveRecord t s).bind (·.force)

theorem SameForce.of_records {s u : State} (records : u.records = s.records) : SameForce s u := fun t => by
  rw [liveRecord_congr records]

theorem SameForce.trans {s u v : State} (h : SameForce s u) (h' : SameForce u v) : SameForce s v := fun t => (h' t).trans (h t)

theorem takeCase_force (t : Ticket) (l : LaneId) (k : TitleKey) (n : Nat) (s : State) : SameForce s (takeCase t l k n s) := by
  let v := send (.s3TakeCase l) s
  have sent : SameForce s v := .of_records (by simp [v])
  have taking : SameForce v (changeRecord t (BookRecord.taking l) v) := fun u => by
    by_cases same : u = t
    · subst same
      cases live : liveRecord u v with
      | none => rw [changeRecord_absent live, live]
      | some r =>
        rw [liveRecord_changeRecord_same (BookRecord.taking l)
          (show r.ticket = u from liveRecord_ticket live) (liveRecord_iff.1 live).2 live]
        rfl
    · rw [liveRecord_changeRecord_other (BookRecord.taking l) (fun _ => rfl) same]
  exact (sent.trans taking).trans (.of_records rfl)

theorem tryTakeCase_force (s : State) : SameForce s (tryTakeCase s) := by
  unfold tryTakeCase
  split
  · split
    · split
      · exact takeCase_force _ _ _ _ s
      · exact .of_records rfl
    · exact .of_records rfl
  · exact .of_records rfl

theorem laneDecision_force (t : Ticket) (k : TitleKey) (s : State) : SameForce s (laneDecision t k s) := by
  unfold laneDecision
  split
  · exact (SameForce.of_records rfl).trans (tryTakeCase_force _)
  · repeat' split
    all_goals exact .of_records (by simp)

theorem initialPurges_force (s : State) : SameForce s (initialPurges s) := by
  have purged : SameForce s (initialPurge .b (initialPurge .a s)) := .of_records (by simp)
  unfold initialPurges
  dsimp only
  split
  · refine purged.trans ?_
    unfold decideAgain
    split
    · split
      · exact laneDecision_force _ _ _
      · exact .of_records rfl
    · exact .of_records rfl
  · exact purged

theorem runFed_force (s : State) : SameForce s (runFed s) := by
  have started : SameForce s (runStarted s) := .of_records (runStarted_frame s).2.1
  exact (started.trans (initialPurges_force _)).trans (tryTakeCase_force _)

end Sys2Proof.Machine
end

section
/-! RUN and the head: what its lanes bring a head that waits (R80, R83, R88, R95). -/

namespace Sys2Proof.Machine

/-- R95: only a head in HOLD_MARRIED gives up its book. -/
theorem sendIndexGo_quiet {s : State} (apart : ∀ t l, s.head ≠ .holdMarried t l) : sendIndexGo s = indexGone s := by
  rw [sendIndexGo_eq]
  split
  · rfl
  · exact headGivesUp_other (s := indexGone s) (apart _)

theorem closing_head {s : State} (apart : ∀ t l, s.head ≠ .holdMarried t l) : let u := gateTest (indexRetest s)
    u.head = s.head ∧ u.lanes = s.lanes ∧ u.marriageTimer = s.marriageTimer := by
  have retested : (indexRetest s).head = s.head ∧ (indexRetest s).lanes = s.lanes ∧
      (indexRetest s).marriageTimer = s.marriageTimer := by
    rcases indexRetest_cases s with same | goes
    · rw [same]
      exact ⟨rfl, rfl, rfl⟩
    · rw [goes, sendIndexGo_quiet apart]
      exact ⟨rfl, rfl, rfl⟩
  simpa using retested

theorem initialPurge_other {l m : LaneId} (apart : l ≠ m) (s : State) : (initialPurge m s).lanes.get l = s.lanes.get l := by
  unfold initialPurge
  split
  · rw [startPurge, setLane_lanes, Lanes.get_put_other apart]
    simp
  · rfl

theorem initialPurge_known {l : LaneId} {s : State} (known : s.lanes.get l ≠ .unknown) (m : LaneId) :
    (initialPurge m s).lanes.get l = s.lanes.get l := by
  by_cases same : l = m
  · rw [initialPurge, if_neg (same ▸ known)]
  · exact initialPurge_other same s

theorem initialPurge_unknown {l : LaneId} {s : State} (unknown : s.lanes.get l = .unknown) :
    (initialPurge l s).lanes.get l = .purging .initial none 20000 := by
  rw [initialPurge, if_pos unknown, startPurge, setLane_lanes]
  exact Lanes.get_put_same ..

/-- R88: both lanes, lane A first. -/
theorem bothPurged_get {l : LaneId} {s : State} : (initialPurge .b (initialPurge .a s)).lanes.get l =
    if s.lanes.get l = .unknown then .purging .initial none 20000 else s.lanes.get l := by
  split
  · next unknown =>
    cases l with
    | a => rw [initialPurge_known (by rw [initialPurge_unknown unknown]; nofun), initialPurge_unknown unknown]
    | b => exact initialPurge_unknown ((initialPurge_other (by decide) s).trans unknown)
  · next known => rw [initialPurge_known (by rw [initialPurge_known known]; exact known), initialPurge_known known]

theorem bothPurged_out (s : State) : (initialPurge .b (initialPurge .a s)).out = s.out ++
    ((if s.lanes.a = .unknown then [.s2Purge .a] else []) ++ (if s.lanes.b = .unknown then [.s2Purge .b] else [])) := by
  have one (l : LaneId) (x : State) : (initialPurge l x).out = x.out ++ (if x.lanes.get l = .unknown then [.s2Purge l] else []) := by
    unfold initialPurge
    split
    · simp [startPurge, setLane, send_now, PortCommand.toDrive]
    · simp
  rw [one .b, one .a, initialPurge_other (by decide), List.append_assoc]
  rfl

theorem initialPurges_settled {s : State} (known : ∀ l, s.lanes.get l ≠ .unknown) : initialPurges s = s := by
  have same (l : LaneId) (x : State) (there : x.lanes.get l ≠ .unknown) : initialPurge l x = x := if_neg there
  rw [initialPurges, same .a s (known .a), same .b s (known .b), if_neg]
  rintro (unknown | unknown)
  · exact known .a unknown
  · exact known .b unknown

/-- R83: a head whose lane holds its case takes it, whatever lanes are purged. -/
theorem runFed_takes {s : State} {tk : Ticket} {l : LaneId} {k : TitleKey} {c : Nat} (head : s.head = .waitCase tk (some l))
    (holding : s.lanes.get l = .holding k c) (key : keyOf tk s = some k) :
    (runFed s).head = .pasting tk l ∧ .s3TakeCase l ∈ (runFed s).out ∧ (runFed s).marriageTimer = none := by
  obtain ⟨line, records, -, -, -, -, -, lanes, sameHead, -⟩ := runStarted_frame s
  let b := initialPurge .b (initialPurge .a (runStarted s))
  have bHead : b.head = .waitCase tk (some l) := by simp [b, sameHead, head]
  have purged : initialPurges (runStarted s) = b := by
    unfold initialPurges
    dsimp only
    split
    · exact decideAgain_other (by rw [bHead]; simp)
    · rfl
  have bLane : b.lanes.get l = .holding k c := by
    rw [show b.lanes.get l = _ from bothPurged_get, lanes, holding]
    exact if_neg nofun
  have bKey : keyOf tk b = some k := by
    rw [← key, keyOf, keyOf, liveRecord_congr (s := s) (by simp [b, records])]
  have taken : runFed s = takeCase tk l k c b := by
    rw [runFed, purged]
    exact tryTakeCase_takes bHead bLane bKey (by simp [b, line, LineState.feeds])
  rw [taken]
  exact ⟨rfl, by simp [takeCase, send_now, PortCommand.toDrive], rfl⟩

theorem runFed_rests {s : State} {tk : Ticket} (head : s.head = .waitCase tk none) (known : ∀ l, s.lanes.get l ≠ .unknown) :
    runFed s = runStarted s := by
  obtain ⟨-, -, -, -, -, -, -, lanes, sameHead, -⟩ := runStarted_frame s
  rw [runFed, initialPurges_settled (by rw [lanes]; exact known), tryTakeCase_other]
  rw [sameHead, head]
  nofun

theorem LaneId.one_of_two {l l' : LaneId} (apart : l' ≠ l) (m : LaneId) : m = l ∨ m = l' := by
  cases l <;> cases l' <;> cases m <;> simp_all

/-- R80, R88: a lane that leaves UNKNOWN brings a head that waits with no lane a new decision. -/
theorem runFed_decides {s : State} {tk : Ticket} {k : TitleKey} {l l' : LaneId} {n : Nat} (head : s.head = .waitCase tk none)
    (key : keyOf tk s = some k) (unknown : s.lanes.get l = .unknown) (freed : s.lanes.get l' = .purging .exchange none n) :
    (runFed s).head = .waitCase tk (some l') ∧ (runFed s).lanes.get l' = .purging .exchange (some k) n := by
  obtain ⟨-, records, -, -, -, -, -, lanes, sameHead, -⟩ := runStarted_frame s
  let b := initialPurge .b (initialPurge .a (runStarted s))
  have bHead : b.head = .waitCase tk none := by simp [b, sameHead, head]
  have bKey : keyOf tk b = some k := by
    rw [← key, keyOf, keyOf, liveRecord_congr (s := s) (by simp [b, records])]
  have apart : l' ≠ l := fun same => by
    rw [same, unknown] at freed
    cases freed
  have purging : b.lanes.get l = .purging .initial none 20000 := by
    rw [show b.lanes.get l = _ from bothPurged_get, lanes, if_pos unknown]
  have kept : b.lanes.get l' = .purging .exchange none n := by
    rw [show b.lanes.get l' = _ from bothPurged_get, lanes, freed]
    exact if_neg nofun
  have each {p : Lane → Prop} (first : p (.purging .initial none 20000)) (second : p (.purging .exchange none n)) (m : LaneId) :
      p (b.lanes.get m) := by
    by_cases isL : m = l
    · rw [isL, purging]
      exact first
    · have isL' : m = l' := (LaneId.one_of_two apart m).resolve_left isL
      rw [isL', kept]
      exact second
  have chosen : freedLane b = some l' := by
    have notFreed : (b.lanes.get l).isFreed = false := by rw [purging]; rfl
    have notBoth : ¬(b.lanes.a.isFreed && b.lanes.b.isFreed) = true := by
      cases l with
      | a => simp [show b.lanes.a.isFreed = false from notFreed]
      | b => simp [show b.lanes.b.isFreed = false from notFreed]
    rw [freedLane, if_neg notBoth]
    refine Lanes.first_eq_some (by rw [kept]; rfl) fun m other => ?_
    have isL : m = l := (LaneId.one_of_two apart m).resolve_right other
    rw [isL]
    exact notFreed
  have decided : initialPurges (runStarted s) = setLane l' (.purging .exchange (some k) n)
      { b with head := .waitCase tk (some l'), openChoices := b.openChoices + 1 } := by
    have left : (runStarted s).lanes.a = .unknown ∨ (runStarted s).lanes.b = .unknown := by
      rw [lanes]
      cases l with
      | a => exact .inl unknown
      | b => exact .inr unknown
    rw [initialPurges, if_pos left, decideAgain_waits bHead bKey,
      laneDecision_freed (each (p := fun x => x.holds k = false) rfl rfl) (each (p := fun x => x ≠ .empty) nofun nofun) chosen, kept]
    rfl
  have there : (initialPurges (runStarted s)).lanes.get l' = .purging .exchange (some k) n := by
    rw [decided]
    exact Lanes.get_put_same ..
  have waits : (initialPurges (runStarted s)).head = .waitCase tk (some l') := by rw [decided]; rfl
  have stays : runFed s = initialPurges (runStarted s) := by
    rw [runFed, tryTakeCase, waits]
    simp only [there]
  rw [stays]
  exact ⟨waits, there⟩

end Sys2Proof.Machine
end

section
/-! RUN starts the line (R162). -/

namespace Sys2Proof.Machine

/-- R109, R162: the conditions on which RUN lets a held index go. -/
def IndexGoes (s : State) : Prop := s.press.index = .held ∧ s.press.state ≠ .fault ∧
  (s.press.positions.p6 = none ∨ s.tracks.jacket.length < 3)

/-- R162: the state behind the wake. -/
def runWoken (s : State) : State := wakePress (runFed s)

/-- R162: the state behind the gate test. -/
def runClosed (s : State) : State := gateTest (indexRetest (runWoken s))

theorem runClosed_line (s : State) : (runClosed s).line = ⟨.running, some .run⟩ := by
  have kept : (indexAnswered (runWoken s)).line = (runWoken s).line := by
    unfold indexAnswered
    split <;> rfl
  rw [runClosed, (closing_work _).line, kept, runWoken, show (wakePress (runFed s)).line = (runFed s).line by simp,
    (runFed_work s).line, (runStarted_frame s).1]

theorem runLine_closed (s : State) : runLine s = idleRefresh (runClosed s) := by
  rw [runLine_eq, settleLine, ← runWoken, ← runClosed, runOutTest_other (by rw [runClosed_line]; nofun)]

theorem runWoken_frame (s : State) : let d := runWoken s
    d.line = ⟨.running, some .run⟩ ∧ d.tracks = s.tracks ∧ d.readers = s.readers ∧ d.titles = s.titles ∧
      d.pendingTitles = s.pendingTitles ∧ d.retiring = s.retiring ∧ d.press.positions = s.press.positions ∧
      d.press.index = s.press.index ∧ d.press.carried = s.press.carried ∧ d.press.pd = s.press.pd ∧
      d.press.temp = s.press.temp := by
  intro d
  obtain ⟨line, -, retiring, titles, pending, tracks, readers, lanes, head, press, -⟩ := runStarted_frame s
  have fedPress : (runFed s).press = s.press := by simp [runFed, press]
  obtain ⟨-, positions, index, carried, pd, temp, -⟩ := wakePress_wakes (runFed s)
  rw [fedPress] at positions index carried pd temp
  refine ⟨?_, by simp [d, runWoken, runFed, tracks], by simp [d, runWoken, runFed, readers], by simp [d, runWoken, runFed, titles],
    by simp [d, runWoken, runFed, pending], by simp [d, runWoken, runFed, retiring], positions, index, carried, pd, temp⟩
  rw [show d.line = (runFed s).line by simp [d, runWoken], (runFed_work s).line, line]

theorem runWoken_press (s : State) :
    (s.press.state = .standby → (runWoken s).press.state = .warming ∧ .s4Wake ∈ (runWoken s).out) ∧
    (s.press.state ≠ .standby → runWoken s = runFed s ∧ (runWoken s).press.state = s.press.state) := by
  have fedPress : (runFed s).press = s.press := by simp [runFed, (runStarted_frame s).2.2.2.2.2.2.2.2.2.1]
  obtain ⟨-, -, -, -, -, -, wakes, stays, -⟩ := wakePress_wakes (runFed s)
  rw [fedPress] at wakes stays
  exact ⟨wakes, fun other => ⟨stays other, by rw [runWoken, stays other, fedPress]⟩⟩

theorem indexGoes_iff (s : State) :
    ((runWoken s).press.index = .held ∧ indexPermitted (runWoken s) = true) ↔ IndexGoes s := by
  obtain ⟨line, tracks, -, -, -, -, positions, index, -⟩ := runWoken_frame s
  obtain ⟨wakes, stays⟩ := runWoken_press s
  have fault : (runWoken s).press.state ≠ .fault ↔ s.press.state ≠ .fault := by
    by_cases standby : s.press.state = .standby
    · rw [(wakes standby).1, standby]
      exact ⟨fun _ => nofun, fun _ => nofun⟩
    · rw [(stays standby).2]
  rw [indexPermitted_iff, index, tracks, positions, fault, line, IndexGoes]
  simp only [true_or, true_and]
  exact and_congr_right fun _ => and_comm

/-- R109: what goes to S4 for the index. -/
theorem runClosed_index (s : State) :
    (IndexGoes s → indexAnswered (runWoken s) = indexGone (runWoken s)) ∧
    (¬IndexGoes s → indexAnswered (runWoken s) = runWoken s) :=
  ⟨fun goes => if_pos ((indexGoes_iff s).2 goes), fun stays => if_neg fun goes => stays ((indexGoes_iff s).1 goes)⟩

/-- What RUN may have sent before the index is tested. -/
def OfRun (s : State) (c : PortCommand) : Prop :=
  c.atHead = true ∨ c = .drivePace s.pace.commanded ∨ c = .s4Pace s.pace.commanded ∨ c = .driveRun ∨
    c = .s4Wake ∧ s.press.state = .standby

theorem runFed_sends {s : State} (empty : s.out = []) {c : PortCommand} (mem : c ∈ (runFed s).out) : OfRun s c := by
  obtain ⟨cs, out, own⟩ := (runFed_work s).out
  rw [out] at mem
  rcases List.mem_append.1 mem with started | headed
  · rcases mem_runStarted started with was | pace | pace | run
    · rw [empty] at was
      cases was
    · exact .inr (.inl pace)
    · exact .inr (.inr (.inl pace))
    · exact .inr (.inr (.inr (.inl run)))
  · exact .inl (own c headed)

theorem runWoken_sends {s : State} (empty : s.out = []) {c : PortCommand} (mem : c ∈ (runWoken s).out) : OfRun s c := by
  by_cases standby : s.press.state = .standby
  · obtain ⟨⟨ws, wakes, isWake⟩, -⟩ := wakePress_wakes (runFed s)
    rw [show (runWoken s).out = (runFed s).out ++ ws from wakes] at mem
    rcases List.mem_append.1 mem with fed | wake
    · exact runFed_sends empty fed
    · exact .inr (.inr (.inr (.inr ⟨isWake c wake, standby⟩)))
  · rw [((runWoken_press s).2 standby).1] at mem
    exact runFed_sends empty mem

/-- R162: what RUN sends. -/
theorem runClosed_sends {s : State} (empty : s.out = []) {c : PortCommand} (mem : c ∈ (runClosed s).out) :
    OfRun s c ∨ (∃ f, c = .s4IndexGo f) ∧ IndexGoes s := by
  obtain ⟨cs, out, own⟩ := (closing_work (runWoken s)).out
  rw [show (runClosed s).out = (indexAnswered (runWoken s)).out ++ cs from out] at mem
  rcases List.mem_append.1 mem with answered | headed
  · by_cases goes : IndexGoes s
    · rw [(runClosed_index s).1 goes] at answered
      rcases List.mem_append.1 answered with woken | gone
      · exact .inl (runWoken_sends empty woken)
      · exact .inr ⟨⟨_, List.mem_singleton.1 gone⟩, goes⟩
    · rw [(runClosed_index s).2 goes] at answered
      exact .inl (runWoken_sends empty answered)
  · exact .inl (.inl (own c headed))

theorem HeadWork.out_prefix {s u : State} (h : HeadWork s u) : s.out <+: u.out := by
  obtain ⟨cs, out, -⟩ := h.out
  exact ⟨cs, out.symm⟩

theorem indexAnswered_prefix (s : State) : s.out <+: (indexAnswered s).out := by
  unfold indexAnswered
  split
  · exact List.prefix_append _ _
  · exact List.prefix_rfl

/-- R80, R88: what follows when the lanes have been purged. -/
theorem runPurged_work (s : State) : HeadWork (initialPurge .b (initialPurge .a (runStarted s))) (runFed s) := by
  refine HeadWork.trans ?_ (.tryTakeCase (initialPurges (runStarted s)))
  unfold initialPurges
  dsimp only
  split
  · exact .decideAgain _
  · exact .refl _

theorem runClosed_press (s : State) : let e := runClosed s
    e.press.state = (runWoken s).press.state ∧ e.press.temp = s.press.temp ∧ e.press.pd = s.press.pd ∧
      (IndexGoes s → e.press.index = .moving ∧ e.press.carried = s.tracks.entry) ∧
      (¬IndexGoes s → e.press.index = s.press.index ∧ e.press.carried = s.press.carried) := by
  intro e
  obtain ⟨-, tracks, -, -, -, -, -, index, carried, pd, temp⟩ := runWoken_frame s
  obtain ⟨goes, stays⟩ := runClosed_index s
  obtain ⟨eState, eTemp, eIndex, eCarried, ePd⟩ : e.press.state = _ ∧ _ := (closing_work (runWoken s)).press_settings
  by_cases held : IndexGoes s
  · rw [goes held] at eState eTemp eIndex eCarried ePd
    exact ⟨eState, eTemp.trans temp, ePd.trans pd, fun _ => ⟨eIndex, eCarried.trans (by rw [← tracks]; rfl)⟩, fun other => absurd held other⟩
  · rw [stays held] at eState eTemp eIndex eCarried ePd
    exact ⟨eState, eTemp.trans temp, ePd.trans pd, fun other => absurd other held, fun _ => ⟨eIndex.trans index, eCarried.trans carried⟩⟩

theorem runClosed_lanes {s : State} {l : LaneId} (unknown : s.lanes.get l = .unknown) :
    (runClosed s).lanes.get l = .purging .initial none 20000 := by
  have lanes : (runStarted s).lanes = s.lanes := (runStarted_frame s).2.2.2.2.2.2.2.1
  have purged : (initialPurge .b (initialPurge .a (runStarted s))).lanes.get l = .purging .initial none 20000 := by
    rw [bothPurged_get, lanes, if_pos unknown]
  have fed := (runPurged_work s).initial l _ purged
  have woken : (indexAnswered (runWoken s)).lanes = (runFed s).lanes := by
    unfold indexAnswered
    split
    · simp [indexGone, runWoken]
    · simp [runWoken]
  have there : (indexAnswered (runWoken s)).lanes.get l = .purging .initial none 20000 := by rw [woken, fed, purged]
  exact ((closing_work (runWoken s)).initial l _ there).trans there

/-- R95: a head that holds no married book keeps its state behind the index. -/
theorem runClosed_head {s : State} (apart : ∀ t l, (runFed s).head ≠ .holdMarried t l) :
    (runClosed s).head = (runFed s).head ∧ (runClosed s).lanes = (runFed s).lanes ∧
      (runClosed s).marriageTimer = (runFed s).marriageTimer := by
  have same : (runWoken s).head = (runFed s).head ∧ (runWoken s).lanes = (runFed s).lanes ∧
      (runWoken s).marriageTimer = (runFed s).marriageTimer := by simp [runWoken]
  obtain ⟨head, lanes, timer⟩ := same
  obtain ⟨eHead, eLanes, eTimer⟩ := closing_head (s := runWoken s) (by rw [head]; exact apart)
  exact ⟨eHead.trans head, eLanes.trans lanes, eTimer.trans timer⟩

theorem runClosed_link (s : State) : (setLine .running .run s).link.notices <+: (runClosed s).link.notices ∧
    (runClosed s).link.held.lineState = (setLine .running .run s).link.held.lineState := by
  have link : (runStarted s).link = (setLine .running .run s).link := (runStarted_frame s).2.2.2.2.2.2.2.2.2.2
  obtain ⟨-, -, -, -, -, -, -, -, notices, held⟩ := wakePress_wakes (runFed s)
  have answered : (indexAnswered (runWoken s)).link = (runWoken s).link := by
    unfold indexAnswered
    split <;> rfl
  have fed := runFed_work s
  have closed := closing_work (runWoken s)
  rw [← link]
  refine ⟨(fed.notices.trans notices).trans (answered ▸ closed.notices), ?_⟩
  rw [show (runClosed s).link.held = _ from closed.held, answered, ← fed.held]
  exact held

theorem runClosed_gate {s : State} {tk : Ticket} (hold : s.tracks.gateHold = some tk) (ready : s.press.state = .ready)
    (a : s.lanes.a.pastInitial = true) (b : s.lanes.b.pastInitial = true) (room : s.tracks.infeed.length < 3) :
    Admitted (runClosed s) := by
  obtain ⟨line, tracks, -⟩ := runWoken_frame s
  have lanes : (runStarted s).lanes = s.lanes := (runStarted_frame s).2.2.2.2.2.2.2.1
  have same : (runWoken s).lanes = (runFed s).lanes := by simp [runWoken]
  have past (l : LaneId) (was : (s.lanes.get l).pastInitial = true) : ((runWoken s).lanes.get l).pastInitial = true := by
    rw [same]
    exact (runFed_work s).pastInitial l (by rw [lanes]; exact was)
  have state : (runWoken s).press.state = .ready := by
    rw [((runWoken_press s).2 (by rw [ready]; nofun)).2, ready]
  have woken : GateReady tk (runWoken s) :=
    ⟨by rw [tracks]; exact hold, by rw [line], state, past .a a, past .b b, by rw [tracks]; exact room⟩
  exact woken.closing

theorem runClosed_stations {s : State} (records : RecordInv s) (places : PlaceInv s) : SameStations s (runClosed s) := by
  obtain ⟨-, tracks, readers, -, -, -, positions, -⟩ := runWoken_frame s
  have woken : SameStations s (runWoken s) := ⟨by rw [tracks], positions, by rw [tracks], by rw [tracks]⟩
  have away : ∀ t, (runWoken s).readers.s3.waiting = some t → Elsewhere t (runWoken s) := fun t waits =>
    (places.waiting_elsewhere records (by rw [← readers]; exact waits)).1.congr woken
  have retested : SameStations (runWoken s) (indexRetest (runWoken s)) := by
    rcases indexRetest_cases (runWoken s) with same | goes
    · rw [same]
      exact .of_frame rfl rfl
    · rw [goes]
      exact sendIndexGo_stations away
  exact (woken.trans retested).trans (gateTest_stations _)

theorem runClosed_quiet {s : State} (quiet : s.readers.s3.waiting = none) :
    SameTitles s (runClosed s) ∧ (runClosed s).readers = s.readers ∧ (runClosed s).retiring = s.retiring := by
  obtain ⟨-, -, readers, titles, pending, retiring, -⟩ := runWoken_frame s
  have retested : (indexRetest (runWoken s)).titles = (runWoken s).titles ∧
      (indexRetest (runWoken s)).pendingTitles = (runWoken s).pendingTitles ∧
      (indexRetest (runWoken s)).readers = (runWoken s).readers ∧ (indexRetest (runWoken s)).retiring = (runWoken s).retiring := by
    rcases indexRetest_cases (runWoken s) with same | goes
    · rw [same]
      exact ⟨rfl, rfl, rfl, rfl⟩
    · obtain ⟨h, alone⟩ := sendIndexGo_alone (s := runWoken s) (by rw [readers]; exact quiet)
      rw [goes, alone]
      exact ⟨rfl, rfl, rfl, rfl⟩
  obtain ⟨rTitles, rPending, rReaders, rRetiring⟩ := retested
  simp [runClosed, SameTitles, rTitles, rPending, rReaders, rRetiring, titles, pending, readers, retiring]

/-- R88: the lanes purged, lane A first, stand in front of what else the head and the stations are sent. -/
theorem runClosed_prefix (s : State) : (runFed s).out <+: (runClosed s).out ∧ (runWoken s).out <+: (runClosed s).out ∧
    (runStarted s).out ++ ((if s.lanes.a = .unknown then [.s2Purge .a] else []) ++
      (if s.lanes.b = .unknown then [.s2Purge .b] else [])) <+: (runFed s).out := by
  have lanes : (runStarted s).lanes = s.lanes := (runStarted_frame s).2.2.2.2.2.2.2.1
  obtain ⟨⟨ws, wakes, -⟩, -⟩ := wakePress_wakes (runFed s)
  have woken : (runFed s).out <+: (runWoken s).out := ⟨ws, wakes.symm⟩
  have closed : (runWoken s).out <+: (runClosed s).out := (indexAnswered_prefix _).trans (closing_work _).out_prefix
  have purged := bothPurged_out (runStarted s)
  rw [lanes] at purged
  refine ⟨woken.trans closed, closed, ?_⟩
  rw [← purged]
  exact (runPurged_work s).out_prefix

/-- R110: INDEX_GO carries the setpoint of the book at the entry place. -/
theorem runClosed_setpoint {s : State} (goes : IndexGoes s) :
    .s4IndexGo (s.tracks.entry.bind fun t => (liveRecord t s).bind (·.force)) ∈ (runClosed s).out := by
  have tracks := (runWoken_frame s).2.1
  have force (t : Ticket) : (liveRecord t (runWoken s)).bind (·.force) = (liveRecord t s).bind (·.force) := by
    have woken : SameForce (runFed s) (runWoken s) := .of_records (by simp [runWoken])
    exact (runFed_force s).trans woken t
  refine (closing_work (runWoken s)).out_prefix.subset ?_
  rw [(runClosed_index s).1 goes]
  refine List.mem_append_right _ (List.mem_singleton.2 ?_)
  rw [tracks]
  simp only [force]

/-- Settles O35: what RUN sends and changes, step by step. -/
theorem runStartsTheLine : Obligations.RunStartsTheLine := by
  intro n rest s q queued stands
  have allowed : standsFree s.line.state = true := by rcases stands with state | state <;> rw [state] <;> rfl
  obtain ⟨ran, answer⟩ := exec_line queued (f := runLine) rfl allowed
  let r := served rest s
  let u := runLine r
  let t := filled ⟨.lineCommand 1, n⟩ (lineWords u.line.state) u
  let e := runClosed r
  have closed : u = idleRefresh e := runLine_closed r
  have line : u.line = ⟨.running, some .run⟩ := by
    rw [closed]
    simpa using runClosed_line r
  have words : lineWords u.line.state = [3] := by rw [line]; rfl
  have tOut : t.out = e.out := by simp [t, closed]
  have tLanes : t.lanes = e.lanes := by simp [t, closed]
  have tHead : t.head = e.head ∧ t.marriageTimer = e.marriageTimer := by simp [t, closed]
  have tTracks : t.tracks = e.tracks := by simp [t, closed]
  have tPress : t.press.state = e.press.state ∧ t.press.temp = e.press.temp ∧ t.press.pd = e.press.pd ∧
      t.press.index = e.press.index ∧ t.press.carried = e.press.carried ∧ t.press.positions = e.press.positions := by
    simp [t, closed, idleRefresh]
  have tLink : t.link.notices = e.link.notices ∧ t.link.held = e.link.held := by simp [t, closed]
  obtain ⟨state, temp, pd, index, carried, positions⟩ := tPress
  obtain ⟨eState, eTemp, ePd, eGoes, eStays⟩ := runClosed_press r
  obtain ⟨wakes, stays'⟩ := runWoken_press r
  obtain ⟨fedOut, wokenOut, purgedOut⟩ := runClosed_prefix r
  have sends {c : PortCommand} (mem : c ∈ t.out) := runClosed_sends (s := r) rfl (tOut ▸ mem)
  have goesIff : IndexGoes r ↔ s.press.index = .held ∧ s.press.state ≠ .fault ∧
    (s.press.positions.p6 = none ∨ s.tracks.jacket.length < 3) := Iff.rfl
  refine ⟨t, ran, words ▸ answer, by simpa [t] using line, fun free => ?_, fun l unknown => ?_, fun standby => ?_, fun other => ?_,
    fun tk l k c head holding key => ?_, ?_, ⟨fun goes => ?_, fun stays => ?_⟩, fun tk head a b => ?_,
    fun tk k l l' m head key unknown freed => ?_, ⟨fun room => ?_, fun full => ?_⟩, fun tk hold ready a b room => ?_,
    fun records places => ?_, ?_, ?_, ?_, ?_, ?_, ?_, fun quiet => ?_⟩
  · have started := runStarted_out (s := r) free
    rw [tOut, List.append_assoc]
    have front := purgedOut.trans fedOut
    rw [started] at front
    exact front
  · rw [tLanes]
    exact runClosed_lanes unknown
  · obtain ⟨warming, told⟩ := wakes standby
    exact ⟨by rw [state, eState, warming], by rw [tOut]; exact wokenOut.subset told⟩
  · refine ⟨by rw [state, eState, (stays' other).2]; rfl, fun mem => ?_⟩
    rcases sends mem with (head | pace | pace | run | ⟨-, standby⟩) | ⟨⟨f, index⟩, -⟩
    · cases head
    · cases pace
    · cases pace
    · cases run
    · exact other standby
    · cases index
  · obtain ⟨pasting, told, timer⟩ := runFed_takes (s := r) head holding key
    obtain ⟨eHead, -, eTimer⟩ := runClosed_head (s := r) (by rw [pasting]; nofun)
    exact ⟨by rw [tHead.1, eHead, pasting], by rw [tOut]; exact fedOut.subset told, by rw [tHead.2, eTimer, timer]⟩
  · rw [index]
    split
    · next goes => exact (eGoes (goesIff.2 goes)).1
    · next stays => exact (eStays fun goes => stays (goesIff.1 goes)).1
  · refine ⟨by rw [carried, (eGoes goes).2]; rfl, fun entry => ?_, fun tk x entry live => ?_⟩
    all_goals
      have told := runClosed_setpoint (s := r) goes
      rw [show r.tracks.entry = _ from entry] at told
      rw [tOut]
    · exact told
    · have live' : liveRecord tk r = some x := live
      simpa only [Option.bind_some, live'] using told
  · refine ⟨by rw [carried, (eStays stays).2]; rfl, fun f mem => ?_⟩
    rcases sends mem with (head | pace | pace | run | ⟨wake, -⟩) | ⟨-, goes⟩
    · cases head
    · cases pace
    · cases pace
    · cases run
    · cases wake
    · exact stays goes
  · have rests := runFed_rests (s := r) head fun l => by
      cases l with
      | a => exact a
      | b => exact b
    obtain ⟨-, -, -, -, -, -, -, lanes, sameHead, -⟩ := runStarted_frame r
    obtain ⟨eHead, eLanes, -⟩ := runClosed_head (s := r) (by rw [rests, sameHead, show r.head = _ from head]; nofun)
    exact ⟨by rw [tHead.1, eHead, rests, sameHead]; rfl, by rw [tLanes, eLanes, rests, lanes]; rfl⟩
  · obtain ⟨waits, carries⟩ := runFed_decides (s := r) head key unknown freed
    obtain ⟨eHead, eLanes, -⟩ := runClosed_head (s := r) (by rw [waits]; nofun)
    exact ⟨by rw [tHead.1, eHead, waits], by rw [tLanes, eLanes, carries]⟩
  · obtain ⟨notices, -⟩ := runClosed_link r
    rw [tLink.1]
    have said := (produce_places (.lineState .running .run) { r with line := ⟨.running, some .run⟩ }).1 room
    rw [show (setLine .running .run r).link.notices = _ from said] at notices
    exact notices
  · obtain ⟨-, held⟩ := runClosed_link r
    rw [tLink.2, held]
    have said := (produce_places (.lineState .running .run) { r with line := ⟨.running, some .run⟩ }).2 full
    rw [show (setLine .running .run r).link.held = _ from said]
    rfl
  · obtain ⟨gate, told⟩ := runClosed_gate (s := r) hold ready a b room
    exact ⟨by rw [tTracks]; exact gate, by rw [tOut]; exact told⟩
  · obtain ⟨entry, press, jacket, delivery⟩ := runClosed_stations (s := r) (records.congr rfl rfl)
      (places.congr rfl rfl rfl rfl rfl rfl)
    exact ⟨by rw [tTracks]; exact entry, by rw [tTracks]; exact jacket, by rw [tTracks]; exact delivery, positions.trans press⟩
  · rw [pd, ePd]
    rfl
  · rw [temp, eTemp]
    rfl
  · simp [t, u, r]
  · simp [t, u, r]
  · simp [t, u, r]
  · simp [t, u, r]
  · obtain ⟨⟨titles, pending⟩, readers, retiring⟩ := runClosed_quiet (s := r) quiet
    have same : t.titles = e.titles ∧ t.pendingTitles = e.pendingTitles ∧ t.readers = e.readers ∧ t.retiring = e.retiring := by
      simp [t, closed]
    obtain ⟨tTitles, tPending, tReaders, tRetiring⟩ := same
    exact ⟨⟨tTitles.trans titles, tPending.trans pending⟩, tReaders.trans readers, tRetiring.trans retiring⟩

end Sys2Proof.Machine
end

section
/-! A Load Title whose announcement takes a waiting record away (R36, R61, R83): why not every record that waited is resolved. -/

namespace Sys2Proof.Machine

/-- A book of key 5 that waits for its title, in a stage. -/
def waitingBook (copy : BitVec 8) (stage : Stage) (thickness : Nat) : BookRecord where
  ticket := ⟨1, copy⟩
  key := 5
  source := .table
  resolved := false
  stage := stage
  thickness := some thickness

/-- The parameters that the first book's thickness, 50 mm, does not fit. -/
def thinTitle : TitleParams := ⟨20, 200, 100, 1, 1, none⟩

/-- Two books wait for key 5: one in the head, and one behind it that bears the wrong-block mark and whose reading waits at S3. The
notice queue is full. No run comes here, as only a resolved book is marked (R61); `RecordInv` and `PlaceInv` do not speak of the mark. -/
def markedBehind : State :=
  { State.reset with
    records := [waitingBook 1 .head 50, waitingBook 2 .infeed 20]
    pendingTitles := [⟨5, 2⟩]
    tracks := { Tracks.resetValue with infeed := [⟨⟨1, 2⟩, true⟩] }
    readers := { Readers.resetValue with s3 := ⟨some ⟨1, 2⟩, some ⟨1, 2⟩, none⟩ }
    head := .waitTitle ⟨1, 1⟩
    link := { Link.resetValue with
      requests := [⟨.loadTitle 5 0 thinTitle, 0⟩]
      notices := List.replicate 32 ⟨0, .lineState .halted .run⟩
      attn := true } }

theorem markedBehind_records : RecordInv markedBehind where
  room := by decide
  tickets := by decide
  order := by decide
  retires t := by simp [markedBehind, waitingBook, State.reset]
  outcome := by decide
  reasons := by decide
  flags := by decide

theorem markedBehind_places : PlaceInv markedBehind where
  stands st admitted retiring t := by
    cases st
    case admitted => exact absurd rfl admitted
    case retiring => exact absurd rfl retiring
    all_goals simp [standing, markedBehind, waitingBook, State.reset, Tracks.resetValue, Press.resetValue, Positions.empty,
      Positions.tickets, eq_comm]
  once st := by cases st <;> decide
  position := by decide
  married t l h := by cases h
  waiting t h := by cases h
  readS3 t h := by cases h; decide
  readS5 t h := by cases h
  jacketing t h := by cases h

/-- The first book fails its thickness check and is ejected; the head takes the reading that waits and ejects the marked second book
before its turn to resolve. -/
theorem exec_markedBehind : ∃ t, exec .loadTitle markedBehind = .next t ∧
    (findRecord ⟨1, 2⟩ t).map (·.resolved) = some false := ⟨_, rfl, rfl⟩

/-- Refutes O23: from `markedBehind`, which meets every premise, a Load Title leaves a record that waited unresolved, in RETIRING. -/
theorem not_loadTitleUpdatesOrInstalls : ¬ Obligations.LoadTitleUpdatesOrInstalls := by
  rintro ⟨-, installs⟩
  obtain ⟨t, ran, unresolved⟩ := exec_markedBehind
  obtain ⟨-, installed⟩ := installs 5 0 thinTitle 0 [] markedBehind rfl (by decide) (by decide) (by decide) rfl
  obtain ⟨t', ran', -, -, -, -, -, -, waited, -⟩ := installed _ (.inl ⟨rfl, .inl rfl⟩)
  have same : t' = t := by
    rw [ran] at ran'
    exact (Host.Outcome.next.inj ran').symm
  obtain ⟨r, found, kept⟩ := Option.map_eq_some_iff.1 unresolved
  obtain ⟨-, resolves⟩ := waited markedBehind_records markedBehind_places (waitingBook 2 .infeed 20) (by simp [markedBehind]) (by decide)
  obtain ⟨resolved, -⟩ := resolves r (by rw [same]; exact found)
  rw [kept] at resolved
  cases resolved

end Sys2Proof.Machine
end

section
/-! The places of the records (R6): why the place invariant alone is not kept by every step. -/

namespace Sys2Proof.Machine

/-- A resolved ONE_OFF record of key 5 in a stage. -/
def placedBook (copy : BitVec 8) (stage : Stage) : BookRecord where
  ticket := ⟨1, copy⟩
  key := 5
  source := .oneOff
  resolved := true
  stage := stage

/-- Two books in a full delivery track, PASSED of the first in front, and a third book at the head of the jacket track whose reading
waits at S5 though S5 has accepted no reading. R65 writes the last accepted ticket when the reading is accepted, so no run comes here;
`PlaceInv` ties the last accepted ticket only to the book of the jacketing state, not to the waiting reading. -/
def waitingUnaccepted : State :=
  { State.reset with
    pending := [.passed (.named ⟨1, 1⟩)]
    records := [placedBook 1 .delivery, placedBook 2 .delivery, placedBook 3 .jacket]
    tracks := { Tracks.resetValue with jacket := [⟨1, 3⟩], delivery := [⟨1, 1⟩, ⟨1, 2⟩] }
    readers := { Readers.resetValue with s5 := ⟨none, some ⟨1, 3⟩, none⟩, s6 := ⟨some ⟨1, 1⟩, none, none⟩ }
    jackets := { Jackets.resetValue with sequence := [5] }
    ports := { Ports.resetValue with s6 := ⟨0, none⟩ } }

theorem waitingUnaccepted_records : RecordInv waitingUnaccepted where
  room := by decide
  tickets := by decide
  order := by decide
  retires t := by simp [waitingUnaccepted, placedBook, State.reset]
  outcome := by decide
  reasons := by decide
  flags := by decide

theorem waitingUnaccepted_tracks : TrackInv waitingUnaccepted :=
  ⟨by decide, by decide, by decide, by decide, by decide⟩

theorem waitingUnaccepted_places : PlaceInv waitingUnaccepted where
  stands st admitted retiring t := by
    cases st
    case admitted => exact absurd rfl admitted
    case retiring => exact absurd rfl retiring
    all_goals simp [standing, waitingUnaccepted, placedBook, State.reset, Tracks.resetValue, Press.resetValue, Positions.empty,
      Positions.tickets, eq_comm]
  once st := by cases st <;> decide
  position := by decide
  married t l h := by cases h
  waiting t h := by cases h
  readS3 t h := by cases h
  readS5 t h := by cases h; decide
  jacketing t h := by cases h

/-- The step passes the first book and takes the waiting reading: the third book is verified at S5 without having been accepted. -/
theorem step_waitingUnaccepted : ∃ t, step waitingUnaccepted = .next t ∧ t.jackets.state = .verify ⟨1, 3⟩ ∧
    t.readers.s5.last = none := ⟨_, rfl, rfl, rfl⟩

/-- Refutes O59: from `waitingUnaccepted`, which meets every premise, one step puts a book in VERIFY that is not the last accepted ticket
at S5. -/
theorem not_placeInvariantIsKept : ¬ Obligations.PlaceInvariantIsKept := by
  intro kept
  obtain ⟨t, stepped, verifies, unaccepted⟩ := step_waitingUnaccepted
  have places := kept _ t waitingUnaccepted_records waitingUnaccepted_tracks waitingUnaccepted_places stepped
  obtain ⟨-, accepted⟩ := places.jacketing ⟨1, 3⟩ (by rw [verifies]; rfl)
  rw [unaccepted] at accepted
  cases accepted

end Sys2Proof.Machine
end
